-- ==== Sys2Proof/Word.lean ====
section
/-! DEFINITION. The words of the part: octets, 16-bit words of the two windows, 32-bit registers, labels, block
numbers, segment sets, and the index types of its tables. -/

namespace Sys2Proof

/-- An octet (00_scope.md, Units). -/
abbrev Octet := BitVec 8

/-- A 16-bit word of the register window or the packet memory window (12_formats_and_codes.md 12.1). -/
abbrev Word := BitVec 16

/-- A PARAM or RESULT register (R194). -/
abbrev Reg := BitVec 32

/-- A label, 1 to 255; 0 names the link (R96). -/
abbrev Label := BitVec 8

/-- A block number, 0 to 255, counted modulo 256 (R28). -/
abbrev BlockNumber := BitVec 8

/-- A word address on A1 to A17 within the selected window (09_frames_on_the_line.md 9.7). -/
abbrev WordAddress := BitVec 17

/-- A set of segment indices 0 to 63, in the form of the missing map: bit i is set when i is a member (R184). -/
abbrev SegSet := BitVec 64

/-- A circuit number, 0 to 63 (R1). -/
abbrev CircuitNo := Fin 64

/-- A descriptor number, 0 to 255 (R79). -/
abbrev DescNo := Fin 256

end Sys2Proof
end

