-- ==== Sys2Proof/Syntax.lean ====
section
/-! DEFINITION. The commands of the block, one constructor for each row of spec/opcode_table.json, and the frames of
the line, whose fields the arrival rows carry. A host command has no operand of its own: at its taking the owning
block reads the PARAM registers, which State holds (R196, R211). -/

namespace Sys2Proof

/-- The outcome field of a BLOCK-STATUS frame, with the missing map where the outcome is MISSING (R184, R209). -/
inductive StatusOutcome where
  | missing (map : SegSet)
  | complete
  | abandoned
deriving DecidableEq, Repr

/-- A frame as its named fields (R183, R184). `dst` and `src` are the destination and source labels; a kind that
carries no source label, and a link kind, has none here. -/
inductive Frame where
  | linkStart (version maxSegments : Octet) (identity startNumber : Word)
  | linkAgree (maxSegments : Octet) (identity startNumber : Word)
  | linkStop (cause : Octet)
  | openFrame (dst src : Label) (requested : Octet) (service : Word) (data : List Octet)
  | accept (dst src : Label) (agreed : Octet)
  | refuse (dst src : Label) (cause diagnostic : Octet)
  | close (dst src : Label) (cause diagnostic : Octet)
  | closeDone (dst src : Label)
  | rewind (dst : Label) (cause : Octet)
  | rewindDone (dst : Label)
  | seg (dst : Label) (number : BlockNumber) (index : Octet) (payload : List Octet)
  | blockEnd (dst : Label) (number : BlockNumber) (count : Octet)
  | blockAbandon (dst : Label) (number : BlockNumber)
  | blockStatus (dst : Label) (number : BlockNumber) (outcome : StatusOutcome) (ready : Bool)
  | probe (dst : Label)
  | ready (dst : Label) (ready : Bool)
deriving DecidableEq, Repr

/-- The commands of the block: one constructor for each row of the table, in the table's order. -/
inductive Instr where
  /-- SET_LINK: taking of SET-LINK (R155). -/
  | setLink
  /-- READ_LINK: taking of READ-LINK (R174). -/
  | readLink
  /-- START_LINK: taking of START-LINK (R162). -/
  | startLink
  /-- STOP_LINK: taking of STOP-LINK (R167). -/
  | stopLink
  /-- LISTEN: taking of LISTEN (R113). -/
  | listen
  /-- UNLISTEN: taking of UNLISTEN (R114). -/
  | unlisten
  /-- READ_LISTEN: taking of READ-LISTEN (R114). -/
  | readListen
  /-- OPEN: taking of the OPEN command (R115). -/
  | openCommand
  /-- ANSWER: taking of ANSWER (R121). -/
  | answer
  /-- CLOSE: taking of the CLOSE command (R134). -/
  | closeCommand
  /-- REWIND: taking of the REWIND command (R142). -/
  | rewindCommand
  /-- RETIRE: taking of RETIRE (R21). -/
  | retire
  /-- FIX: taking of FIX (R172). -/
  | fix
  /-- UNFIX: taking of UNFIX (R173). -/
  | unfix
  /-- READ_CIRCUIT: taking of READ-CIRCUIT (R18). -/
  | readCircuit
  /-- SET_CIRCUIT: taking of SET-CIRCUIT (R20). -/
  | setCircuit
  /-- ALLOC: taking of ALLOC (R82). -/
  | alloc
  /-- FREE: taking of the FREE command (R84). -/
  | freeCommand
  /-- SUBMIT: taking of SUBMIT (R26). -/
  | submit
  /-- TAKE: taking of TAKE (R70). -/
  | take
  /-- READ_DESCRIPTOR: taking of READ-DESCRIPTOR (R92). -/
  | readDescriptor
  /-- READ_POOL: taking of READ-POOL (R93). -/
  | readPool
  /-- INITIALISE: taking of INITIALISE (R199). -/
  | initialise
  /-- READ_LABEL: taking of READ-LABEL (R109). -/
  | readLabel
  /-- UNKNOWN_COMMAND: taking of a code that names no command (R195). -/
  | unknownCommand
  /-- REGISTER_WRITE: host write to the register window (R194, R211). -/
  | registerWrite (address : WordAddress) (value : Word)
  /-- PORT_CONTROL_WRITE: host write to PORT CONTROL (R207). -/
  | portControlWrite (value : Word)
  /-- EVENT_POP: host write to EVENT POP; the value written is not used (R205). -/
  | eventPop
  /-- PACKET_MEMORY_READ: host read of a word of the packet memory window (R90). -/
  | packetMemoryRead (address : WordAddress)
  /-- PACKET_MEMORY_WRITE: host write to a word of the packet memory window (R90). -/
  | packetMemoryWrite (address : WordAddress) (value : Word)
  /-- HARDWARE_RESET: the RESET input falls and is released (R201). -/
  | hardwareReset
  /-- START_UP_END: the last page has been zeroed (R201). -/
  | startUpEnd
  /-- LINE_READY_FALL: LRDY falls (R171). -/
  | lineReadyFall
  /-- LINE_READY_RISE: LRDY rises (R171). -/
  | lineReadyRise
  /-- CANDIDATE_DISCARD: octets received on RXD whose candidates are all discarded (R180, R182). -/
  | candidateDiscard (octets : List Octet)
  /-- LINK_START_ARRIVAL (R163). -/
  | linkStartArrival (version maxSegments : Octet) (identity startNumber : Word)
  /-- LINK_AGREE_ARRIVAL (R165). -/
  | linkAgreeArrival (maxSegments : Octet) (identity startNumber : Word)
  /-- LINK_STOP_ARRIVAL (R168). -/
  | linkStopArrival (cause : Octet)
  /-- OPEN_FRAME_ARRIVAL (R117). -/
  | openFrameArrival (dst src : Label) (requested : Octet) (service : Word) (data : List Octet)
  /-- ACCEPT_ARRIVAL (R127). -/
  | acceptArrival (dst src : Label) (agreed : Octet)
  /-- REFUSE_ARRIVAL (R130). -/
  | refuseArrival (dst src : Label) (cause diagnostic : Octet)
  /-- CLOSE_FRAME_ARRIVAL (R138). -/
  | closeFrameArrival (dst src : Label) (cause diagnostic : Octet)
  /-- CLOSE_DONE_ARRIVAL (R139). -/
  | closeDoneArrival (dst src : Label)
  /-- REWIND_FRAME_ARRIVAL (R146). -/
  | rewindFrameArrival (dst : Label) (cause : Octet)
  /-- REWIND_DONE_ARRIVAL (R148). -/
  | rewindDoneArrival (dst : Label)
  /-- SEG_ARRIVAL (R56). -/
  | segArrival (dst : Label) (number : BlockNumber) (index : Octet) (payload : List Octet)
  /-- BLOCK_END_ARRIVAL (R59). -/
  | blockEndArrival (dst : Label) (number : BlockNumber) (count : Octet)
  /-- BLOCK_ABANDON_ARRIVAL (R63). -/
  | blockAbandonArrival (dst : Label) (number : BlockNumber)
  /-- BLOCK_STATUS_ARRIVAL (R36). -/
  | blockStatusArrival (dst : Label) (number : BlockNumber) (outcome : StatusOutcome) (ready : Bool)
  /-- PROBE_ARRIVAL (R64). -/
  | probeArrival (dst : Label)
  /-- READY_ARRIVAL (R46). -/
  | readyArrival (dst : Label) (ready : Bool)
  /-- OPEN_TIMER_EXPIRY (R129). -/
  | openTimerExpiry (circuit : CircuitNo)
  /-- OFFER_TIMER_EXPIRY (R124). -/
  | offerTimerExpiry (circuit : CircuitNo)
  /-- STATUS_TIMER_EXPIRY (R34). -/
  | statusTimerExpiry (circuit : CircuitNo)
  /-- PROBE_TIMER_EXPIRY (R45). -/
  | probeTimerExpiry (circuit : CircuitNo)
  /-- CLOSE_TIMER_EXPIRY (R137). -/
  | closeTimerExpiry (circuit : CircuitNo)
  /-- REWIND_TIMER_EXPIRY (R145). -/
  | rewindTimerExpiry (circuit : CircuitNo)
  /-- START_TIMER_EXPIRY (R158). -/
  | startTimerExpiry
  /-- STOP_TIMER_EXPIRY (R158). -/
  | stopTimerExpiry
  /-- REST_TIME_EXPIRY (R97). -/
  | restTimeExpiry (label : Label)
  /-- TRANSMISSION_START (R187). -/
  | transmissionStart
  /-- TRANSMISSION_END (R191). -/
  | transmissionEnd
  /-- HUNT_DELIMITER_RECEIVED (R180). -/
  | huntDelimiterReceived
deriving DecidableEq, Repr

end Sys2Proof
end

