-- ==== Sys2Proof/Decode.lean ====
section
/-! DEFINITION. The command that a word spells by the table's bits. No row of spec/opcode_table.json gives bits
(spec/98_reader.md counts 63 rows and none with fixed bits), so no word spells one. -/

namespace Sys2Proof

/-- The command a word of `nbits` bits spells: none, since the table gives no row bits. -/
def decodeTableWord (_nbits _w : Nat) : Option Instr := none

end Sys2Proof
end

