-- ==== Sys2Proof/Config.lean ====
section
/-! DEFINITION. What is fixed for the part, the link configuration with its defaults (R155), and the free values:
constants without a body, of which nothing can be proved. -/

namespace Sys2Proof.Config

/-- The number of pages of page memory (R77). -/
abbrev pageCount : Nat := 1024

/-- The octets of one page (R78). -/
abbrev pageSize : Nat := 256

/-- The entries the event queue may hold (R203). -/
abbrev eventCapacity : Nat := 128

/-- The loose-reply slots (R105). -/
abbrev looseCapacity : Nat := 4

/-- The send blocks a circuit may hold (R26). -/
abbrev sendCapacity : Nat := 8

/-- The octets the receiver's buffer may hold (R180). -/
abbrev receiverCapacity : Nat := 264

/-- FREE VALUE (log 9). The 16-bit tag stored for a SUBMIT whose PARAM 3 is above 65535: R26 says the tag is not
checked and states no result for such a value. The argument is the model's counter `freeCount`. -/
opaque freeTag : Nat → Word

/-- FREE VALUE (log 9). The octet stored for a diagnostic whose PARAM register is above 255: R121 and R134 say the
diagnostic is not checked and state no result for such a value. The argument is the model's counter `freeCount`. -/
opaque freeDiagnostic : Nat → Octet

end Sys2Proof.Config

namespace Sys2Proof

/-- The link configuration (R155); times in milliseconds. -/
structure LinkConfig where
  identity       : Word
  offered        : Nat
  startInterval  : Nat
  stopTimer      : Nat
  reserve        : Nat
  openTimer      : Nat
  offerTimer     : Nat
  statusTimer    : Nat
  pollLimit      : Nat
  probeInterval  : Nat
  closeTimer     : Nat
  closeRetries   : Nat
  rewindTimer    : Nat
  rewindRetries  : Nat
  restTime       : Nat
deriving DecidableEq, Repr

/-- The default of every value of the link configuration (R155), which hardware reset sets (R175). -/
def LinkConfig.default : LinkConfig where
  identity       := 0
  offered        := 64
  startInterval  := 1000
  stopTimer      := 1000
  reserve        := 64
  openTimer      := 5000
  offerTimer     := 3000
  statusTimer    := 400
  pollLimit      := 3
  probeInterval  := 1000
  closeTimer     := 2000
  closeRetries   := 2
  rewindTimer    := 2000
  rewindRetries  := 2
  restTime       := 2000

end Sys2Proof
end

