-- ==== Sys2Proof/Machine/State.lean ====
section
/-! DEFINITION. The state of the part as plain data, block by block (00_scope.md, Functional Blocks), the reasons a
step can stop, and the state after hardware reset. INVENTORY.md lists every piece with its rule and reset value. -/

namespace Sys2Proof.Machine

/-- The reasons for a fault. The part describes none: every error is a result code, an event or a discarded frame
(R198, R203, R182), so no meaning raises one. -/
inductive Fault where
  /-- Raised by nobody: the 17 word-address bits of the packet memory window reach exactly its 262144 octets (R78,
  9.7), so no access has such an address. Safe. -/
  | noSuchAddress
deriving DecidableEq, Repr

/-- The reasons for a refusal. -/
inductive Refusal where
  /-- Raised by an arm of exec for a row without a meaning, named by its mnemonic; no arm is left so. Safe. -/
  | notModelled (mnemonic : String)
deriving DecidableEq, Repr

/-! ### Circuit Controller -/

/-- The circuit states (R11). -/
inductive CircuitState where
  | free | opening | offered | opened | rewinding | closing | closed | dormant
deriving DecidableEq, Repr

/-- The kinds of circuit (R3). -/
inductive CircuitKind where
  | dialled | fixed
deriving DecidableEq, Repr

/-- The roles of a dialled circuit (R3). -/
inductive Role where
  | initiator | responder
deriving DecidableEq, Repr

/-- The give-up policies (R6, R41). -/
inductive Policy where
  | abandon | rewind | close
deriving DecidableEq, Repr

/-- Who caused a close or a rewind (R9, R141). -/
inductive Originator where
  | local | peer | part
deriving DecidableEq, Repr

/-- The open request and the offer hold the same two values (R7, R8). -/
structure OpenTerms where
  requested : Nat
  data      : List Octet
deriving DecidableEq, Repr

/-- The close record (R9). -/
structure CloseRecord where
  cause      : Octet
  diagnostic : Octet
  originator : Originator
  discarded  : Nat
  confirmed  : Bool
deriving DecidableEq, Repr

/-- The rewind note (R141). -/
structure RewindNote where
  cause      : Octet
  originator : Originator
deriving DecidableEq, Repr

/-- The purposes of the circuit timer (R14). -/
inductive TimerPurpose where
  | openT | offer | status | probe | close | rewind
deriving DecidableEq, Repr

/-- A running circuit timer: its purpose and its remaining milliseconds (R14). -/
structure CircuitTimer where
  purpose   : TimerPurpose
  remaining : Nat
deriving DecidableEq, Repr

/-- The frame kinds the protocol class may name (R13). -/
inductive ProtocolKind where
  | openK | accept | refuse | close | closeDone | rewind | rewindDone
deriving DecidableEq, Repr

/-- The frame kinds the transfer class may name (R13). -/
inductive TransferKind where
  | blockEnd | blockAbandon | probe
deriving DecidableEq, Repr

/-- The frame kinds the answer class may name (R13). -/
inductive AnswerKind where
  | blockStatus | ready
deriving DecidableEq, Repr

/-- The sender states (R25). -/
inductive SenderState where
  | idle | sending | polling | abandoning | held | stopped
deriving DecidableEq, Repr

/-- The active block (R30): its descriptor, number, segment count, acknowledged and to-send sets and round count. -/
structure ActiveBlock where
  desc   : DescNo
  number : BlockNumber
  count  : Nat
  acked  : SegSet
  toSend : SegSet
  round  : Nat
deriving DecidableEq, Repr

/-- The send context (R24, R25). -/
structure SendContext where
  sender     : SenderState
  queue      : List DescNo
  active     : Option ActiveBlock
  pollCount  : Nat
  nextNumber : BlockNumber
  peerReady  : Bool
  lastSent   : Option (BlockNumber × Nat)
deriving DecidableEq, Repr

/-- The outcome of block E−1 (R54). -/
inductive LastOutcome where
  | none | complete | abandoned
deriving DecidableEq, Repr

/-- The receive context (R52). The received set is the set of filled slots of the assembly's descriptor. -/
structure RecvContext where
  expected     : BlockNumber
  lastOutcome  : LastOutcome
  assembly     : Option DescNo
  announced    : Option Nat
  delivered    : List DescNo
  heldReported : Bool
deriving DecidableEq, Repr

/-- One record of the Circuit Table (section 1.2). An absent field is `none`, or zero for a label, service number,
limit or window that only a FREE record lacks. -/
structure CircuitRecord where
  state        : CircuitState
  stale        : Bool
  kind         : Option CircuitKind
  role         : Option Role
  localLabel   : Label
  peerLabel    : Option Label
  service      : Word
  maxSegments  : Option Nat
  fixedMaximum : Option Nat
  roundLimit   : Nat
  policy       : Option Policy
  window       : Nat
  openRequest  : Option OpenTerms
  offer        : Option OpenTerms
  closeRecord  : Option CloseRecord
  note         : Option RewindNote
  timer        : Option CircuitTimer
  retryCount   : Nat
  protocol     : Option ProtocolKind
  transfer     : Option TransferKind
  answer       : Option AnswerKind
  send         : SendContext
  recv         : RecvContext
deriving DecidableEq, Repr

/-- A send context with no block, STOPPED, and the given peer-ready flag (R24). -/
def SendContext.fresh (sender : SenderState) (peerReady : Bool) : SendContext :=
  { sender, queue := [], active := none, pollCount := 0, nextNumber := 0, peerReady, lastSent := none }

/-- The receive context of a new circuit (R52). -/
def RecvContext.fresh : RecvContext :=
  { expected := 0, lastOutcome := .none, assembly := none, announced := none, delivered := [], heldReported := false }

/-- A FREE record: every field absent but its state and its stale flag (R11). -/
def CircuitRecord.free (stale : Bool) : CircuitRecord where
  state        := .free
  stale        := stale
  kind         := none
  role         := none
  localLabel   := 0
  peerLabel    := none
  service      := 0
  maxSegments  := none
  fixedMaximum := none
  roundLimit   := 0
  policy       := none
  window       := 0
  openRequest  := none
  offer        := none
  closeRecord  := none
  note         := none
  timer        := none
  retryCount   := 0
  protocol     := none
  transfer     := none
  answer       := none
  send         := SendContext.fresh .stopped false
  recv         := RecvContext.fresh

/-- The listen policies (R112). -/
inductive ListenPolicy where
  | auto | refer
deriving DecidableEq, Repr

/-- An entry of the listen table (R112). -/
structure ListenEntry where
  service     : Word
  policy      : ListenPolicy
  maxSegments : Nat
  window      : Nat
  roundLimit  : Nat
  giveUp      : Policy
deriving DecidableEq, Repr

/-! ### Label Map -/

/-- A label entry (R96): FREE, BOUND to a circuit with its fixed flag, or RESTING with its remaining milliseconds. -/
inductive LabelEntry where
  | free
  | bound (circuit : CircuitNo) (fixed : Bool)
  | resting (remaining : Nat)
deriving DecidableEq, Repr

/-- The kind of a loose reply, with its cause and diagnostic where it carries them (R105). -/
inductive LooseBody where
  | refuse (cause diagnostic : Octet)
  | close (cause diagnostic : Octet)
  | closeDone
deriving DecidableEq, Repr

/-- An entry of the loose-reply queue (R105). -/
structure LooseReply where
  body : LooseBody
  dst  : Label
  src  : Label
deriving DecidableEq, Repr

/-! ### Buffer Manager -/

/-- The descriptor states (R79). -/
inductive DescState where
  | free | filling | queued | active | assembling | delivered | held | returning
deriving DecidableEq, Repr

/-- A filled slot of an assembly: its segment index, its page and the octets the segment carried (section 3.1). -/
structure Slot where
  index  : Nat
  page   : Nat
  octets : Nat
deriving DecidableEq, Repr

/-- A descriptor (R79). `pages` is the page list of every state but ASSEMBLING, slot i holding the i-th page; `slots`
are the filled slots of an ASSEMBLING descriptor, in index order. -/
structure Descriptor where
  state       : DescState
  circuit     : Option CircuitNo
  pages       : List Nat
  slots       : List Slot
  byteLength  : Option Nat
  tag         : Option Word
  blockNumber : Option BlockNumber
deriving DecidableEq, Repr

/-- A FREE descriptor: every field absent (R79). -/
def Descriptor.free : Descriptor :=
  { state := .free, circuit := none, pages := [], slots := [], byteLength := none, tag := none, blockNumber := none }

/-- Page memory: the octets that are not zero, by address in the packet memory window, addresses rising (R78, R94). -/
abbrev Memory := List Host.Cell

/-! ### Link Supervisor -/

/-- The link states (R154). -/
inductive LinkState where
  | down | starting | up | stopping
deriving DecidableEq, Repr

/-- The stop kinds (R167, R168). -/
inductive StopKind where
  | local | answering
deriving DecidableEq, Repr

/-- The purposes of the link timer (R158). -/
inductive LinkPurpose where
  | start | stop
deriving DecidableEq, Repr

/-- A running link timer (R158). -/
structure LinkTimer where
  purpose   : LinkPurpose
  remaining : Nat
deriving DecidableEq, Repr

/-- What the pending link frame may name (R157). -/
inductive PendingLink where
  | linkStart
  | linkAgree
  | linkStop (cause : Octet)
deriving DecidableEq, Repr

/-- The link record (section 8.3) with the link configuration (R155). -/
structure Link where
  state         : LinkState
  config        : LinkConfig
  ownStart      : Word
  agreed        : Option Nat
  peerIdentity  : Option Word
  peerStart     : Option Word
  stopKind      : Option StopKind
  timer         : Option LinkTimer
  pending       : Option PendingLink
  looped        : Bool
  lastStopCause : Octet
deriving DecidableEq, Repr

/-- The link after hardware reset (R175). -/
def Link.reset : Link where
  state         := .down
  config        := LinkConfig.default
  ownStart      := 0
  agreed        := none
  peerIdentity  := none
  peerStart     := none
  stopKind      := none
  timer         := none
  pending       := none
  looped        := false
  lastStopCause := 0

/-! ### Line Interface -/

/-- The receiver's states (R180). -/
inductive ReceiverPhase where
  | hunt | collect | escaped
deriving DecidableEq, Repr

/-- The receiver: its state and the candidate collected so far, escapes removed (R180). -/
structure Receiver where
  phase  : ReceiverPhase
  buffer : List Octet
deriving DecidableEq, Repr

/-- The owner of a frame in transmission (R186). -/
inductive TxOwner where
  | link
  | loose
  | circuit (c : CircuitNo)
deriving DecidableEq, Repr

/-- The frame in transmission (R186, R190): its owner, the frame as built at its start, the detached mark, and for a
SEG the pinned page and its descriptor (R88). The kind, block number and segment index are the frame's. -/
structure TxFrame where
  owner    : TxOwner
  frame    : Frame
  detached : Bool
  pin      : Option (Nat × DescNo)
deriving DecidableEq, Repr

/-- What the transmitter puts on TXD (R178, R190, R192). -/
inductive LineOutput where
  /-- delimiters continuously (R178) -/
  | idleFill
  /-- the frame in transmission (R190) -/
  | frame
  /-- the abort sequence 9Bh 9Ch followed by idle fill (R192) -/
  | abort
deriving DecidableEq, Repr

/-! ### Command Port -/

/-- The port states (section 10.2). -/
inductive PortState where
  | idle | busy | done
deriving DecidableEq, Repr

/-- The result codes (R198, R213). -/
inductive ResultCode where
  | ok | unknownCommand | badParam | badCircuit | badState | linkNotUp | noSlot | noLabel | noPages | noDescriptor
  | queueFull | badDescriptor | empty | lineNotReady
deriving DecidableEq, Repr

/-- The Command Port's registers (R194). -/
structure Port where
  state   : PortState
  command : Word
  params  : Vector Reg 8
  results : Vector Reg 8
  result  : ResultCode
  collide : Bool
deriving DecidableEq, Repr

/-- The Command Port after hardware reset: BUSY for the start-up period (R201, R202). -/
def Port.reset : Port where
  state   := .busy
  command := 0
  params  := Vector.replicate 8 0
  results := Vector.replicate 8 0
  result  := .ok
  collide := false

/-! ### Event Port -/

/-- The thirteen event kinds (R203). -/
inductive EventKind where
  | linkUp | linkDown | looped | opened | openFailed | offer | rewound | blockSent | blockFailed | blockArrived
  | accessFault | overflow | closed
deriving DecidableEq, Repr

/-- An entry of the event queue (R203); a field its kind does not carry is absent. -/
structure Event where
  kind       : EventKind
  circuit    : Option CircuitNo := none
  cause      : Option Octet := none
  originator : Option Originator := none
  tag        : Option Word := none
  block      : Option Octet := none
  count      : Option Nat := none
  page       : Option Nat := none
deriving DecidableEq, Repr

/-! ### The part -/

/-- The state of the part. -/
structure State where
  /-- Circuit Table (R1) -/
  circuits    : Vector CircuitRecord 64
  /-- listen table (R112) -/
  listen      : Vector (Option ListenEntry) 16
  /-- label entries: index l−1 holds label l (R96) -/
  labels      : Vector LabelEntry 255
  /-- allocation pointer (R98) -/
  allocPtr    : Label
  /-- loose-reply queue, oldest first (R105) -/
  loose       : List LooseReply
  /-- descriptors (R79) -/
  descriptors : Vector Descriptor 256
  /-- page memory (R78) -/
  memory      : Memory
  /-- access-fault latch (R91) -/
  latch       : Option Nat
  /-- the link (R154 to R158) -/
  link        : Link
  /-- LRDY (R171) -/
  lineReady   : Bool
  /-- line receiver (R180) -/
  receiver    : Receiver
  /-- frame in transmission (R186) -/
  tx          : Option TxFrame
  /-- what TXD carries (R178) -/
  line        : LineOutput
  /-- control position (R186) -/
  controlPos  : CircuitNo
  /-- data position (R186) -/
  dataPos     : CircuitNo
  /-- Command Port (R194) -/
  port        : Port
  /-- the start-up period runs (R201) -/
  startUp     : Bool
  /-- milliseconds since the end of the start-up period (R156) -/
  msCount     : Nat
  /-- D0 to D15 as the last packet memory read drove them (log 14) -/
  dataBus     : Word
  /-- event queue, oldest first (R203) -/
  events      : List Event
  /-- link stale flag (R206) -/
  linkStale   : Bool
  /-- interrupt enable (R207) -/
  intEnable   : Bool
  /-- the model's counter of free values taken (log 9) -/
  freeCount   : Nat
  /-- the model's queue of commands waiting, oldest first (log 24) -/
  pending     : List Instr
deriving DecidableEq, Repr

/-- The machine right after hardware reset, its start-up period beginning (R22, R94, R110, R112, R175, R180, R186,
R201, R202, R208). DESIGN CHOICE: LRDY low (log 6), the data bus and the free-value counter 0 (log 14, log 9). -/
def State.reset : State where
  circuits    := Vector.replicate 64 (CircuitRecord.free false)
  listen      := Vector.replicate 16 none
  labels      := Vector.replicate 255 .free
  allocPtr    := 1
  loose       := []
  descriptors := Vector.replicate 256 Descriptor.free
  memory      := []
  latch       := none
  link        := Link.reset
  lineReady   := false
  receiver    := { phase := .hunt, buffer := [] }
  tx          := none
  line        := .idleFill
  controlPos  := 63
  dataPos     := 63
  port        := Port.reset
  startUp     := true
  msCount     := 0
  dataBus     := 0
  events      := []
  linkStale   := false
  intEnable   := false
  freeCount   := 0
  pending     := []

end Sys2Proof.Machine
end

