-- ==== Sys2Proof/Machine/Codes.lean ====
section
/-! DEFINITION. The codes of 12_formats_and_codes.md: cause codes (R210), command and result codes (R213), event kinds
(R212) and the values presented in the register window (R214). A code of 0 stands for absent. -/

namespace Sys2Proof.Machine

/-! ### Cause codes (R210) -/

def Cause.none : Octet := 0x00
def Cause.local : Octet := 0x01
def Cause.refused : Octet := 0x02
def Cause.noService : Octet := 0x03
def Cause.busy : Octet := 0x04
def Cause.noAnswer : Octet := 0x05
def Cause.timeout : Octet := 0x06
def Cause.noResponse : Octet := 0x07
def Cause.stale : Octet := 0x08
def Cause.protocol : Octet := 0x09
def Cause.rounds : Octet := 0x0A
def Cause.tooLarge : Octet := 0x0B
def Cause.lineLost : Octet := 0x0C
def Cause.linkStop : Octet := 0x0D
def Cause.linkReset : Octet := 0x0E
def Cause.version : Octet := 0x0F

/-! ### Command codes (R213) -/

/-- The code of each of the 24 host commands; none for a row that is no host command (R213). -/
def commandCode : Instr → Option Word
  | .setLink => some 0x01
  | .readLink => some 0x02
  | .startLink => some 0x03
  | .stopLink => some 0x04
  | .listen => some 0x05
  | .unlisten => some 0x06
  | .openCommand => some 0x07
  | .answer => some 0x08
  | .closeCommand => some 0x09
  | .rewindCommand => some 0x0A
  | .retire => some 0x0B
  | .fix => some 0x0C
  | .unfix => some 0x0D
  | .readCircuit => some 0x0E
  | .setCircuit => some 0x0F
  | .alloc => some 0x10
  | .freeCommand => some 0x11
  | .submit => some 0x12
  | .take => some 0x13
  | .readDescriptor => some 0x14
  | .readPool => some 0x15
  | .initialise => some 0x16
  | .readListen => some 0x17
  | .readLabel => some 0x18
  | .unknownCommand => none
  | .registerWrite .. | .portControlWrite .. | .eventPop | .packetMemoryRead .. | .packetMemoryWrite .. => none
  | .hardwareReset | .startUpEnd | .lineReadyFall | .lineReadyRise | .candidateDiscard .. => none
  | .linkStartArrival .. | .linkAgreeArrival .. | .linkStopArrival .. => none
  | .openFrameArrival .. | .acceptArrival .. | .refuseArrival .. | .closeFrameArrival .. | .closeDoneArrival .. => none
  | .rewindFrameArrival .. | .rewindDoneArrival .. | .segArrival .. | .blockEndArrival .. => none
  | .blockAbandonArrival .. | .blockStatusArrival .. | .probeArrival .. | .readyArrival .. => none
  | .openTimerExpiry .. | .offerTimerExpiry .. | .statusTimerExpiry .. | .probeTimerExpiry .. => none
  | .closeTimerExpiry .. | .rewindTimerExpiry .. | .startTimerExpiry | .stopTimerExpiry | .restTimeExpiry .. => none
  | .transmissionStart | .transmissionEnd | .huntDelimiterReceived => none

/-- A code that names one of the 24 commands: 0001h to 0018h (R213). -/
def namesCommand (code : Word) : Bool := code != 0 && decide (code.toNat ≤ 0x18)

/-- The result codes (R213). -/
def ResultCode.code : ResultCode → Nat
  | .ok => 0x00
  | .unknownCommand => 0x01
  | .badParam => 0x02
  | .badCircuit => 0x03
  | .badState => 0x04
  | .linkNotUp => 0x05
  | .noSlot => 0x06
  | .noLabel => 0x07
  | .noPages => 0x08
  | .noDescriptor => 0x09
  | .queueFull => 0x0A
  | .badDescriptor => 0x0B
  | .empty => 0x0C
  | .lineNotReady => 0x0D

/-- The event kinds (R212); 00h stands for an empty queue. -/
def EventKind.code : EventKind → Nat
  | .linkUp => 0x01
  | .linkDown => 0x02
  | .looped => 0x03
  | .opened => 0x04
  | .openFailed => 0x05
  | .offer => 0x06
  | .rewound => 0x07
  | .blockSent => 0x08
  | .blockFailed => 0x09
  | .blockArrived => 0x0A
  | .accessFault => 0x0B
  | .overflow => 0x0C
  | .closed => 0x0D

/-! ### Value codes (R214) -/

/-- Flags: 0 clear or false, 1 set or true (R214). -/
def flagCode (b : Bool) : Nat := if b then 1 else 0

/-- An absent value reads as zero (00_scope.md, Optional parts; R214). -/
def codeOf {α : Type} (f : α → Nat) : Option α → Nat
  | none => 0
  | some a => f a

def CircuitState.code : CircuitState → Nat
  | .free => 0
  | .opening => 1
  | .offered => 2
  | .opened => 3
  | .rewinding => 4
  | .closing => 5
  | .closed => 6
  | .dormant => 7

def CircuitKind.code : CircuitKind → Nat
  | .dialled => 1
  | .fixed => 2

def Role.code : Role → Nat
  | .initiator => 1
  | .responder => 2

def Policy.code : Policy → Nat
  | .abandon => 1
  | .rewind => 2
  | .close => 3

def ListenPolicy.code : ListenPolicy → Nat
  | .auto => 1
  | .refer => 2

def Originator.code : Originator → Nat
  | .local => 1
  | .peer => 2
  | .part => 3

def TimerPurpose.code : TimerPurpose → Nat
  | .openT => 1
  | .offer => 2
  | .status => 3
  | .probe => 4
  | .close => 5
  | .rewind => 6

def SenderState.code : SenderState → Nat
  | .idle => 0
  | .sending => 1
  | .polling => 2
  | .abandoning => 3
  | .held => 4
  | .stopped => 5

def LastOutcome.code : LastOutcome → Nat
  | .none => 0
  | .complete => 2
  | .abandoned => 3

def DescState.code : DescState → Nat
  | .free => 0
  | .filling => 1
  | .queued => 2
  | .active => 3
  | .assembling => 4
  | .delivered => 5
  | .held => 6
  | .returning => 7

def LabelEntry.code : LabelEntry → Nat
  | .free => 0
  | .bound .. => 1
  | .resting _ => 2

def LinkState.code : LinkState → Nat
  | .down => 0
  | .starting => 1
  | .up => 2
  | .stopping => 3

def StopKind.code : StopKind → Nat
  | .local => 1
  | .answering => 2

def LinkPurpose.code : LinkPurpose → Nat
  | .start => 1
  | .stop => 2

/-- The pending link frame is reported as its frame kind code (R214, R209). -/
def PendingLink.code : PendingLink → Nat
  | .linkStart => 0x01
  | .linkAgree => 0x02
  | .linkStop _ => 0x03

/-- A loose-reply head's kind is reported as its frame kind code (R214, R209). -/
def LooseBody.code : LooseBody → Nat
  | .refuse .. => 0x12
  | .close .. => 0x13
  | .closeDone => 0x14

/-- The cause of a loose reply; absent for CLOSE-DONE (R105). -/
def LooseBody.cause : LooseBody → Option Octet
  | .refuse c _ => some c
  | .close c _ => some c
  | .closeDone => none

/-- The block number field of LINK-DOWN has its own codes: 0 DOWN, 1 STOPPING, 2 UP (section 8.9). -/
def LinkState.followCode : LinkState → Octet
  | .down => 0
  | .stopping => 1
  | .up => 2
  | .starting => 0

end Sys2Proof.Machine
end

