-- ==== Sys2Proof/Machine/Memory.lean ====
section
/-! DEFINITION. Page memory (R78, R94): reading and writing octets of the packet memory window, in the one canonical
form of the list: addresses strictly rising, inside the window, and no entry equal to what an unlisted address reads
as. -/

namespace Sys2Proof.Machine

/-- What an unlisted address reads as: every page holds zero until it is written (R94). -/
def Memory.unlisted : Octet := 0

/-- The octets of the packet memory window (R78). -/
def Memory.size : Nat := Config.pageCount * Config.pageSize

/-- The octet at an address. -/
def Memory.read : Memory → Nat → Octet
  | [], _ => Memory.unlisted
  | (b, w) :: m, a => if b = a then w else Memory.read m a

/-- The list with an octet stored at an address; the entry goes when the value is what an unlisted address reads as. -/
def Memory.write : Memory → Nat → Octet → Memory
  | [], a, v => if v = Memory.unlisted then [] else [(a, v)]
  | (b, w) :: m, a, v =>
    if a < b then (if v = Memory.unlisted then (b, w) :: m else (a, v) :: (b, w) :: m)
    else if a = b then (if v = Memory.unlisted then m else (a, v) :: m)
    else (b, w) :: Memory.write m a v

/-- The list with octets stored at consecutive addresses from `a` on (R57, R78). -/
def Memory.writeAll : Memory → Nat → List Octet → Memory
  | m, _, [] => m
  | m, a, v :: vs => Memory.writeAll (Memory.write m a v) (a + 1) vs

/-- `k` octets at consecutive addresses from `a` on (R31). -/
def Memory.readAll (m : Memory) (a k : Nat) : List Octet := (List.range k).map (fun j => Memory.read m (a + j))

/-- The canonical form of the entries above address `low` (exclusive, when given). -/
def Memory.wfFrom : Option Nat → Memory → Bool
  | _, [] => true
  | low, (a, v) :: m =>
    (match low with
      | none => true
      | some b => decide (b < a)) && decide (a < Memory.size) && v != Memory.unlisted && Memory.wfFrom (some a) m

/-- The canonical form of page memory. -/
def Memory.wf (m : Memory) : Bool := Memory.wfFrom none m

end Sys2Proof.Machine
end

