-- ==== Sys2Proof/Machine/Ops.lean ====
section
/-! DEFINITION. The named operations over the records, labels, descriptors, pages, events and result registers. Every
read and write of these goes through the accessors here. -/

namespace Sys2Proof.Machine

/-! ### Accessors -/

/-- The record of a circuit number (R1). -/
def State.circuit (s : State) (c : CircuitNo) : CircuitRecord := s.circuits[c.val]

/-- The state with a circuit's record replaced. -/
def State.setCircuit (s : State) (c : CircuitNo) (r : CircuitRecord) : State :=
  { s with circuits := s.circuits.set c.val r }

/-- The state with a circuit's record changed. -/
def State.onCircuit (s : State) (c : CircuitNo) (f : CircuitRecord → CircuitRecord) : State :=
  s.setCircuit c (f (s.circuit c))

/-- The state with a circuit's send context changed. -/
def State.onSend (s : State) (c : CircuitNo) (f : SendContext → SendContext) : State :=
  s.onCircuit c (fun r => { r with send := f r.send })

/-- The state with a circuit's receive context changed. -/
def State.onRecv (s : State) (c : CircuitNo) (f : RecvContext → RecvContext) : State :=
  s.onCircuit c (fun r => { r with recv := f r.recv })

/-- The descriptor of a number (R79). -/
def State.descriptor (s : State) (d : DescNo) : Descriptor := s.descriptors[d.val]

/-- The state with a descriptor replaced. -/
def State.setDescriptor (s : State) (d : DescNo) (x : Descriptor) : State :=
  { s with descriptors := s.descriptors.set d.val x }

/-- The state with a descriptor changed. -/
def State.onDescriptor (s : State) (d : DescNo) (f : Descriptor → Descriptor) : State :=
  s.setDescriptor d (f (s.descriptor d))

/-- The index of a label's entry. -/
def labelIndex (l : Label) : Fin 255 := ⟨l.toNat - 1, by have := l.isLt; omega⟩

/-- The entry of a label from 1 to 255; label 0 has none and is asked for by no rule (R96). -/
def State.label (s : State) (l : Label) : LabelEntry := s.labels[(labelIndex l).val]

/-- The state with a label's entry replaced; label 0 has no entry (R96). -/
def State.setLabel (s : State) (l : Label) (e : LabelEntry) : State :=
  if l = 0 then s else { s with labels := s.labels.set (labelIndex l).val e }

/-! ### Events (R203, R204) -/

/-- The stale flag an event concerns is set: its circuit number's, or the link stale flag (R17, R204, R206). -/
def State.markStale (s : State) (e : Event) : State :=
  match e.circuit with
  | some c => s.onCircuit c (fun r => { r with stale := true })
  | none => { s with linkStale := true }

/-- An event is raised (R204): appended, replaced by OVERFLOW in the last place, or dropped. -/
def State.raise (s : State) (e : Event) : State :=
  if s.events.length + 1 < Config.eventCapacity then { s with events := s.events ++ [e] }
  else if s.events.length < Config.eventCapacity then
    { s.markStale e with events := s.events ++ [{ kind := .overflow }] }
  else s.markStale e

/-! ### Circuit table (R1) -/

/-- The FREE record with the lowest circuit number (R1). -/
def State.lowestFreeCircuit (s : State) : Option CircuitNo :=
  (List.finRange 64).find? (fun c => decide ((s.circuit c).state = .free))

/-- The states whose records take part in the peer-label check of an arrival (R107, R108). -/
def CircuitState.holdsPeerLabel : CircuitState → Bool
  | .offered | .opened | .rewinding | .closing => true
  | .free | .opening | .closed | .dormant => false

/-- The live dialled states (R11). -/
def CircuitState.live : CircuitState → Bool
  | .opening | .offered | .opened | .rewinding | .closing => true
  | .free | .closed | .dormant => false

/-- The record in OFFERED, OPEN, REWINDING or CLOSING that holds a peer label; no two do (section 5.6). In a state no
run reaches, the lowest of several (log 21). -/
def State.peerHolder (s : State) (l : Label) : Option CircuitNo :=
  (List.finRange 64).find? (fun c =>
    (s.circuit c).state.holdsPeerLabel && decide ((s.circuit c).peerLabel = some l))

/-! ### Labels (R96 to R101) -/

/-- The k-th label the allocation scan examines: from the pointer upward, passing from 255 to 1 (R98). -/
def scanLabel (pointer : Label) (k : Nat) : Label := BitVec.ofNat 8 ((pointer.toNat - 1 + k) % 255 + 1)

/-- The first FREE label of the allocation scan (R98, R99). -/
def State.scanFreeLabel (s : State) : Option Label :=
  ((List.range 255).map (scanLabel s.allocPtr)).find? (fun l => decide (s.label l = .free))

/-- The allocation pointer after a label is taken: the label plus one, or 1 after 255 (R98). -/
def pointerAfter (l : Label) : Label := if l = 255 then 1 else l + 1

/-- A label is allocated to a dialled circuit: BOUND with the fixed flag clear, and the pointer moved (R98). -/
def State.allocateLabel (s : State) (l : Label) (c : CircuitNo) : State :=
  { s.setLabel l (.bound c false) with allocPtr := pointerAfter l }

/-- A label is released when its record becomes FREE: RESTING for the rest time, or FREE if that is 0 (R97, R101). -/
def State.releaseLabel (s : State) (l : Label) : State :=
  s.setLabel l (if s.link.config.restTime = 0 then .free else .resting s.link.config.restTime)

/-! ### Loose replies (R105) -/

/-- Two loose replies that a request merges: the same frame kind, destination label and source label (R105). -/
def LooseReply.merges (a b : LooseReply) : Bool :=
  decide (a.body.code = b.body.code) && decide (a.dst = b.dst) && decide (a.src = b.src)

/-- A loose reply is requested: merged, appended, or dropped when all four slots are full (R105). -/
def State.requestLoose (s : State) (reply : LooseReply) : State :=
  if s.loose.any (reply.merges ·) then s
  else if s.loose.length < Config.looseCapacity then { s with loose := s.loose ++ [reply] }
  else s

/-! ### Pages and descriptors (R77 to R89) -/

/-- The pages a descriptor holds: its page list and the pages of its filled slots (R79). -/
def Descriptor.held (x : Descriptor) : List Nat := x.pages ++ x.slots.map Slot.page

/-- The pages held by the descriptors; every other page is in the free pool (R77, log 15). -/
def State.heldPages (s : State) : List Nat := s.descriptors.toList.flatMap Descriptor.held

/-- A page is in the free pool (R77). -/
def State.pageFree (s : State) (p : Nat) : Bool := decide (p < Config.pageCount) && !s.heldPages.contains p

/-- The free pages in rising order (R77). -/
def State.freePages (s : State) : List Nat := (List.range Config.pageCount).filter (fun p => s.pageFree p)

/-- The lowest-numbered free page (R86). -/
def State.lowestFreePage (s : State) : Option Nat := (List.range Config.pageCount).find? (fun p => s.pageFree p)

/-- The lowest-numbered FREE descriptor (R79). -/
def State.lowestFreeDescriptor (s : State) : Option DescNo :=
  (List.finRange 256).find? (fun d => decide ((s.descriptor d).state = .free))

/-- The number of FREE descriptors (R93). -/
def State.freeDescriptorCount (s : State) : Nat :=
  s.descriptors.toList.countP (fun x => decide (x.state = .free))

/-- The first page of the lowest run of n consecutive free pages; runs do not wrap (R83). -/
def State.lowestRun (s : State) (n : Nat) : Option Nat :=
  (List.range (Config.pageCount + 1 - n)).find? (fun p => (List.range n).all (fun k => s.pageFree (p + k)))

/-- The n pages ALLOC chooses: the lowest run, or the n lowest-numbered free pages (R83). -/
def State.choosePages (s : State) (n : Nat) : List Nat :=
  match s.lowestRun n with
  | some p => (List.range n).map (p + ·)
  | none => s.freePages.take n

/-- The contiguous flag of ALLOC: the pages are consecutive page numbers (R82). -/
def contiguous (pages : List Nat) : Bool :=
  decide (pages = (List.range pages.length).map (pages.headD 0 + ·))

/-- The pinned descriptor: the descriptor of the SEG in transmission (R88). -/
def State.pinnedDescriptor (s : State) : Option DescNo := s.tx.bind (fun t => t.pin.map Prod.snd)

/-- Freeing (R81): the descriptor becomes FREE at once, or RETURNING while one of its pages is pinned. -/
def State.freeDescriptor (s : State) (d : DescNo) : State :=
  if s.pinnedDescriptor = some d then s.onDescriptor d (fun x => { x with state := .returning })
  else s.setDescriptor d Descriptor.free

/-- The end of a pin (R89): a RETURNING descriptor becomes FREE and its pages return to the pool. -/
def State.endPin (s : State) (pin : Option (Nat × DescNo)) : State :=
  match pin with
  | none => s
  | some (_, d) => if (s.descriptor d).state = .returning then s.setDescriptor d Descriptor.free else s

/-- A page of the descriptor whose page list holds it, for the access check (R90). -/
def State.pageState (s : State) (p : Nat) : DescState :=
  match s.descriptors.toList.find? (fun x => x.held.contains p) with
  | none => .free
  | some x => x.state

/-- The host may touch a page: it is in a FILLING or HELD descriptor (R90). -/
def State.hostOwns (s : State) (p : Nat) : Bool :=
  match s.pageState p with
  | .filling | .held => true
  | .free | .queued | .active | .assembling | .delivered | .returning => false

/-- A refused host access is reported: the clear latch takes the page and ACCESS-FAULT is raised (R91). -/
def State.reportRefusal (s : State) (p : Nat) : State :=
  match s.latch with
  | some _ => s
  | none => { s with latch := some p }.raise { kind := .accessFault, page := some p }

/-! ### Frame in transmission (R186, R192) -/

/-- The detached mark is set on a frame in transmission when its circuit's record becomes FREE (R186). -/
def State.detach (s : State) (c : CircuitNo) : State :=
  { s with tx := s.tx.map (fun t => if t.owner = .circuit c then { t with detached := true } else t) }

/-- The abort of the frame in transmission, if any: the abort sequence is sent, the pin ends, and no other report is
made (R192). -/
def State.abortTransmission (s : State) : State :=
  match s.tx with
  | none => s
  | some t => { s.endPin t.pin with tx := none, line := .abort }

/-! ### The end of a command (R195, R196, R198, R211) -/

/-- The eight RESULT registers with values from RESULT 0 on and the rest zero (R196, R211). -/
def resultRegisters (values : List Nat) : Vector Reg 8 := Vector.ofFn (fun i => BitVec.ofNat 32 (values.getD i.val 0))

/-- A command ends: its result code and values are written and the port becomes DONE (R196). -/
def State.finish (s : State) (code : ResultCode) (values : List Nat) : State :=
  { s with port := { s.port with state := .done, result := code, results := resultRegisters values } }

/-- A command ends with OK and its result values (R198). -/
def State.succeed (s : State) (values : List Nat) : State := s.finish .ok values

/-- A command ends with another code, no result value and nothing else changed (R198). -/
def State.reject (s : State) (code : ResultCode) : State := s.finish code []

/-- The port is BUSY with a command that has been started and not taken, outside the start-up period (R196, R201). -/
def State.running (s : State) : Bool := decide (s.port.state = .busy) && !s.startUp

/-- The taking of a command: the started command's block acts. A taking of a command that was not started cannot
happen and changes nothing (R195, R196, log 3). -/
def State.taking (s : State) (command : Instr) (body : State → State) : State :=
  if s.running && decide (commandCode command = some s.port.command) then body s else s

end Sys2Proof.Machine
end

