-- ==== Sys2Proof/Machine/Operands.lean ====
section
/-! DEFINITION. The operands of a host command: the PARAM registers as the owning block reads them (R211), the circuit
check (R2), the field checks (R6), and the values kept in narrower fields. -/

namespace Sys2Proof.Machine

/-- A parameter as the full 32-bit value of its register (R211). -/
def State.param (s : State) (i : Nat) : Nat := (s.port.params.toList.getD i 0).toNat

/-- A parameter packed into octet k of its register (R211). -/
def State.paramOctet (s : State) (i k : Nat) : Octet := (s.port.params.toList.getD i 0).extractLsb' (8 * k) 8

/-- The opening data of OPEN: PARAM 3 to 6, four octets each, the first octet in octet 0 of PARAM 3 (R211). -/
def State.paramData (s : State) (length : Nat) : List Octet :=
  (List.range length).map (fun j => s.paramOctet (3 + j / 4) (j % 4))

/-- A command that names a circuit: a number above 63, or of a FREE record, names none (R2). -/
def State.namedCircuit (s : State) (n : Nat) : Option CircuitNo :=
  if h : n < 64 then (if (s.circuit ⟨n, h⟩).state = .free then none else some ⟨n, h⟩) else none

/-- The circuit check of R2 before a command's own checks: BAD-CIRCUIT where no circuit in use is named. -/
def State.withCircuit (s : State) (n : Nat) (body : CircuitNo → State) : State :=
  match s.namedCircuit n with
  | none => s.reject .badCircuit
  | some c => body c

/-- A command that names a descriptor: a number above 255 names none (R26, R84, R92). -/
def namedDescriptor (n : Nat) : Option DescNo := if h : n < 256 then some ⟨n, h⟩ else none

/-- The three parameter fields of a circuit after the checks and defaults of R6. -/
structure Limits where
  roundLimit : Nat
  policy     : Policy
  window     : Nat
deriving DecidableEq, Repr

/-- A limit: 0 selects the default, and a value above the bound is refused (R6). -/
def limitOf (value default bound : Nat) : Option Nat :=
  if value = 0 then some default else if value ≤ bound then some value else none

/-- A give-up policy code: 0 selects ABANDON; CLOSE is refused for a FIXED circuit (R6, R214). -/
def policyOf (code : Nat) (fixed : Bool) : Option Policy :=
  match code with
  | 0 => some .abandon
  | 1 => some .abandon
  | 2 => some .rewind
  | 3 => if fixed then none else some .close
  | _ => none

/-- The checks of R6 on a round limit (1 to 15, default 4), a give-up policy and a receive window (1 to 8, default
2); none where a check fails. -/
def limitsOf (roundLimit policy window : Nat) (fixed : Bool) : Option Limits :=
  match limitOf roundLimit 4 15, policyOf policy fixed, limitOf window 2 8 with
  | some r, some p, some w => some { roundLimit := r, policy := p, window := w }
  | _, _, _ => none

/-- A listen policy code (R112, R214). -/
def listenPolicyOf (code : Nat) : Option ListenPolicy :=
  match code with
  | 1 => some .auto
  | 2 => some .refer
  | _ => none

/-- A service number from 1 to 65535 (R112, R115, R172; a value above 65535 is outside that range, log 10). -/
def serviceOf (value : Nat) : Option Word :=
  if value = 0 ∨ 65535 < value then none else some (BitVec.ofNat 16 value)

/-- A max segments value of 0 selects the default given (R113, R115, R121, R172). -/
def segmentsOf (value default : Nat) : Nat := if value = 0 then default else value

/-- The tag a SUBMIT stores: the host's value, or a free value where PARAM 3 does not fit 16 bits (R26, log 9). -/
def State.tagOf (s : State) (value : Nat) : Word :=
  if value < 65536 then BitVec.ofNat 16 value else Config.freeTag s.freeCount

/-- The diagnostic a command stores: the host's value, or a free value where the register does not fit an octet
(R121, R134, log 9). -/
def State.diagnosticOf (s : State) (value : Nat) : Octet :=
  if value < 256 then BitVec.ofNat 8 value else Config.freeDiagnostic s.freeCount

/-- The free-value counter advances when a free value was taken (log 9). -/
def State.countFree (s : State) (taken : Bool) : State :=
  if taken then { s with freeCount := s.freeCount + 1 } else s

end Sys2Proof.Machine
end

