-- ==== Sys2Proof/Machine/Flags.lean ====
section
/-! DEFINITION. The flags: INT (R207), the collide flag (R197), the ready flag and the held-reported flag (R66 to R71),
the link stale flag (R206) and the circuit stale flags (R17). -/

namespace Sys2Proof.Machine

/-- INT is asserted, low, while the event queue holds an entry and the interrupt enable is set (R207). -/
def State.intAsserted (s : State) : Bool := !s.events.isEmpty && s.intEnable

/-- A host write while the port is BUSY is ignored and sets the collide flag (R197). -/
def State.collideWrite (s : State) : State := { s with port := { s.port with collide := true } }

/-- A circuit's stale flag is cleared after READ-CIRCUIT view 0 reported it (R17, R18). -/
def State.clearStale (s : State) (c : CircuitNo) : State := s.onCircuit c (fun r => { r with stale := false })

/-- The delivered count: the descriptors in the delivery queue (section 3.1). -/
def CircuitRecord.deliveredCount (r : CircuitRecord) : Nat := r.recv.delivered.length

/-- The ready flag as it would be composed now: the delivered count is below the receive window (R66, R67). -/
def CircuitRecord.readyFlag (r : CircuitRecord) : Bool := decide (r.deliveredCount < r.window)

/-- The received blocks a circuit holds: delivered, plus one for a present assembly (R53). -/
def CircuitRecord.receivedBlocks (r : CircuitRecord) : Nat :=
  r.deliveredCount + (if r.recv.assembly.isSome then 1 else 0)

/-- The held-reported flag follows the ready flag composed at the start of a BLOCK-STATUS or READY (R68). -/
def CircuitRecord.reportReady (r : CircuitRecord) : CircuitRecord :=
  { r with recv := { r.recv with heldReported := !r.readyFlag } }

/-- The unsolicited READY: on an OPEN circuit that reported it was held and now has room, READY is made pending and
held-reported cleared (R20, R70, R71). -/
def CircuitRecord.offerReady (r : CircuitRecord) : CircuitRecord :=
  if r.state = .opened ∧ r.recv.heldReported ∧ r.readyFlag then
    { r with answer := some .ready, recv := { r.recv with heldReported := false } }
  else r

end Sys2Proof.Machine
end

