-- ==== Sys2Proof/Machine/SendSide.lean ====
section
/-! DEFINITION. The Send Engine's shared operations: the start decision (R29, R30), the rewind of the send side (R48)
and its resumption (R49), and the close of the send side (R50). -/

namespace Sys2Proof.Machine

/-- The set of the segment indices 0 to n−1. -/
def firstSegments (n : Nat) : SegSet := BitVec.ofNat 64 (2 ^ n - 1)

/-- The lowest index of a segment set (R31). -/
def lowestSegment (set : SegSet) : Option Nat := (List.range 64).find? (fun i => set.getLsbD i)

/-- A segment set without one index (R32). -/
def withoutSegment (set : SegSet) (i : Nat) : SegSet := set &&& ~~~(BitVec.ofNat 64 (2 ^ i))

/-- The send blocks a circuit holds: the active block, if any, and the queued ones (R26). -/
def SendContext.blocks (x : SendContext) : List DescNo := (x.active.map ActiveBlock.desc).toList ++ x.queue

/-- A circuit's timer is started, dropping any purpose and time it held (R14). -/
def State.startTimer (s : State) (c : CircuitNo) (purpose : TimerPurpose) (ms : Nat) : State :=
  s.onCircuit c (fun r => { r with timer := some { purpose, remaining := ms } })

/-- A circuit's timer is stopped and becomes empty (R14). -/
def State.stopTimer (s : State) (c : CircuitNo) : State := s.onCircuit c (fun r => { r with timer := none })

/-- A frame kind is made pending in the transfer class, or the class is emptied (R13). -/
def State.setTransfer (s : State) (c : CircuitNo) (k : Option TransferKind) : State :=
  s.onCircuit c (fun r => { r with transfer := k })

/-- A frame kind is made pending in the answer class (R13). -/
def State.setAnswer (s : State) (c : CircuitNo) (k : Option AnswerKind) : State :=
  s.onCircuit c (fun r => { r with answer := k })

/-- A frame kind is made pending in the protocol class, or the class is emptied (R13). -/
def State.setProtocol (s : State) (c : CircuitNo) (k : Option ProtocolKind) : State :=
  s.onCircuit c (fun r => { r with protocol := k })

/-- A block fails at its start because its segment count exceeds max segments: BLOCK-FAILED with cause TOO-LARGE is
raised, then the descriptor is freed (R30, R47). -/
def State.failTooLarge (s : State) (c : CircuitNo) (d : DescNo) : State :=
  (s.raise
    { kind := .blockFailed, circuit := some c, cause := some Cause.tooLarge, tag := (s.descriptor d).tag
      count := some (s.descriptor d).pages.length }).freeDescriptor d

/-- A block starts (R30): its descriptor becomes ACTIVE with the next block number, every segment is to be sent, the
round count is 1, the poll count 0, and the sender is SENDING. -/
def State.startBlock (s : State) (c : CircuitNo) (d : DescNo) (rest : List DescNo) : State :=
  let n := (s.descriptor d).pages.length
  let number := (s.circuit c).send.nextNumber
  (s.onDescriptor d (fun x => { x with state := .active, blockNumber := some number })).onSend c (fun x =>
    { x with
      sender := .sending, queue := rest, pollCount := 0
      active := some { desc := d, number, count := n, acked := 0, toSend := firstSegments n, round := 1 } })

/-- The head of the send queue starts, and each head that is too large fails, until a block starts or the queue is
empty and the sender IDLE (R29, R30). -/
def State.startHead (s : State) (c : CircuitNo) : List DescNo → State
  | [] => s.onSend c (fun x => { x with sender := .idle, queue := [] })
  | d :: rest =>
    if (s.circuit c).maxSegments.getD 0 < (s.descriptor d).pages.length then (s.failTooLarge c d).startHead c rest
    else s.startBlock c d rest

/-- The start decision for an OPEN circuit with no active block (R29). After an advance the first PROBE waits one probe
interval; after any other cause it is pending at once. -/
def State.startDecision (s : State) (c : CircuitNo) (afterAdvance : Bool) : State :=
  match (s.circuit c).send.queue with
  | [] => s.onSend c (fun x => { x with sender := .idle })
  | d :: rest =>
    if (s.circuit c).send.peerReady then s.startHead c (d :: rest)
    else if afterAdvance then
      (s.onSend c (fun x => { x with sender := .held, pollCount := 0 })).startTimer c .probe
        s.link.config.probeInterval
    else (s.onSend c (fun x => { x with sender := .held, pollCount := 1 })).setTransfer c (some .probe)

/-- The active block returns to the head of the send queue, QUEUED, its number absent (R48 step 1). -/
def State.returnActive (s : State) (c : CircuitNo) : State :=
  match (s.circuit c).send.active with
  | none => s
  | some a =>
    (s.onDescriptor a.desc (fun x => { x with state := .queued, blockNumber := none })).onSend c (fun x =>
      { x with active := none, queue := a.desc :: x.queue })

/-- A running STATUS or PROBE timer is stopped (R48 step 4). -/
def CircuitRecord.stopSendTimer (r : CircuitRecord) : CircuitRecord :=
  match r.timer with
  | some { purpose := .status, .. } => { r with timer := none }
  | some { purpose := .probe, .. } => { r with timer := none }
  | _ => r

/-- The rewind of the send side (R48). The sender is STOPPED; where the circuit stays OPEN the resumption of R49
follows at once. -/
def State.rewindSend (s : State) (c : CircuitNo) : State :=
  (s.returnActive c).onCircuit c (fun r =>
    { r.stopSendTimer with
      transfer := none
      send := { r.send with
        sender := .stopped, pollCount := 0, nextNumber := 0, peerReady := false, lastSent := none } })

/-- A rewound send side resumes: the start decision with peer-ready false (R49). -/
def State.resumeSend (s : State) (c : CircuitNo) : State := s.startDecision c false

/-- The close of the send side (R50): every send block is freed, and the sender is STOPPED with nothing queued. The
discarded count is the number of blocks the circuit held. -/
def State.closeSend (s : State) (c : CircuitNo) : State :=
  ((s.circuit c).send.blocks.foldl State.freeDescriptor s).onSend c (fun x =>
    { x with sender := .stopped, queue := [], active := none, lastSent := none, pollCount := 0 })

/-- The discarded count of a close that begins now: the send blocks, queued and active (R9, R50). -/
def State.discardCount (s : State) (c : CircuitNo) : Nat := (s.circuit c).send.blocks.length

end Sys2Proof.Machine
end

