-- ==== Sys2Proof/Machine/ReceiveSide.lean ====
section
/-! DEFINITION. The Receive Engine's shared operations: the class of a block number (R54), the rewind (R73) and the
close (R74) of the receive side, the storing of a segment (R57, R86) and completion (R61, R87). -/

namespace Sys2Proof.Machine

/-- The class of an arriving block number (R54). -/
inductive BlockClass where
  | current | previous | error
deriving DecidableEq, Repr

/-- The class of a block number: E is current; E−1 is previous once a block has been decided; anything else is a
protocol error (R54). -/
def RecvContext.classOf (x : RecvContext) (b : BlockNumber) : BlockClass :=
  if b = x.expected then .current
  else if b = x.expected - 1 ∧ x.lastOutcome ≠ .none then .previous
  else .error

/-- The assembly, if any, is freed with its pages; the assembly and the announced count become absent (R73, R74). -/
def State.dropAssembly (s : State) (c : CircuitNo) : State :=
  (match (s.circuit c).recv.assembly with
    | none => s
    | some d => s.freeDescriptor d).onRecv c (fun x => { x with assembly := none, announced := none })

/-- The rewind of the receive side (R73); the delivery queue is kept. -/
def State.rewindRecv (s : State) (c : CircuitNo) : State :=
  (s.dropAssembly c).onCircuit c (fun r =>
    { r with
      answer := none
      recv := { r.recv with expected := 0, lastOutcome := .none, heldReported := false } })

/-- The close of the receive side (R74); E, the last outcome and the delivery queue are kept. -/
def State.closeRecv (s : State) (c : CircuitNo) : State :=
  (s.dropAssembly c).onRecv c (fun x => { x with heldReported := false })

/-- The filled slots of a circuit's assembly (section 3.1). -/
def State.assemblySlots (s : State) (c : CircuitNo) : List Slot :=
  match (s.circuit c).recv.assembly with
  | none => []
  | some d => (s.descriptor d).slots

/-- The received set as the indices of the filled slots (section 3.1). -/
def State.hasSegment (s : State) (c : CircuitNo) (i : Nat) : Bool := (s.assemblySlots c).any (fun x => x.index == i)

/-- The received set holds every index from 0 to n−1 (R58, R60). -/
def State.hasAll (s : State) (c : CircuitNo) (n : Nat) : Bool := (List.range n).all (fun i => s.hasSegment c i)

/-- A slot put among the filled slots, in index order. -/
def insertSlot (x : Slot) : List Slot → List Slot
  | [] => [x]
  | y :: ys => if x.index < y.index then x :: y :: ys else y :: insertSlot x ys

/-- A page given to an assembly takes the payload and its slot (R57): octets 0 to k−1 of the page are written and the
rest left as they were (R78). -/
def State.fillSlot (s : State) (d : DescNo) (page i : Nat) (payload : List Octet) : State :=
  { s.onDescriptor d (fun x =>
      { x with slots := insertSlot { index := i, page, octets := payload.length } x.slots }) with
    memory := Memory.writeAll s.memory (page * Config.pageSize) payload }

/-- A SEG that passed the checks is stored, or dropped where the window, the pages or the descriptors do not allow it
(R53, R57, R86). The answer tells whether it was stored. -/
def State.storeSegment (s : State) (c : CircuitNo) (i : Nat) (payload : List Octet) : Option State :=
  match (s.circuit c).recv.assembly with
  | some d => s.lowestFreePage.map (fun page => s.fillSlot d page i payload)
  | none =>
    if (s.circuit c).readyFlag then
      match s.lowestFreeDescriptor, s.lowestFreePage with
      | some d, some page =>
        let number := (s.circuit c).recv.expected
        some (((s.setDescriptor d
            { Descriptor.free with
              state := .assembling, circuit := some c, tag := some (number.setWidth 16), blockNumber := some number
            }).onRecv c (fun x => { x with assembly := some d })).fillSlot d page i payload)
      | _, _ => none
    else none

/-- The byte length of a completed block: the sum of its slots' octet counts (R61, R87). -/
def slotOctets (slots : List Slot) : Nat := (slots.map Slot.octets).sum

/-- Completion of block E (R61, R87): the descriptor is DELIVERED at the tail of the delivery queue, BLOCK-ARRIVED is
raised, E advances with last outcome COMPLETE, and BLOCK-STATUS is pending. -/
def State.complete (s : State) (c : CircuitNo) : State :=
  match (s.circuit c).recv.assembly with
  | none => s
  | some d =>
    let number := (s.circuit c).recv.expected
    let length := slotOctets (s.descriptor d).slots
    let s1 := s.onDescriptor d (fun x =>
      { x with state := .delivered, pages := x.slots.map Slot.page, slots := [], byteLength := some length })
    let s2 := s1.onRecv c (fun x =>
      { x with assembly := none, announced := none, delivered := x.delivered ++ [d] })
    let s3 := s2.raise { kind := .blockArrived, circuit := some c, block := some number, count := some length }
    (s3.onRecv c (fun x => { x with expected := x.expected + 1, lastOutcome := .complete })).setAnswer c
      (some .blockStatus)

end Sys2Proof.Machine
end

