-- ==== Sys2Proof/Machine/Circuits.lean ====
section
/-! DEFINITION. The Circuit Controller's shared operations: creating and ending a record (R1, R3, R12, R21), closing
(R9, R135 to R139), rewinding (R143, R147, R148), and the moves of a record with the link (R159 to R161). -/

namespace Sys2Proof.Machine

/-! ### Changes of state (R12) -/

/-- A change of state: the circuit timer is emptied, the retry count is 0, and a rewind note is dropped (R12, R141). -/
def CircuitRecord.enter (r : CircuitRecord) (state : CircuitState) : CircuitRecord :=
  { r with state, timer := none, retryCount := 0, note := none }

/-- The transfer class and the answer class are emptied on leaving OPEN (R12). -/
def CircuitRecord.emptyTransfer (r : CircuitRecord) : CircuitRecord := { r with transfer := none, answer := none }

/-- A record becomes FREE: its label is released, a frame of it in transmission is detached, and every field but the
stale flag goes (R12, R101, R186). -/
def State.endRecord (s : State) (c : CircuitNo) : State :=
  ((s.releaseLabel (s.circuit c).localLabel).detach c).setCircuit c (CircuitRecord.free (s.circuit c).stale)

/-- The label l bound and a new record put in the FREE slot c; the stale flag belongs to the number (R3, R17, R98). -/
def State.createDialled (s : State) (c : CircuitNo) (l : Label) (r : CircuitRecord) : State :=
  (s.allocateLabel l c).setCircuit c { r with stale := (s.circuit c).stale, localLabel := l }

/-! ### Events of the exchanges (R132, R151, R152) -/

/-- The CLOSED event of a record that has entered CLOSED (R151). -/
def CircuitRecord.closedEvent (r : CircuitRecord) (c : CircuitNo) : Event :=
  { kind := .closed, circuit := some c
    cause := r.closeRecord.map CloseRecord.cause
    originator := r.closeRecord.map CloseRecord.originator
    tag := some r.service
    block := some (if r.closeRecord.any CloseRecord.confirmed then 1 else 0)
    count := r.closeRecord.map CloseRecord.discarded }

/-- The OPEN-FAILED event of a record that has entered CLOSED from OPENING (R132). -/
def CircuitRecord.openFailedEvent (r : CircuitRecord) (c : CircuitNo) : Event :=
  { kind := .openFailed, circuit := some c
    cause := r.closeRecord.map CloseRecord.cause
    originator := r.closeRecord.map CloseRecord.originator
    tag := some r.service
    count := r.closeRecord.map CloseRecord.discarded }

/-- The OPENED event of a record (R132): the originator field carries the role. -/
def CircuitRecord.openedEvent (r : CircuitRecord) (c : CircuitNo) : Event :=
  { kind := .opened, circuit := some c
    originator := some (if r.role = some .initiator then .local else .peer)
    tag := some r.service, count := r.maxSegments }

/-- The OFFER event of a record (R132). -/
def CircuitRecord.offerEvent (r : CircuitRecord) (c : CircuitNo) : Event :=
  { kind := .offer, circuit := some c, tag := some r.service, count := r.offer.map OpenTerms.requested }

/-- The REWOUND event of a record (R152): the count is the send blocks in the queue. -/
def CircuitRecord.rewoundEvent (r : CircuitRecord) (c : CircuitNo) (cause : Option Octet)
    (originator : Option Originator) : Event :=
  { kind := .rewound, circuit := some c, cause, originator, tag := some r.service
    count := some r.send.queue.length }

/-! ### Closing -/

/-- Both sides closed and the record in CLOSED with a new close record (R9, R12, R50, R74). `owed` is the protocol
class afterwards: CLOSE-DONE where the transition owes one, else empty. No event is raised here. -/
def State.toClosed (s : State) (c : CircuitNo) (cause diagnostic : Octet) (originator : Originator)
    (confirmed : Bool) (owed : Option ProtocolKind) : State :=
  ((s.closeSend c).closeRecv c).onCircuit c (fun r =>
    { (r.enter .closed).emptyTransfer with
      openRequest := none, protocol := owed
      closeRecord := some { cause, diagnostic, originator, discarded := s.discardCount c, confirmed } })

/-- A record enters CLOSED without passing through CLOSING, and its event is raised: OPEN-FAILED from OPENING, CLOSED
otherwise (R9, R132, R151). -/
def State.enterClosed (s : State) (c : CircuitNo) (cause diagnostic : Octet) (originator : Originator)
    (confirmed : Bool) (owed : Option ProtocolKind) : State :=
  let t := s.toClosed c cause diagnostic originator confirmed owed
  t.raise (if (s.circuit c).state = .opening then (t.circuit c).openFailedEvent c else (t.circuit c).closedEvent c)

/-- A CLOSING record enters CLOSED, its close record kept but for the confirmed flag, and CLOSED is raised (R10, R137,
R139). -/
def State.finishClosing (s : State) (c : CircuitNo) (confirmed : Bool) (owed : Option ProtocolKind) : State :=
  let t := s.onCircuit c (fun r =>
    { (r.enter .closed).emptyTransfer with
      protocol := owed
      closeRecord := r.closeRecord.map (fun k => { k with confirmed := k.confirmed || confirmed }) })
  t.raise ((t.circuit c).closedEvent c)

/-- A live dialled record ends with no frame, at the link's leaving UP, a peer restart or a reused peer label: CLOSED
with the cause, or with its own close record if it was CLOSING (R9, R107, R160). -/
def State.endCircuit (s : State) (c : CircuitNo) (cause : Octet) : State :=
  if (s.circuit c).state = .closing then s.finishClosing c false none
  else s.enterClosed c cause 0 .part false none

/-- A dialled circuit enters CLOSING (R135): both sides closed, a close record, CLOSE pending, the CLOSE timer. -/
def State.enterClosing (s : State) (c : CircuitNo) (cause diagnostic : Octet) (originator : Originator) : State :=
  (((s.closeSend c).closeRecv c).onCircuit c (fun r =>
    { (r.enter .closing).emptyTransfer with
      protocol := some .close
      closeRecord :=
        some { cause, diagnostic, originator, discarded := s.discardCount c, confirmed := false } })).startTimer c
    .close s.link.config.closeTimer

/-! ### Rewinding -/

/-- An OPEN record enters REWINDING (R143): both sides rewound, the rewind note, REWIND pending, the REWIND timer. -/
def State.enterRewinding (s : State) (c : CircuitNo) (cause : Octet) (originator : Originator) : State :=
  (((s.rewindSend c).rewindRecv c).onCircuit c (fun r =>
    { (r.enter .rewinding).emptyTransfer with
      protocol := some .rewind, note := some { cause, originator } })).startTimer c .rewind
    s.link.config.rewindTimer

/-- A protocol error: the frame is discarded and the circuit rewound with cause PROTOCOL (R38, R40, R72). -/
def State.protocolError (s : State) (c : CircuitNo) : State := s.enterRewinding c Cause.protocol .part

/-- A REWINDING record returns to OPEN with the protocol class given, its send side resumes, and REWOUND is raised
with the note's cause and originator (R147, R148, R152). -/
def State.finishRewinding (s : State) (c : CircuitNo) (protocol : Option ProtocolKind) : State :=
  let note := (s.circuit c).note
  let t := (s.onCircuit c (fun r => { r.enter .opened with protocol })).resumeSend c
  t.raise ((t.circuit c).rewoundEvent c (note.map RewindNote.cause) (note.map RewindNote.originator))

/-- A REWIND frame at an OPEN record (R146): both sides rewound, REWIND-DONE pending, the send side resumed, REWOUND
raised with the frame's cause. -/
def State.rewindInOpen (s : State) (c : CircuitNo) (cause : Octet) : State :=
  let t := (((s.rewindSend c).rewindRecv c).setProtocol c (some .rewindDone)).resumeSend c
  t.raise ((t.circuit c).rewoundEvent c (some cause) (some .peer))

/-! ### Moves with the link -/

/-- Max segments of a fixed circuit under an agreement: the lower of its fixed maximum and the agreed value (R5). -/
def CircuitRecord.agree (r : CircuitRecord) (agreed : Nat) : CircuitRecord :=
  { r with maxSegments := r.fixedMaximum.map (min · agreed) }

/-- A fixed circuit in OPEN or REWINDING enters DORMANT: both sides rewound without frames, every class emptied, max
segments its fixed maximum (R12, R51, R75, R160). -/
def State.enterDormant (s : State) (c : CircuitNo) : State :=
  ((s.rewindSend c).rewindRecv c).onCircuit c (fun r =>
    { (r.enter .dormant).emptyTransfer with protocol := none, maxSegments := r.fixedMaximum })

/-- One record at the link's leaving UP (R160). -/
def State.leaveRecord (cause : Octet) (s : State) (c : CircuitNo) : State :=
  match (s.circuit c).kind, (s.circuit c).state with
  | some .dialled, .opening => s.endCircuit c cause
  | some .dialled, .offered => s.endCircuit c cause
  | some .dialled, .opened => s.endCircuit c cause
  | some .dialled, .rewinding => s.endCircuit c cause
  | some .dialled, .closing => s.endCircuit c cause
  | some .fixed, .opened => s.enterDormant c
  | some .fixed, .rewinding => s.enterDormant c
  | _, .closed => s.setProtocol c none
  | _, _ => s

/-- One record at the link's reaching UP: a DORMANT fixed circuit enters OPEN and its send side resumes (R159). -/
def State.wakeRecord (agreed : Nat) (s : State) (c : CircuitNo) : State :=
  if (s.circuit c).kind = some .fixed ∧ (s.circuit c).state = .dormant then
    (s.onCircuit c (fun r => (r.enter .opened).agree agreed)).resumeSend c
  else s

/-- One record at steps 1 and 2 of a peer restart (R161): a live dialled record enters CLOSED with cause LINK-RESET, a
CLOSED record's protocol class is emptied, and a fixed circuit in OPEN or REWINDING has both sides rewound. -/
def State.restartRecord (s : State) (c : CircuitNo) : State :=
  match (s.circuit c).kind, (s.circuit c).state with
  | some .fixed, .opened =>
    ((s.rewindSend c).rewindRecv c).onCircuit c (fun r =>
      { (r.enter .opened).emptyTransfer with protocol := none })
  | some .fixed, .rewinding =>
    ((s.rewindSend c).rewindRecv c).onCircuit c (fun r =>
      { (r.enter .opened).emptyTransfer with protocol := none })
  | _, _ => s.leaveRecord Cause.linkReset c

/-- One fixed record at step 4 of a peer restart: max segments re-agreed and the send side resumed (R161). -/
def State.reagreeRecord (agreed : Nat) (s : State) (c : CircuitNo) : State :=
  if (s.circuit c).kind = some .fixed ∧ (s.circuit c).state = .opened then
    (s.onCircuit c (fun r => r.agree agreed)).resumeSend c
  else s

end Sys2Proof.Machine
end

