-- ==== Sys2Proof/Machine/BufferCommands.lean ====
section
/-! DEFINITION. The commands about blocks: ALLOC (R82), FREE (R84), SUBMIT (R26, R27), TAKE (R70), READ-DESCRIPTOR (R92)
and READ-POOL (R93). -/

namespace Sys2Proof.Machine

/-! ### ALLOC and FREE (R82, R84) -/

/-- The descriptor ALLOC gives: FILLING, its pages in increasing page number (R82). -/
def fillingDescriptor (pages : List Nat) : Descriptor := { Descriptor.free with state := .filling, pages }

/-- ALLOC at its taking (R82): PARAM 0 the page count. -/
def State.takeAlloc (s : State) : State :=
  let n := s.param 0
  if n = 0 ∨ 64 < n then s.reject .badParam
  else
    match s.lowestFreeDescriptor with
    | none => s.reject .noDescriptor
    | some d =>
      if s.freePages.length < s.link.config.reserve + n then s.reject .noPages
      else
        (s.setDescriptor d (fillingDescriptor (s.choosePages n))).succeed
          [d.val, n, (s.choosePages n).headD 0, flagCode (contiguous (s.choosePages n))]

/-- ALLOC: the taking of ALLOC (R82). -/
def execAlloc (s : State) : Host.Outcome State Fault Refusal := .next (s.taking .alloc State.takeAlloc)

/-- The descriptor a number names in one of the states a command needs (R26, R84). -/
def State.descriptorIn (s : State) (n : Nat) (states : List DescState) : Option DescNo :=
  (namedDescriptor n).filter (fun d => states.contains (s.descriptor d).state)

/-- FREE at its taking (R84): PARAM 0 the descriptor, FILLING or HELD. -/
def State.takeFree (s : State) : State :=
  match s.descriptorIn (s.param 0) [.filling, .held] with
  | none => s.reject .badDescriptor
  | some d => (s.freeDescriptor d).succeed []

/-- FREE: the taking of the FREE command (R84). -/
def execFreeCommand (s : State) : Host.Outcome State Fault Refusal := .next (s.taking .freeCommand State.takeFree)

/-! ### SUBMIT (R26, R27) -/

/-- The circuit states that take SUBMIT (R26 check 3). -/
def CircuitState.takesSubmit : CircuitState → Bool
  | .opening | .opened | .rewinding | .dormant => true
  | .free | .offered | .closing | .closed => false

/-- The segment limit of a SUBMIT: the requested max segments in OPENING, else max segments (R26 check 5). -/
def CircuitRecord.submitLimit (r : CircuitRecord) : Nat :=
  if r.state = .opening then (r.openRequest.map OpenTerms.requested).getD 0 else r.maxSegments.getD 0

/-- A byte length fits n pages: (n−1)·256 < L ≤ n·256 (R26 check 4). -/
def lengthFits (n L : Nat) : Bool :=
  decide ((n - 1) * Config.pageSize < L) && decide (L ≤ n * Config.pageSize)

/-- The block joins the tail of the send queue, QUEUED (R27). -/
def State.enqueue (s : State) (c : CircuitNo) (d : DescNo) (length : Nat) (tag : Word) : State :=
  (s.onDescriptor d (fun x =>
    { x with state := .queued, circuit := some c, byteLength := some length, tag := some tag })).onSend c (fun x =>
    { x with queue := x.queue ++ [d] })

/-- The start decision of a SUBMIT: made on an OPEN circuit whose sender was IDLE (R27, R29). -/
def State.startIfIdle (s : State) (c : CircuitNo) : State :=
  if (s.circuit c).state = .opened ∧ (s.circuit c).send.sender = .idle then s.startDecision c false else s

/-- The checks of SUBMIT from the circuit's state on, and its effect (R26 checks 3 to 6, R27). -/
def State.submitTo (s : State) (c : CircuitNo) (d : DescNo) : State :=
  let n := (s.descriptor d).pages.length
  if !(s.circuit c).state.takesSubmit then s.reject .badState
  else if !lengthFits n (s.param 2) then s.reject .badParam
  else if (s.circuit c).submitLimit < n then s.reject .badParam
  else if Config.sendCapacity ≤ (s.circuit c).send.blocks.length then s.reject .queueFull
  else
    (((s.enqueue c d (s.param 2) (s.tagOf (s.param 3))).startIfIdle c).countFree
      (decide (65536 ≤ s.param 3))).succeed [(s.circuit c).send.blocks.length + 1]

/-- SUBMIT at its taking (R26): PARAM 0 to 3 descriptor, circuit, length, tag. -/
def State.takeSubmit (s : State) : State :=
  s.withCircuit (s.param 1) (fun c =>
    match s.descriptorIn (s.param 0) [.filling] with
    | none => s.reject .badDescriptor
    | some d => s.submitTo c d)

/-- SUBMIT: the taking of SUBMIT (R26). -/
def execSubmit (s : State) : Host.Outcome State Fault Refusal := .next (s.taking .submit State.takeSubmit)

/-! ### TAKE (R70) -/

/-- The head of the delivery queue passes to the host, HELD; READY is made pending where R70 gives it. -/
def State.takeHead (s : State) (c : CircuitNo) (d : DescNo) (rest : List DescNo) : State :=
  ((s.onDescriptor d (fun x => { x with state := .held })).onRecv c (fun x =>
    { x with delivered := rest })).onCircuit c CircuitRecord.offerReady

/-- TAKE at its taking (R70): the result gives descriptor, block number, byte length and blocks left. -/
def State.takeTake (s : State) : State :=
  s.withCircuit (s.param 0) (fun c =>
    if (s.circuit c).state = .opening ∨ (s.circuit c).state = .offered then s.reject .badState
    else
      match (s.circuit c).recv.delivered with
      | [] => s.reject .empty
      | d :: rest =>
        (s.takeHead c d rest).succeed
          [d.val, codeOf BitVec.toNat (s.descriptor d).blockNumber, codeOf id (s.descriptor d).byteLength, rest.length])

/-- TAKE: the taking of TAKE (R70). -/
def execTake (s : State) : Host.Outcome State Fault Refusal := .next (s.taking .take State.takeTake)

/-! ### READ-DESCRIPTOR (R92) -/

/-- The page of slot i: an assembly's filled slot of that index, else the i-th page of the list (R79, R92). -/
def Descriptor.slotPage (x : Descriptor) (i : Nat) : Option Nat :=
  ((x.slots.find? (fun y => y.index == i)).map Slot.page).or x.pages[i]?

/-- Part 0 of READ-DESCRIPTOR (R92). -/
def Descriptor.summary (x : Descriptor) : List Nat :=
  [x.state.code, flagCode x.circuit.isSome, codeOf Fin.val x.circuit, x.held.length, codeOf id x.byteLength,
   codeOf BitVec.toNat x.tag, flagCode x.blockNumber.isSome, codeOf BitVec.toNat x.blockNumber]

/-- Parts 1 to 8 of READ-DESCRIPTOR: slots 8(k−1) to 8k−1, FFFFh where a slot holds no page (R92). -/
def Descriptor.slotPart (x : Descriptor) (k : Nat) : List Nat :=
  (List.range 8).map (fun j => (x.slotPage (8 * (k - 1) + j)).getD 0xFFFF)

/-- READ-DESCRIPTOR at its taking (R92): PARAM 0 descriptor, PARAM 1 part. -/
def State.takeReadDescriptor (s : State) : State :=
  match namedDescriptor (s.param 0) with
  | none => s.reject .badDescriptor
  | some d =>
    if 8 < s.param 1 then s.reject .badParam
    else if s.param 1 = 0 then s.succeed (s.descriptor d).summary
    else s.succeed ((s.descriptor d).slotPart (s.param 1))

/-- READ_DESCRIPTOR: the taking of READ-DESCRIPTOR (R92). -/
def execReadDescriptor (s : State) : Host.Outcome State Fault Refusal :=
  .next (s.taking .readDescriptor State.takeReadDescriptor)

/-! ### READ-POOL (R93) -/

/-- The RETURNING descriptor; at most one is (R88). -/
def State.returningDescriptor (s : State) : Option DescNo :=
  (List.finRange 256).find? (fun d => decide ((s.descriptor d).state = .returning))

/-- The values of READ-POOL (R93). -/
def State.poolView (s : State) : List Nat :=
  [s.freePages.length, s.freeDescriptorCount, s.link.config.reserve, s.freePages.length - s.link.config.reserve,
   flagCode s.returningDescriptor.isSome, codeOf Fin.val s.returningDescriptor, flagCode s.latch.isSome,
   codeOf id s.latch]

/-- READ-POOL at its taking (R93): the access-fault latch is reported and then cleared. -/
def State.takeReadPool (s : State) : State := { s with latch := none }.succeed s.poolView

/-- READ_POOL: the taking of READ-POOL (R93). -/
def execReadPool (s : State) : Host.Outcome State Fault Refusal := .next (s.taking .readPool State.takeReadPool)

end Sys2Proof.Machine
end

