-- ==== Sys2Proof/Machine/LinkOps.lean ====
section
/-! DEFINITION. The Link Supervisor's shared operations: the link timer and pending link frame (R157, R158), reaching
and leaving UP (R159, R160), the peer restart (R161) and the entry to DOWN (R170). -/

namespace Sys2Proof.Machine

/-- The link record changed. -/
def State.onLink (s : State) (f : Link → Link) : State := { s with link := f s.link }

/-- A link frame is made pending, replacing the entry already there (R157). -/
def State.setPendingLink (s : State) (p : Option PendingLink) : State := s.onLink (fun l => { l with pending := p })

/-- The link timer is started with a purpose, dropping what it held (R158). -/
def Link.startTimer (l : Link) (purpose : LinkPurpose) (ms : Nat) : Link :=
  { l with timer := some { purpose, remaining := ms } }

/-- The entry to DOWN (R170): the link timer stopped, the pending link frame emptied, and the agreed values, peer
values and stop kind absent. -/
def State.enterDown (s : State) : State :=
  s.onLink (fun l =>
    { l with
      state := .down, timer := none, pending := none, agreed := none, peerIdentity := none, peerStart := none
      stopKind := none })

/-- Every record moved by f, in increasing circuit number (R160). -/
def State.forEachCircuit (s : State) (f : State → CircuitNo → State) : State := (List.finRange 64).foldl f s

/-- The dialled records that enter CLOSED when the link leaves UP or the peer restarts (R160, R161). -/
def State.liveDialledCount (s : State) : Nat :=
  s.circuits.toList.countP (fun r => decide (r.kind = some .dialled) && r.state.live)

/-- The LINK-DOWN event (section 8.9). -/
def linkDownEvent (cause : Octet) (closed : Nat) (follows : LinkState) : Event :=
  { kind := .linkDown, cause := some cause, count := some closed, block := some follows.followCode }

/-- The LINK-UP event (section 8.9). -/
def linkUpEvent (agreed : Nat) (identity : Word) (restart : Bool) : Event :=
  { kind := .linkUp, tag := some identity, count := some agreed, block := some (if restart then 1 else 0) }

/-- The link leaves UP (R160): every record is moved, the loose-reply queue is emptied, and LINK-DOWN is raised after
the records' events. The link state itself is changed by the rule that asks. -/
def State.leaveUp (s : State) (cause : Octet) (follows : LinkState) : State :=
  ({ s.forEachCircuit (State.leaveRecord cause) with loose := [] }).raise
    (linkDownEvent cause s.liveDialledCount follows)

/-- The link enters STOPPING with a LINK-STOP pending and the STOP timer (R158, R167, R168). -/
def State.enterStopping (s : State) (kind : StopKind) (cause : Octet) : State :=
  s.onLink (fun l =>
    { l with
      state := .stopping, stopKind := some kind, pending := some (.linkStop cause)
      timer := some { purpose := .stop, remaining := l.config.stopTimer } })

/-- The agreed max segments: the lower of this station's offer and the frame's value (R159). -/
def State.agreedWith (s : State) (offered : Nat) : Nat := min s.link.config.offered offered

/-- The link reaches UP by an agreement (R159): the values recorded, the timer stopped, the DORMANT fixed circuits
opened, and LINK-UP raised. -/
def State.reachUp (s : State) (offered : Nat) (identity start : Word) : State :=
  let agreed := s.agreedWith offered
  ((s.onLink (fun l =>
      { l with
        state := .up, timer := none, agreed := some agreed, peerIdentity := some identity
        peerStart := some start })).forEachCircuit (State.wakeRecord agreed)).raise (linkUpEvent agreed identity false)

/-- The peer restart (R161), the link staying UP throughout. -/
def State.peerRestart (s : State) (offered : Nat) (identity start : Word) : State :=
  let agreed := s.agreedWith offered
  let s1 := { s.forEachCircuit State.restartRecord with loose := [] }
  let s2 := s1.onLink (fun l =>
    { l with agreed := some agreed, peerIdentity := some identity, peerStart := some start })
  let s3 := (s2.forEachCircuit (State.reagreeRecord agreed)).setPendingLink (some .linkAgree)
  (s3.raise (linkDownEvent Cause.linkReset s.liveDialledCount .up)).raise (linkUpEvent agreed identity true)

/-- The own start number of a START-LINK: the millisecond count modulo 65536, one more if that is the number already
held (R156). -/
def State.newStart (s : State) : Word :=
  let n : Word := BitVec.ofNat 16 s.msCount
  if n = s.link.ownStart then n + 1 else n

end Sys2Proof.Machine
end

