-- ==== Sys2Proof/Machine/Wire.lean ====
section
/-! DEFINITION. Frames on the line: layouts (R181, R209), the CRC (R179), framing (R178), the order of bits (R177), and
the receiver with the checks of a candidate (R180, R182). -/

namespace Sys2Proof.Machine

/-- The delimiter octet (R178). -/
def delimiter : Octet := 0x9C

/-- The escape octet (R178). -/
def escapeOctet : Octet := 0x9B

/-! ### CRC (R179) -/

/-- One bit into the CRC register, least significant bit first, generator x^16+x^12+x^5+1. -/
def crcBit (c : Word) (b : Bool) : Word :=
  if (c.getLsbD 0 ^^ b) then (c >>> 1) ^^^ 0x8408#16 else c >>> 1

/-- One octet into the CRC register, its bits taken least significant first. -/
def crcOctet (c : Word) (o : Octet) : Word := (List.range 8).foldl (fun c i => crcBit c (o.getLsbD i)) c

/-- The CRC of a header and body: the register starts at FFFFh and is complemented at the end. -/
def crc (octets : List Octet) : Word := ~~~ (octets.foldl crcOctet 0xFFFF#16)

/-- A field of two octets, low octet first (12.1). -/
def lowFirst (w : Word) : List Octet := [w.extractLsb' 0 8, w.extractLsb' 8 8]

/-- The two octets of a field, low octet first (12.1). -/
def ofLowFirst (low high : Octet) : Word := high ++ low

/-! ### Layouts (R209) -/

/-- A ready flag octet: 00h for false and 01h for true (R209). -/
def readyOctet (b : Bool) : Octet := if b then 1 else 0

/-- The missing map: body octet k holds the bits for indices 8k to 8k+7, index 8k lowest (R209). -/
def mapOctets (map : SegSet) : List Octet := (List.range 8).map (fun k => map.extractLsb' (8 * k) 8)

/-- The missing map of eight body octets (R209). -/
def ofMapOctets (o0 o1 o2 o3 o4 o5 o6 o7 : Octet) : SegSet := o7 ++ o6 ++ o5 ++ o4 ++ o3 ++ o2 ++ o1 ++ o0

/-- The header and body of a frame (R181, R209). Header octets a kind does not use are 0. The outcome codes are 01h
MISSING, 02h COMPLETE and 03h ABANDONED. -/
def frameOctets : Frame → List Octet
  | .linkStart v m i n => [0x01, 0, 0, v, m, 0] ++ lowFirst i ++ lowFirst n
  | .linkAgree m i n => [0x02, 0, 0, m, 0, 0] ++ lowFirst i ++ lowFirst n
  | .linkStop c => [0x03, 0, 0, c, 0, 0]
  | .openFrame d s r v data => [0x10, d, s, r, BitVec.ofNat 8 data.length, 0] ++ lowFirst v ++ data
  | .accept d s a => [0x11, d, s, a, 0, 0]
  | .refuse d s c g => [0x12, d, s, c, g, 0]
  | .close d s c g => [0x13, d, s, c, g, 0]
  | .closeDone d s => [0x14, d, s, 0, 0, 0]
  | .rewind d c => [0x15, d, 0, c, 0, 0]
  | .rewindDone d => [0x16, d, 0, 0, 0, 0]
  | .seg d b i p => [0x17, d, 0, b, i, 0] ++ p
  | .blockEnd d b n => [0x18, d, 0, b, n, 0]
  | .blockAbandon d b => [0x19, d, 0, b, 0, 0]
  | .blockStatus d b (.missing map) r => [0x1A, d, 0, b, 0x01, readyOctet r] ++ mapOctets map
  | .blockStatus d b .complete r => [0x1A, d, 0, b, 0x02, readyOctet r]
  | .blockStatus d b .abandoned r => [0x1A, d, 0, b, 0x03, readyOctet r]
  | .probe d => [0x1B, d, 0, 0, 0, 0]
  | .ready d r => [0x1C, d, 0, readyOctet r, 0, 0]

/-- Escaping inside a frame (R178). -/
def escape : List Octet → List Octet
  | [] => []
  | o :: os =>
    if o = delimiter then escapeOctet :: 0x1C :: escape os
    else if o = escapeOctet then escapeOctet :: 0x1B :: escape os
    else o :: escape os

/-- A frame's octets on the line after its opening delimiter: header, body and CRC escaped, then the closing delimiter
(R178, R179). -/
def lineOctets (f : Frame) : List Octet :=
  escape (frameOctets f ++ lowFirst (crc (frameOctets f))) ++ [delimiter]

/-! ### Bits (R177) -/

/-- The eight bits of an octet in the order they are sent and received, least significant first (R177). -/
def octetBits (o : Octet) : List Bool := (List.range 8).map (fun i => o.getLsbD i)

/-- The bits of a run of octets as TXD carries them, one in each period of TXC, and as RXD brings them (R177). -/
def lineBits (octets : List Octet) : List Bool := octets.flatMap octetBits

/-- The octet whose bits were received in the order given, the first the least significant (R177). -/
def octetOfBits (bits : List Bool) : Octet :=
  BitVec.ofNat 8 (((List.range 8).filter (fun i => bits.getD i false)).map (2 ^ ·)).sum

/-- The whole octets received as a run of bits, eight bits each (R177). -/
def octetsOfBits : List Bool → List Octet
  | b0 :: b1 :: b2 :: b3 :: b4 :: b5 :: b6 :: b7 :: bits =>
    octetOfBits [b0, b1, b2, b3, b4, b5, b6, b7] :: octetsOfBits bits
  | _ => []

/-- The octets TXD carries in the order they are sent: the frame in transmission with its closing delimiter, the abort
sequence, or one delimiter of the idle fill, which is sent again until a frame starts (R178, R192). -/
def State.txdOctets (s : State) : List Octet :=
  match s.line, s.tx with
  | .idleFill, _ => [delimiter]
  | .frame, some t => lineOctets t.frame
  | .frame, none => []
  | .abort, _ => [escapeOctet, delimiter]

/-- The bits of what TXD carries, in the order they are sent (R177). -/
def State.txdBits (s : State) : List Bool := lineBits s.txdOctets

/-! ### The checks of a candidate (R182) -/

/-- A ready flag octet that is neither 0 nor 1 fails check 8 (R182). -/
def ofReadyOctet (o : Octet) : Option Bool :=
  if o = 0 then some false else if o = 1 then some true else none

/-- The body of a BLOCK-STATUS with its outcome code: 14 octets with MISSING, 6 otherwise (R182 checks 4 and 7). -/
def parseOutcome (code : Octet) (body : List Octet) : Option StatusOutcome :=
  match body with
  | [] => if code = 0x02 then some .complete else if code = 0x03 then some .abandoned else none
  | [o0, o1, o2, o3, o4, o5, o6, o7] =>
    if code = 0x01 then some (.missing (ofMapOctets o0 o1 o2 o3 o4 o5 o6 o7)) else none
  | _ => none

/-- The fields of a link frame with two body fields: four body octets and destination label 0 (R182 checks 4, 5). -/
def parseLink (dst : Octet) (body : List Octet) (build : Word → Word → Frame) : Option Frame :=
  match body with
  | [i0, i1, n0, n1] => if dst = 0 then some (build (ofLowFirst i0 i1) (ofLowFirst n0 n1)) else none
  | _ => none

/-- A frame of six octets (R182 check 4). -/
def parseShort (body : List Octet) (f : Frame) : Option Frame :=
  match body with
  | [] => some f
  | _ :: _ => none

/-- An OPEN: the opening data length is at most 16 and equal to the frame's length less 8 (R182 checks 4, 6). -/
def parseOpen (dst src requested length : Octet) (body : List Octet) : Option Frame :=
  match body with
  | v0 :: v1 :: data =>
    if length.toNat ≤ 16 ∧ length.toNat = data.length then some (.openFrame dst src requested (ofLowFirst v0 v1) data)
    else none
  | _ => none

/-- Checks 3 to 8 of R182 on the header and body of a candidate. -/
def parseFrame : List Octet → Option Frame
  | kind :: dst :: src :: f1 :: f2 :: f3 :: body =>
    if kind = 0x01 then parseLink dst body (.linkStart f1 f2)
    else if kind = 0x02 then parseLink dst body (.linkAgree f1)
    else if kind = 0x03 then (if dst = 0 then parseShort body (.linkStop f1) else none)
    else if kind = 0x10 then parseOpen dst src f1 f2 body
    else if kind = 0x11 then parseShort body (.accept dst src f1)
    else if kind = 0x12 then parseShort body (.refuse dst src f1 f2)
    else if kind = 0x13 then parseShort body (.close dst src f1 f2)
    else if kind = 0x14 then parseShort body (.closeDone dst src)
    else if kind = 0x15 then parseShort body (.rewind dst f1)
    else if kind = 0x16 then parseShort body (.rewindDone dst)
    else if kind = 0x17 then
      (if 1 ≤ body.length ∧ body.length ≤ 256 then some (.seg dst f1 f2 body) else none)
    else if kind = 0x18 then parseShort body (.blockEnd dst f1 f2)
    else if kind = 0x19 then parseShort body (.blockAbandon dst f1)
    else if kind = 0x1A then
      (match parseOutcome f2 body, ofReadyOctet f3 with
        | some outcome, some r => some (.blockStatus dst f1 outcome r)
        | _, _ => none)
    else if kind = 0x1B then parseShort body (.probe dst)
    else if kind = 0x1C then
      (match ofReadyOctet f1 with
        | some r => parseShort body (.ready dst r)
        | none => none)
    else none
  | _ => none

/-- The checks of a candidate ended by a delimiter, in order (R182): at least 8 octets, the CRC, and the frame. -/
def checkCandidate (octets : List Octet) : Option Frame :=
  if octets.length < 8 then none
  else if octets.drop (octets.length - 2) = lowFirst (crc (octets.take (octets.length - 2))) then
    parseFrame (octets.take (octets.length - 2))
  else none

/-! ### The receiver (R180) -/

/-- The receiver hunting for a delimiter. -/
def Receiver.hunting : Receiver := { phase := .hunt, buffer := [] }

/-- The receiver after a delimiter, its buffer empty. -/
def Receiver.opened : Receiver := { phase := .collect, buffer := [] }

/-- An octet appended to the buffer, or the candidate found overlong (R180). -/
def Receiver.append (r : Receiver) (o : Octet) : Receiver :=
  if Config.receiverCapacity ≤ r.buffer.length then Receiver.hunting
  else { phase := .collect, buffer := r.buffer ++ [o] }

/-- One octet received on RXD, with the good frame it ends, if any (R180, R182). -/
def Receiver.take (r : Receiver) (o : Octet) : Receiver × Option Frame :=
  match r.phase with
  | .hunt => if o = delimiter then (Receiver.opened, none) else (r, none)
  | .collect =>
    if o = delimiter then (Receiver.opened, if r.buffer = [] then none else checkCandidate r.buffer)
    else if o = escapeOctet then ({ r with phase := .escaped }, none)
    else (r.append o, none)
  | .escaped =>
    if o = 0x1C then (r.append delimiter, none)
    else if o = 0x1B then (r.append escapeOctet, none)
    else if o = delimiter then (Receiver.opened, none)
    else (Receiver.hunting, none)

/-- A run of octets received on RXD, with the good frames it ends, in order. -/
def Receiver.feed (r : Receiver) : List Octet → Receiver × List Frame
  | [] => (r, [])
  | o :: os =>
    let step := r.take o
    let rest := Receiver.feed step.1 os
    (rest.1, step.2.toList ++ rest.2)

end Sys2Proof.Machine
end

