-- ==== Sys2Proof/WellFormed.lean ====
section
/-! DEFINITION. When a command spells a moment the spec describes: field widths that the types do not already bound
(R181, R182), and the registers that have a row of their own. -/

namespace Sys2Proof

/-- A frame the line can carry as a good frame: 0 to 16 octets of opening data (R182 check 6), a payload of 1 to 256
octets (R181). Every other bound is in the types. -/
def Frame.wellFormed : Frame → Bool
  | .openFrame _ _ _ _ data => decide (data.length ≤ 16)
  | .seg _ _ _ payload => decide (1 ≤ payload.length) && decide (payload.length ≤ 256)
  | .linkStart .. => true
  | .linkAgree .. => true
  | .linkStop .. => true
  | .accept .. => true
  | .refuse .. => true
  | .close .. => true
  | .closeDone .. => true
  | .rewind .. => true
  | .rewindDone .. => true
  | .blockEnd .. => true
  | .blockAbandon .. => true
  | .blockStatus .. => true
  | .probe .. => true
  | .ready .. => true

/-- The frame an arrival row stands for; none for every other row. -/
def Instr.frame : Instr → Option Frame
  | .linkStartArrival v m i n => some (.linkStart v m i n)
  | .linkAgreeArrival m i n => some (.linkAgree m i n)
  | .linkStopArrival c => some (.linkStop c)
  | .openFrameArrival d s r v data => some (.openFrame d s r v data)
  | .acceptArrival d s a => some (.accept d s a)
  | .refuseArrival d s c g => some (.refuse d s c g)
  | .closeFrameArrival d s c g => some (.close d s c g)
  | .closeDoneArrival d s => some (.closeDone d s)
  | .rewindFrameArrival d c => some (.rewind d c)
  | .rewindDoneArrival d => some (.rewindDone d)
  | .segArrival d b i p => some (.seg d b i p)
  | .blockEndArrival d b n => some (.blockEnd d b n)
  | .blockAbandonArrival d b => some (.blockAbandon d b)
  | .blockStatusArrival d b o r => some (.blockStatus d b o r)
  | .probeArrival d => some (.probe d)
  | .readyArrival d r => some (.ready d r)
  | .setLink | .readLink | .startLink | .stopLink | .listen | .unlisten | .readListen | .openCommand | .answer
  | .closeCommand | .rewindCommand | .retire | .fix | .unfix | .readCircuit | .setCircuit | .alloc | .freeCommand
  | .submit | .take | .readDescriptor | .readPool | .initialise | .readLabel | .unknownCommand => none
  | .registerWrite .. | .portControlWrite .. | .eventPop | .packetMemoryRead .. | .packetMemoryWrite .. => none
  | .hardwareReset | .startUpEnd | .lineReadyFall | .lineReadyRise | .candidateDiscard .. => none
  | .openTimerExpiry .. | .offerTimerExpiry .. | .statusTimerExpiry .. | .probeTimerExpiry .. => none
  | .closeTimerExpiry .. | .rewindTimerExpiry .. | .startTimerExpiry | .stopTimerExpiry | .restTimeExpiry .. => none
  | .transmissionStart | .transmissionEnd | .huntDelimiterReceived => none

/-- A command in the form the spec gives its row: an arrival row carries a good frame (R182), a register write names a
register without a row of its own (PORT CONTROL at word 2 and EVENT POP at word 49 have one), and a rest time belongs
to a label from 1 to 255 (R96). -/
def Instr.wellFormed : Instr → Bool
  | .registerWrite address _ => address != 2 && address != 49
  | .restTimeExpiry label => label != 0
  | .linkStartArrival v m i n => (Frame.linkStart v m i n).wellFormed
  | .linkAgreeArrival m i n => (Frame.linkAgree m i n).wellFormed
  | .linkStopArrival c => (Frame.linkStop c).wellFormed
  | .openFrameArrival d s r v data => (Frame.openFrame d s r v data).wellFormed
  | .acceptArrival d s a => (Frame.accept d s a).wellFormed
  | .refuseArrival d s c g => (Frame.refuse d s c g).wellFormed
  | .closeFrameArrival d s c g => (Frame.close d s c g).wellFormed
  | .closeDoneArrival d s => (Frame.closeDone d s).wellFormed
  | .rewindFrameArrival d c => (Frame.rewind d c).wellFormed
  | .rewindDoneArrival d => (Frame.rewindDone d).wellFormed
  | .segArrival d b i p => (Frame.seg d b i p).wellFormed
  | .blockEndArrival d b n => (Frame.blockEnd d b n).wellFormed
  | .blockAbandonArrival d b => (Frame.blockAbandon d b).wellFormed
  | .blockStatusArrival d b o r => (Frame.blockStatus d b o r).wellFormed
  | .probeArrival d => (Frame.probe d).wellFormed
  | .readyArrival d r => (Frame.ready d r).wellFormed
  | .setLink | .readLink | .startLink | .stopLink | .listen | .unlisten | .readListen | .openCommand | .answer
  | .closeCommand | .rewindCommand | .retire | .fix | .unfix | .readCircuit | .setCircuit | .alloc | .freeCommand
  | .submit | .take | .readDescriptor | .readPool | .initialise | .readLabel | .unknownCommand => true
  | .portControlWrite .. | .eventPop | .packetMemoryRead .. | .packetMemoryWrite .. => true
  | .hardwareReset | .startUpEnd | .lineReadyFall | .lineReadyRise | .candidateDiscard .. => true
  | .openTimerExpiry .. | .offerTimerExpiry .. | .statusTimerExpiry .. | .probeTimerExpiry .. => true
  | .closeTimerExpiry .. | .rewindTimerExpiry .. | .startTimerExpiry | .stopTimerExpiry => true
  | .transmissionStart | .transmissionEnd | .huntDelimiterReceived => true

end Sys2Proof
end

