-- ==== Sys2Proof/Machine/Arrivals.lean ====
section
/-! DEFINITION. The arrival of a good frame (R182, R185) and the Label Map's dispatch of circuit frames (R102 to
R104). -/

namespace Sys2Proof.Machine

/-- A frame can arrive: line-ready is high and the receiver is not hunting for a delimiter (R180, log 4). -/
def State.lineHeard (s : State) : Bool := s.lineReady && decide (s.receiver.phase ≠ .hunt)

/-- The arrival of a frame at its closing delimiter (R180, R182, R185): the receiver opens the next candidate, and a
good frame goes to its owner. A candidate that breaks a bound of R182 is discarded (log 20). -/
def State.arrive (s : State) (f : Frame) (owner : State → State) : State :=
  if s.lineHeard then
    (if f.wellFormed then owner { s with receiver := Receiver.opened } else { s with receiver := Receiver.opened })
  else s

/-- The dispatch of a circuit frame other than OPEN (R102 to R104): discarded unless the link is UP and the
destination label is not 0; then to the bound circuit, or to the treatment of a FREE or RESTING label. -/
def State.dispatch (s : State) (dst : Label) (bound : CircuitNo → State → State) (unbound : State → State) : State :=
  if s.link.state = .up ∧ dst ≠ 0 then
    match s.label dst with
    | .bound c _ => bound c s
    | .free | .resting _ => unbound s
  else s

/-- A circuit frame that only an OPEN circuit takes; every other circuit and label discards it (R103, R104). -/
def State.dispatchOpen (s : State) (dst : Label) (taken : CircuitNo → State → State) : State :=
  s.dispatch dst (fun c t => if (t.circuit c).state = .opened then taken c t else t) id

/-- The CLOSE with cause STALE owed to an ACCEPT that reaches no OPENING circuit (R103, R104, R105). -/
def staleClose (dst src : Label) : LooseReply := { body := .close Cause.stale 0, dst := src, src := dst }

/-- The loose CLOSE-DONE owed to a CLOSE (R103, R104, R105). -/
def looseCloseDone (dst src : Label) : LooseReply := { body := .closeDone, dst := src, src := dst }

/-- The loose REFUSE owed to an arriving OPEN (R105, R117): to the frame's source label, with source label 0. -/
def openRefusal (src : Label) (cause : Octet) : LooseReply := { body := .refuse cause 0, dst := src, src := 0 }

end Sys2Proof.Machine
end

