-- ==== Sys2Proof/Machine/ListenCommands.lean ====
section
/-! DEFINITION. The listen table's commands: LISTEN (R113), UNLISTEN and READ-LISTEN (R114). -/

namespace Sys2Proof.Machine

/-- The slot whose entry holds a service number; no two do (R112). -/
def State.listenSlot (s : State) (service : Nat) : Option (Fin 16) :=
  (List.finRange 16).find? (fun k => s.listen[k.val].any (fun e => e.service.toNat == service))

/-- The lowest-numbered empty slot (R113). -/
def State.emptySlot (s : State) : Option (Fin 16) := (List.finRange 16).find? (fun k => s.listen[k.val].isNone)

/-- The entry for a service number, if any (R112, R117). -/
def State.listenEntry (s : State) (service : Word) : Option ListenEntry :=
  (s.listenSlot service.toNat).bind (fun k => s.listen[k.val])

/-- A slot of the listen table written (R113, R114). -/
def State.setListen (s : State) (k : Fin 16) (e : Option ListenEntry) : State :=
  { s with listen := s.listen.set k.val e }

/-- LISTEN at its taking (R113): PARAM 0 to 5 service, policy, max segments, window, round limit, give-up policy. -/
def State.takeListen (s : State) : State :=
  match serviceOf (s.param 0), listenPolicyOf (s.param 1) with
  | some service, some policy =>
    if 64 < s.param 2 then s.reject .badParam
    else
      match limitsOf (s.param 4) (s.param 5) (s.param 3) false with
      | none => s.reject .badParam
      | some limits =>
        match (s.listenSlot service.toNat).or s.emptySlot with
        | none => s.reject .noSlot
        | some k =>
          (s.setListen k (some
            { service, policy, maxSegments := segmentsOf (s.param 2) 64, window := limits.window
              roundLimit := limits.roundLimit, giveUp := limits.policy })).succeed [k.val]
  | _, _ => s.reject .badParam

/-- LISTEN: the taking of LISTEN (R113). -/
def execListen (s : State) : Host.Outcome State Fault Refusal := .next (s.taking .listen State.takeListen)

/-- UNLISTEN at its taking (R114): PARAM 0 the service number. -/
def State.takeUnlisten (s : State) : State :=
  match s.listenSlot (s.param 0) with
  | none => s.reject .badParam
  | some k => (s.setListen k none).succeed []

/-- UNLISTEN: the taking of UNLISTEN (R114). -/
def execUnlisten (s : State) : Host.Outcome State Fault Refusal := .next (s.taking .unlisten State.takeUnlisten)

/-- A listen entry's six fields in the order of R112; an empty slot's read as zero (R114). -/
def listenFields : Option ListenEntry → List Nat
  | none => [0, 0, 0, 0, 0, 0]
  | some e => [e.service.toNat, e.policy.code, e.maxSegments, e.window, e.roundLimit, e.giveUp.code]

/-- The occupied slots, 0 to 16 (R114). -/
def State.occupiedSlots (s : State) : Nat := s.listen.toList.countP Option.isSome

/-- READ-LISTEN at its taking (R114): entry present, its six fields, and the occupied slots. -/
def State.takeReadListen (s : State) : State :=
  if h : s.param 0 < 16 then
    s.succeed ([flagCode (s.listen[s.param 0]).isSome] ++ listenFields s.listen[s.param 0] ++ [s.occupiedSlots])
  else s.reject .badParam

/-- READ_LISTEN: the taking of READ-LISTEN (R114). -/
def execReadListen (s : State) : Host.Outcome State Fault Refusal := .next (s.taking .readListen State.takeReadListen)

end Sys2Proof.Machine
end

