-- ==== Sys2Proof/Machine/CircuitArrivals.lean ====
section
/-! DEFINITION. The arrivals the Circuit Controller takes: OPEN (R117 to R120), ACCEPT (R127, R128), REFUSE (R130),
CLOSE (R138, R139), CLOSE-DONE (R139), REWIND (R146, R147) and REWIND-DONE (R148), with the treatment of R103 and R104
where no circuit takes them. -/

namespace Sys2Proof.Machine

/-! ### OPEN (R117) -/

/-- The fields of an arriving OPEN frame. -/
structure OpenFields where
  src     : Label
  terms   : OpenTerms
  service : Word
deriving DecidableEq, Repr

/-- The record of an AUTO circuit (R3, R24, R52, R118). -/
def autoRecord (x : OpenFields) (e : ListenEntry) (agreed : Nat) : CircuitRecord :=
  { CircuitRecord.free false with
    state := .opened, kind := some .dialled, role := some .responder, peerLabel := some x.src, service := x.service
    maxSegments := some (min (min x.terms.requested e.maxSegments) agreed)
    roundLimit := e.roundLimit, policy := some e.giveUp, window := e.window, offer := some x.terms
    protocol := some .accept, send := SendContext.fresh .idle true }

/-- The record of a REFER circuit (R3, R24, R52, R120). -/
def offeredRecord (x : OpenFields) (e : ListenEntry) (offerTimer : Nat) : CircuitRecord :=
  { CircuitRecord.free false with
    state := .offered, kind := some .dialled, role := some .responder, peerLabel := some x.src, service := x.service
    roundLimit := e.roundLimit, policy := some e.giveUp, window := e.window, offer := some x.terms
    timer := some { purpose := .offer, remaining := offerTimer }, send := SendContext.fresh .stopped true }

/-- Creation from an AUTO entry (R118): OPENED is raised after the record has changed. -/
def State.createAuto (s : State) (x : OpenFields) (e : ListenEntry) (c : CircuitNo) (l : Label) : State :=
  let t := s.createDialled c l (autoRecord x e (s.link.agreed.getD 0))
  t.raise ((t.circuit c).openedEvent c)

/-- Creation from a REFER entry (R120): OFFER is raised after the record has changed. -/
def State.createOffered (s : State) (x : OpenFields) (e : ListenEntry) (c : CircuitNo) (l : Label) : State :=
  let t := s.createDialled c l (offeredRecord x e s.link.config.offerTimer)
  t.raise ((t.circuit c).offerEvent c)

/-- A refusal of an OPEN frame: a loose REFUSE, with no record, label or event (R117). -/
def State.refuseOpen (s : State) (src : Label) (cause : Octet) : State := s.requestLoose (openRefusal src cause)

/-- Steps 2 to 6 of R117. -/
def State.openListed (s : State) (x : OpenFields) : State :=
  if x.terms.requested = 0 ∨ 64 < x.terms.requested then s.refuseOpen x.src Cause.protocol
  else
    match s.listenEntry x.service with
    | none => s.refuseOpen x.src Cause.noService
    | some e =>
      match s.lowestFreeCircuit, s.scanFreeLabel with
      | some c, some l =>
        (match e.policy with
          | .auto => s.createAuto x e c l
          | .refer => s.createOffered x e c l)
      | _, _ => s.refuseOpen x.src Cause.busy

/-- An OPEN frame at the Circuit Controller: the peer-label check first (R107, R117). -/
def State.openAt (s : State) (x : OpenFields) : State :=
  match s.peerHolder x.src with
  | none => s.openListed x
  | some c =>
    if (s.circuit c).kind = some .fixed then s.refuseOpen x.src Cause.protocol
    else (s.endCircuit c Cause.stale).openListed x

/-- The checks of R102 for an OPEN frame. -/
def State.openFrameAt (dst : Label) (x : OpenFields) (s : State) : State :=
  if s.link.state = .up ∧ dst = 0 ∧ x.src ≠ 0 then s.openAt x else s

/-- OPEN_FRAME_ARRIVAL (R117). -/
def execOpenFrameArrival (dst src : Label) (requested : Octet) (service : Word) (data : List Octet) (s : State) :
    Host.Outcome State Fault Refusal :=
  .next (s.arrive (.openFrame dst src requested service data)
    (State.openFrameAt dst { src, terms := { requested := requested.toNat, data }, service }))

/-! ### ACCEPT (R127, R128) -/

/-- The loose CLOSE owed to an ACCEPT refused by its value or a fixed peer label (R127). -/
def badAcceptReply (src localLabel : Label) : LooseReply :=
  { body := .close Cause.protocol 0, dst := src, src := localLabel }

/-- An ACCEPT refused (R127): the loose CLOSE, then CLOSED with cause PROTOCOL and OPEN-FAILED. -/
def State.refuseAccept (s : State) (c : CircuitNo) (src : Label) : State :=
  (s.requestLoose (badAcceptReply src (s.circuit c).localLabel)).enterClosed c Cause.protocol 0 .part false none

/-- The protocol class of a record without one kind of frame: that frame, if it is still pending, is not sent (R13,
R116, R148). -/
def CircuitRecord.withoutPending (r : CircuitRecord) (k : ProtocolKind) : Option ProtocolKind :=
  if r.protocol = some k then none else r.protocol

/-- An ACCEPT opens the record (R128): the OPENED event precedes the start decision. DEDUCED (log 32): an OPEN still
pending is emptied, since R116 sends no OPEN once the circuit has left OPENING. -/
def State.openByAccept (s : State) (c : CircuitNo) (src : Label) (agreed : Nat) : State :=
  let t := s.onCircuit c (fun r =>
    { r.enter .opened with
      peerLabel := some src, maxSegments := some agreed, openRequest := none, protocol := r.withoutPending .openK
      send := { r.send with peerReady := true } })
  (t.raise ((t.circuit c).openedEvent c)).startDecision c false

/-- An agreed value that passes: not 0 and not above the open request's (R127). -/
def CircuitRecord.agreedGood (r : CircuitRecord) (agreed : Nat) : Bool :=
  agreed != 0 && decide (agreed ≤ (r.openRequest.map OpenTerms.requested).getD 0)

/-- An ACCEPT at an OPENING record: the value check, then the peer-label check (R108, R127). -/
def State.acceptOpening (s : State) (c : CircuitNo) (src : Label) (agreed : Nat) : State :=
  if (s.circuit c).agreedGood agreed then
    match s.peerHolder src with
    | none => s.openByAccept c src agreed
    | some d =>
      if (s.circuit d).kind = some .fixed then s.refuseAccept c src
      else (s.endCircuit d Cause.stale).openByAccept c src agreed
  else s.refuseAccept c src

/-- An ACCEPT past the Line Interface (R102 to R104). DEDUCED (log 33): one that reaches an OFFERED circuit draws the
loose CLOSE of R103, as at every other circuit not OPENING. -/
def State.acceptAt (dst src : Label) (agreed : Octet) (s : State) : State :=
  if src = 0 then s
  else
    s.dispatch dst
      (fun c t =>
        if (t.circuit c).state = .opening then t.acceptOpening c src agreed.toNat
        else t.requestLoose (staleClose dst src))
      (fun t => t.requestLoose (staleClose dst src))

/-- ACCEPT_ARRIVAL (R127). -/
def execAcceptArrival (dst src : Label) (agreed : Octet) (s : State) : Host.Outcome State Fault Refusal :=
  .next (s.arrive (.accept dst src agreed) (State.acceptAt dst src agreed))

/-! ### REFUSE (R130) -/

/-- A REFUSE past the Line Interface: an OPENING record enters CLOSED, confirmed (R130). -/
def State.refuseAt (dst : Label) (cause diagnostic : Octet) (s : State) : State :=
  s.dispatch dst
    (fun c t =>
      if (t.circuit c).state = .opening then t.enterClosed c cause diagnostic .peer true none else t) id

/-- REFUSE_ARRIVAL (R130). -/
def execRefuseArrival (dst src : Label) (cause diagnostic : Octet) (s : State) : Host.Outcome State Fault Refusal :=
  .next (s.arrive (.refuse dst src cause diagnostic) (State.refuseAt dst cause diagnostic))

/-! ### CLOSE and CLOSE-DONE (R138, R139) -/

/-- A CLOSE at a CLOSED dialled circuit (R103): CLOSE-DONE in the record where it holds the frame's source label as
peer label, else loose. -/
def State.closeRepeated (s : State) (c : CircuitNo) (dst src : Label) : State :=
  if (s.circuit c).peerLabel = some src then s.setProtocol c (some .closeDone)
  else s.requestLoose (looseCloseDone dst src)

/-- A CLOSE at a dialled circuit, by its state (R103, R138, R139). -/
def State.closeDialled (s : State) (c : CircuitNo) (dst src : Label) (cause diagnostic : Octet) : State :=
  match (s.circuit c).state with
  | .opened => s.enterClosed c cause diagnostic .peer true (some .closeDone)
  | .rewinding => s.enterClosed c cause diagnostic .peer true (some .closeDone)
  | .closing => s.finishClosing c true (some .closeDone)
  | .closed => s.closeRepeated c dst src
  | .free | .opening | .offered | .dormant => s

/-- A CLOSE past the Line Interface (R102 to R104); a fixed circuit takes none (R103). -/
def State.closeAt (dst src : Label) (cause diagnostic : Octet) (s : State) : State :=
  if src = 0 then s
  else
    s.dispatch dst
      (fun c t => if (t.circuit c).kind = some .fixed then t else t.closeDialled c dst src cause diagnostic)
      (fun t => t.requestLoose (looseCloseDone dst src))

/-- CLOSE_FRAME_ARRIVAL (R138). -/
def execCloseFrameArrival (dst src : Label) (cause diagnostic : Octet) (s : State) :
    Host.Outcome State Fault Refusal :=
  .next (s.arrive (.close dst src cause diagnostic) (State.closeAt dst src cause diagnostic))

/-- A CLOSE-DONE past the Line Interface: a CLOSING record enters CLOSED, confirmed (R139). -/
def State.closeDoneAt (dst : Label) (s : State) : State :=
  s.dispatch dst (fun c t => if (t.circuit c).state = .closing then t.finishClosing c true none else t) id

/-- CLOSE_DONE_ARRIVAL (R139). -/
def execCloseDoneArrival (dst src : Label) (s : State) : Host.Outcome State Fault Refusal :=
  .next (s.arrive (.closeDone dst src) (State.closeDoneAt dst))

/-! ### REWIND and REWIND-DONE (R146 to R148) -/

/-- A REWIND at a bound circuit, by its state (R103, R146, R147). -/
def State.rewindTaken (s : State) (c : CircuitNo) (cause : Octet) : State :=
  match (s.circuit c).state with
  | .opened => s.rewindInOpen c cause
  | .rewinding => s.finishRewinding c (some .rewindDone)
  | .free | .opening | .offered | .closing | .closed | .dormant => s

/-- REWIND_FRAME_ARRIVAL (R146). -/
def execRewindFrameArrival (dst : Label) (cause : Octet) (s : State) : Host.Outcome State Fault Refusal :=
  .next (s.arrive (.rewind dst cause) (fun t => t.dispatch dst (fun c u => u.rewindTaken c cause) id))

/-- A REWIND-DONE at a bound circuit: a REWINDING record returns to OPEN, a REWIND still pending emptied (R148). -/
def State.rewindDoneTaken (s : State) (c : CircuitNo) : State :=
  if (s.circuit c).state = .rewinding then s.finishRewinding c ((s.circuit c).withoutPending .rewind)
  else s

/-- REWIND_DONE_ARRIVAL (R148). -/
def execRewindDoneArrival (dst : Label) (s : State) : Host.Outcome State Fault Refusal :=
  .next (s.arrive (.rewindDone dst) (fun t => t.dispatch dst (fun c u => u.rewindDoneTaken c) id))

end Sys2Proof.Machine
end

