-- ==== Sys2Proof/Machine/CircuitCommands.lean ====
section
/-! DEFINITION. The commands of the Circuit Controller: OPEN (R115), ANSWER (R121 to R123), CLOSE (R130, R134), REWIND
(R142), RETIRE (R21), FIX (R172), UNFIX (R173), READ-CIRCUIT (R18, R19) and SET-CIRCUIT (R20). -/

namespace Sys2Proof.Machine

/-! ### OPEN (R115) -/

/-- The record an OPEN command creates, in OPENING (R3, R24, R52, R115). -/
def openingRecord (service : Word) (limits : Limits) (terms : OpenTerms) (openTimer : Nat) : CircuitRecord :=
  { CircuitRecord.free false with
    state := .opening, kind := some .dialled, role := some .initiator, service
    roundLimit := limits.roundLimit, policy := some limits.policy, window := limits.window
    openRequest := some terms, timer := some { purpose := .openT, remaining := openTimer }
    protocol := some .openK, send := SendContext.fresh .stopped true }

/-- The checks of OPEN from the link on, and the creation (R115 checks 3 to 6). -/
def State.openCircuit (s : State) (service : Word) (limits : Limits) (requested : Nat) (data : List Octet) : State :=
  if s.link.state ≠ .up then s.reject .linkNotUp
  else if s.link.agreed.getD 0 < segmentsOf requested (s.link.agreed.getD 0) then s.reject .badParam
  else
    match s.lowestFreeCircuit, s.scanFreeLabel with
    | none, _ => s.reject .noSlot
    | some _, none => s.reject .noLabel
    | some c, some l =>
      (s.createDialled c l (openingRecord service limits
        { requested := segmentsOf requested (s.link.agreed.getD 0), data } s.link.config.openTimer)).succeed
        [c.val, l.toNat]

/-- OPEN at its taking (R115): PARAM 0 service; PARAM 1 octets 0 to 3 requested max segments, window, round limit,
policy; PARAM 2 the data length; PARAM 3 to 6 the data (R211). -/
def State.takeOpen (s : State) : State :=
  match serviceOf (s.param 0) with
  | none => s.reject .badParam
  | some service =>
    if 64 < (s.paramOctet 1 0).toNat ∨ 16 < s.param 2 then s.reject .badParam
    else
      match limitsOf (s.paramOctet 1 2).toNat (s.paramOctet 1 3).toNat (s.paramOctet 1 1).toNat false with
      | none => s.reject .badParam
      | some limits => s.openCircuit service limits (s.paramOctet 1 0).toNat (s.paramData (s.param 2))

/-- OPEN: the taking of the OPEN command (R115). -/
def execOpenCommand (s : State) : Host.Outcome State Fault Refusal := .next (s.taking .openCommand State.takeOpen)

/-! ### ANSWER (R121 to R123) -/

/-- The max segments of an accepted offer: the lowest of the offer's, the answer's and the link's (R5, R122). -/
def State.answerAgreed (s : State) (c : CircuitNo) (value : Nat) : Nat :=
  min (min (((s.circuit c).offer.map OpenTerms.requested).getD 0) (segmentsOf value 64)) (s.link.agreed.getD 0)

/-- ANSWER with accept (R122): the record opens with ACCEPT pending, and the start decision is made. -/
def State.acceptOffer (s : State) (c : CircuitNo) (limits : Limits) (agreed : Nat) : State :=
  (s.onCircuit c (fun r =>
    { r.enter .opened with
      maxSegments := some agreed, window := limits.window, roundLimit := limits.roundLimit
      policy := some limits.policy, protocol := some .accept })).startDecision c false

/-- The loose REFUSE owed by an OFFERED record: to its peer label, from its local label (R123, R124). -/
def CircuitRecord.offerRefusal (r : CircuitRecord) (cause diagnostic : Octet) : LooseReply :=
  { body := .refuse cause diagnostic, dst := r.peerLabel.getD 0, src := r.localLabel }

/-- ANSWER with refuse (R123): the loose REFUSE is requested and the record becomes FREE. -/
def State.refuseOffer (s : State) (c : CircuitNo) (diagnostic : Octet) : State :=
  (s.requestLoose ((s.circuit c).offerRefusal Cause.refused diagnostic)).endRecord c

/-- ANSWER at its taking (R121): PARAM 0 circuit, PARAM 1 decision; accept: PARAM 2 to 5 max segments, window, round
limit, policy; refuse: PARAM 2 diagnostic (R211). -/
def State.takeAnswerCommand (s : State) : State :=
  s.withCircuit (s.param 0) (fun c =>
    if (s.circuit c).state ≠ .offered then s.reject .badState
    else
      match s.param 1 with
      | 1 =>
        if 64 < s.param 2 then s.reject .badParam
        else
          match limitsOf (s.param 4) (s.param 5) (s.param 3) false with
          | none => s.reject .badParam
          | some limits =>
            (s.acceptOffer c limits (s.answerAgreed c (s.param 2))).succeed [s.answerAgreed c (s.param 2)]
      | 2 =>
        ((s.refuseOffer c (s.diagnosticOf (s.param 2))).countFree (decide (256 ≤ s.param 2))).succeed []
      | _ => s.reject .badParam)

/-- ANSWER: the taking of ANSWER (R121). -/
def execAnswer (s : State) : Host.Outcome State Fault Refusal := .next (s.taking .answer State.takeAnswerCommand)

/-! ### CLOSE (R130, R134) -/

/-- CLOSE on a record: OPENING ends with OPEN-FAILED (R130), an OPEN or REWINDING dialled circuit enters CLOSING
(R134, R135), and any other is refused. -/
def State.closeCircuit (s : State) (c : CircuitNo) (value : Nat) : State :=
  match (s.circuit c).state, (s.circuit c).kind with
  | .opening, _ =>
    ((s.enterClosed c Cause.local (s.diagnosticOf value) .local false none).countFree (decide (256 ≤ value))).succeed
      [s.discardCount c]
  | .opened, some .dialled =>
    ((s.enterClosing c Cause.local (s.diagnosticOf value) .local).countFree (decide (256 ≤ value))).succeed
      [s.discardCount c]
  | .rewinding, some .dialled =>
    ((s.enterClosing c Cause.local (s.diagnosticOf value) .local).countFree (decide (256 ≤ value))).succeed
      [s.discardCount c]
  | _, _ => s.reject .badState

/-- CLOSE at its taking (R134): PARAM 0 circuit, PARAM 1 diagnostic. -/
def State.takeClose (s : State) : State := s.withCircuit (s.param 0) (fun c => s.closeCircuit c (s.param 1))

/-- CLOSE: the taking of the CLOSE command (R134). -/
def execCloseCommand (s : State) : Host.Outcome State Fault Refusal := .next (s.taking .closeCommand State.takeClose)

/-! ### REWIND (R142) -/

/-- REWIND at its taking (R142): the result gives the send blocks in the queue after the rewind. -/
def State.takeRewind (s : State) : State :=
  s.withCircuit (s.param 0) (fun c =>
    if (s.circuit c).state = .opened then
      let t := s.enterRewinding c Cause.local .local
      t.succeed [(t.circuit c).send.queue.length]
    else s.reject .badState)

/-- REWIND: the taking of the REWIND command (R142). -/
def execRewindCommand (s : State) : Host.Outcome State Fault Refusal := .next (s.taking .rewindCommand State.takeRewind)

/-! ### RETIRE (R21) -/

/-- A CLOSED record is ended (R21): its delivered blocks are freed, its label rests and the record becomes FREE. -/
def State.retireRecord (s : State) (c : CircuitNo) : State :=
  ((s.circuit c).recv.delivered.foldl State.freeDescriptor s).endRecord c

/-- RETIRE at its taking (R21). -/
def State.takeRetire (s : State) : State :=
  s.withCircuit (s.param 0) (fun c =>
    if (s.circuit c).state = .closed then (s.retireRecord c).succeed [] else s.reject .badState)

/-- RETIRE: the taking of RETIRE (R21). -/
def execRetire (s : State) : Host.Outcome State Fault Refusal := .next (s.taking .retire State.takeRetire)

/-! ### FIX and UNFIX (R172, R173) -/

/-- The record a FIX command creates, in DORMANT (R3, R24, R52, R172). -/
def fixedRecord (localLabel peer : Label) (service : Word) (limits : Limits) (maximum : Nat) (stale : Bool) :
    CircuitRecord :=
  { CircuitRecord.free stale with
    state := .dormant, kind := some .fixed, localLabel, peerLabel := some peer, service
    maxSegments := some maximum, fixedMaximum := some maximum
    roundLimit := limits.roundLimit, policy := some limits.policy, window := limits.window }

/-- A label from 1 to 255 named by a command (R100, R172). -/
def labelOf (value : Nat) : Option Label := if value = 0 ∨ 255 < value then none else some (BitVec.ofNat 8 value)

/-- Another fixed record in DORMANT holds a peer label (R108). -/
def State.dormantHolder (s : State) (peer : Label) : Bool :=
  s.circuits.toList.any (fun r =>
    decide (r.kind = some .fixed) && decide (r.state = .dormant) && decide (r.peerLabel = some peer))

/-- The label a FIX binds: from 1 to 255 and FREE (R100). -/
def State.fixLabel (s : State) (value : Nat) : Option Label :=
  (labelOf value).bind (fun l => if s.label l = .free then some l else none)

/-- The checks of FIX from the link on, and the creation (R172 checks 3 to 6). -/
def State.fixCircuit (s : State) (peer : Label) (service : Word) (maximum : Nat) (limits : Limits) : State :=
  if s.link.state ≠ .down then s.reject .badState
  else
    match s.fixLabel (s.param 0) with
    | none => s.reject .badParam
    | some l =>
      if s.dormantHolder peer then s.reject .badParam
      else
        match s.lowestFreeCircuit with
        | none => s.reject .noSlot
        | some c =>
          ((s.setLabel l (.bound c true)).setCircuit c
            (fixedRecord l peer service limits maximum (s.circuit c).stale)).succeed [c.val]

/-- FIX at its taking (R172): PARAM 0 to 6 local label, peer label, service, max segments, window, round limit,
policy. -/
def State.takeFix (s : State) : State :=
  match labelOf (s.param 1), serviceOf (s.param 2) with
  | some peer, some service =>
    if 64 < s.param 3 then s.reject .badParam
    else
      match limitsOf (s.param 5) (s.param 6) (s.param 4) true with
      | none => s.reject .badParam
      | some limits => s.fixCircuit peer service (segmentsOf (s.param 3) 64) limits
  | _, _ => s.reject .badParam

/-- FIX: the taking of FIX (R172). -/
def execFix (s : State) : Host.Outcome State Fault Refusal := .next (s.taking .fix State.takeFix)

/-- UNFIX at its taking (R173): a DORMANT record enters CLOSED with no event. -/
def State.takeUnfix (s : State) : State :=
  s.withCircuit (s.param 0) (fun c =>
    if (s.circuit c).state = .dormant then
      (s.toClosed c Cause.local 0 .local false none).succeed [s.discardCount c]
    else s.reject .badState)

/-- UNFIX: the taking of UNFIX (R173). -/
def execUnfix (s : State) : Host.Outcome State Fault Refusal := .next (s.taking .unfix State.takeUnfix)

/-! ### READ-CIRCUIT (R18, R19) -/

/-- Octets packed into result registers, four each, the first octet in octet 0 (R211). -/
def packOctets (octets : List Octet) : List Nat :=
  (List.range 4).map (fun k =>
    ((List.range 4).map (fun j => (octets.getD (4 * k + j) 0).toNat * 2 ^ (8 * j))).sum)

/-- The open request or the offer, whichever is present (R19). -/
def CircuitRecord.terms (r : CircuitRecord) : Option OpenTerms := r.openRequest.or r.offer

/-- View 0, overview (R19, R211). -/
def CircuitRecord.overview (r : CircuitRecord) : List Nat :=
  [r.state.code, codeOf CircuitKind.code r.kind, codeOf Role.code r.role, r.localLabel.toNat,
   codeOf BitVec.toNat r.peerLabel, r.service.toNat, flagCode r.stale,
   2 ^ 24 * codeOf (TimerPurpose.code ∘ CircuitTimer.purpose) r.timer + codeOf CircuitTimer.remaining r.timer]

/-- View 1, parameters (R19). -/
def CircuitRecord.parameters (r : CircuitRecord) : List Nat :=
  [codeOf id r.maxSegments, codeOf id r.fixedMaximum, r.roundLimit, codeOf Policy.code r.policy, r.window,
   r.retryCount, codeOf OpenTerms.requested r.terms, codeOf (List.length ∘ OpenTerms.data) r.terms]

/-- View 2, send context: four values read as zero when there is no active block (R19). -/
def SendContext.view (x : SendContext) : List Nat :=
  [x.sender.code, x.queue.length, codeOf (BitVec.toNat ∘ ActiveBlock.number) x.active,
   codeOf ActiveBlock.count x.active, codeOf ActiveBlock.round x.active,
   codeOf (fun _ => x.pollCount) x.active, x.nextNumber.toNat, flagCode x.peerReady]

/-- View 3, receive context (R19). -/
def State.receiveView (s : State) (c : CircuitNo) : List Nat :=
  let r := s.circuit c
  [r.recv.expected.toNat, r.recv.lastOutcome.code, flagCode r.recv.assembly.isSome, (s.assemblySlots c).length,
   codeOf id r.recv.announced, r.deliveredCount, flagCode r.recv.heldReported, flagCode r.readyFlag]

/-- View 4, close record (R19). -/
def CircuitRecord.closeView (r : CircuitRecord) : List Nat :=
  [flagCode r.closeRecord.isSome, codeOf (BitVec.toNat ∘ CloseRecord.cause) r.closeRecord,
   codeOf (BitVec.toNat ∘ CloseRecord.diagnostic) r.closeRecord,
   codeOf (Originator.code ∘ CloseRecord.originator) r.closeRecord, codeOf CloseRecord.discarded r.closeRecord,
   codeOf (flagCode ∘ CloseRecord.confirmed) r.closeRecord]

/-- View 5, opening data (R19, R211). -/
def CircuitRecord.dataView (r : CircuitRecord) : List Nat :=
  codeOf (List.length ∘ OpenTerms.data) r.terms :: packOctets ((r.terms.map OpenTerms.data).getD [])

/-- The values of a view; every value of a FREE record but its stale flag reads as zero (R18, R19). -/
def State.circuitView (s : State) (c : CircuitNo) (view : Nat) : List Nat :=
  if (s.circuit c).state = .free then
    (if view = 0 then [0, 0, 0, 0, 0, 0, flagCode (s.circuit c).stale, 0] else [])
  else
    match view with
    | 0 => (s.circuit c).overview
    | 1 => (s.circuit c).parameters
    | 2 => (s.circuit c).send.view
    | 3 => s.receiveView c
    | 4 => (s.circuit c).closeView
    | _ => (s.circuit c).dataView

/-- READ-CIRCUIT at its taking (R18): PARAM 0 circuit, PARAM 1 view. View 0 reports the stale flag and clears it. -/
def State.takeReadCircuit (s : State) : State :=
  if h : s.param 0 < 64 then
    (if 5 < s.param 1 then s.reject .badParam
     else if s.param 1 = 0 then (s.clearStale ⟨s.param 0, h⟩).succeed (s.circuitView ⟨s.param 0, h⟩ 0)
     else s.succeed (s.circuitView ⟨s.param 0, h⟩ (s.param 1)))
  else s.reject .badCircuit

/-- READ_CIRCUIT: the taking of READ-CIRCUIT (R18). -/
def execReadCircuit (s : State) : Host.Outcome State Fault Refusal :=
  .next (s.taking .readCircuit State.takeReadCircuit)

/-! ### SET-CIRCUIT (R20) -/

/-- The three fields replaced, and READY made pending where the new window has room and the peer was told it had none
(R20). -/
def CircuitRecord.setLimits (r : CircuitRecord) (limits : Limits) : CircuitRecord :=
  { r with roundLimit := limits.roundLimit, policy := some limits.policy, window := limits.window }.offerReady

/-- SET-CIRCUIT at its taking (R20): PARAM 0 to 3 circuit, round limit, policy, window. -/
def State.takeSetCircuit (s : State) : State :=
  s.withCircuit (s.param 0) (fun c =>
    match limitsOf (s.param 1) (s.param 2) (s.param 3) (decide ((s.circuit c).kind = some .fixed)) with
    | none => s.reject .badParam
    | some limits =>
      if limits.window < (s.circuit c).receivedBlocks then s.reject .badState
      else (s.onCircuit c (fun r => r.setLimits limits)).succeed [])

/-- SET_CIRCUIT: the taking of SET-CIRCUIT (R20). -/
def execSetCircuit (s : State) : Host.Outcome State Fault Refusal := .next (s.taking .setCircuit State.takeSetCircuit)

end Sys2Proof.Machine
end

