-- ==== Sys2Proof/Machine/Sending.lean ====
section
/-! DEFINITION. The Send Engine's reactions: status answers (R36 to R43), READY (R46), poll exhaustion (R35), and the
transmission ends reported to it (R32, R33, R42, R45). -/

namespace Sys2Proof.Machine

/-- BLOCK-SENT for a block (R47). -/
def ActiveBlock.sentEvent (a : ActiveBlock) (c : CircuitNo) (tag : Option Word) : Event :=
  { kind := .blockSent, circuit := some c, tag, block := some a.number, count := some a.round }

/-- BLOCK-FAILED with cause ROUNDS for a block (R47). -/
def ActiveBlock.failedEvent (a : ActiveBlock) (c : CircuitNo) (tag : Option Word) : Event :=
  { kind := .blockFailed, circuit := some c, cause := some Cause.rounds, tag, block := some a.number
    count := some a.round }

/-- Poll exhaustion (R35): a dialled circuit is closed and a fixed circuit rewound, cause NO-RESPONSE. -/
def State.pollExhausted (s : State) (c : CircuitNo) : State :=
  if (s.circuit c).kind = some .fixed then s.enterRewinding c Cause.noResponse .part
  else s.enterClosing c Cause.noResponse 0 .part

/-- Advancing (R37): the block's descriptor is freed, last sent is set, the next number is incremented, peer-ready
takes the status's flag, and the start decision follows. -/
def State.advance (s : State) (c : CircuitNo) (a : ActiveBlock) (ready : Bool) : State :=
  ((s.freeDescriptor a.desc).onSend c (fun x =>
    { x with
      sender := .idle, active := none, lastSent := some (a.number, a.count), nextNumber := x.nextNumber + 1
      peerReady := ready, pollCount := 0 })).startDecision c true

/-- The block is delivered: BLOCK-SENT is raised and the block advances (R39, R43). -/
def State.blockDelivered (s : State) (c : CircuitNo) (a : ActiveBlock) (ready : Bool) : State :=
  (s.raise (a.sentEvent c (s.descriptor a.desc).tag)).advance c a ready

/-- The block is failed: BLOCK-FAILED with cause ROUNDS is raised (R41, R43). -/
def State.raiseFailed (s : State) (c : CircuitNo) (a : ActiveBlock) : State :=
  s.raise (a.failedEvent c (s.descriptor a.desc).tag)

/-- The active block is failed and freed without an advance, under give-up REWIND or CLOSE (R41). -/
def State.failActive (s : State) (c : CircuitNo) (a : ActiveBlock) : State :=
  ((s.raiseFailed c a).freeDescriptor a.desc).onSend c (fun x => { x with active := none })

/-- The abandon exchange begins (R42). -/
def State.beginAbandon (s : State) (c : CircuitNo) : State :=
  (s.onSend c (fun x => { x with sender := .abandoning, pollCount := 1 })).setTransfer c (some .blockAbandon)

/-- The give-up policy is applied to a block whose rounds are used up (R41). -/
def State.giveUp (s : State) (c : CircuitNo) (a : ActiveBlock) : State :=
  match (s.circuit c).policy with
  | some .rewind => (s.failActive c a).enterRewinding c Cause.rounds .part
  | some .close => (s.failActive c a).enterClosing c Cause.rounds 0 .part
  | some .abandon => s.beginAbandon c
  | none => s.beginAbandon c

/-- The check of a MISSING status (R38): the map names an index, only indices below the segment count, and none
already acknowledged. -/
def ActiveBlock.mapGood (a : ActiveBlock) (map : SegSet) : Bool :=
  map != 0 && map &&& ~~~(firstSegments a.count) == 0 && map &&& a.acked == 0

/-- A new round (R38): the named segments are sent again. -/
def State.newRound (s : State) (c : CircuitNo) (a : ActiveBlock) (map : SegSet) : State :=
  s.onSend c (fun x =>
    { x with
      sender := .sending, pollCount := 0
      active := some { a with
        acked := firstSegments a.count &&& ~~~map, toSend := map, round := a.round + 1 } })

/-- A MISSING status taken in POLLING (R38). -/
def State.missingAnswer (s : State) (c : CircuitNo) (a : ActiveBlock) (map : SegSet) : State :=
  if a.mapGood map then
    (if a.round < (s.circuit c).roundLimit then s.newRound c a map else s.giveUp c a)
  else s.protocolError c

/-- A status taken as an answer first stops the STATUS timer and empties the transfer class (R36). -/
def State.takeAnswer (s : State) (c : CircuitNo) : State := (s.stopTimer c).setTransfer c none

/-- A status taken in POLLING for the active block (R38, R39, R40). -/
def State.pollAnswer (s : State) (c : CircuitNo) (a : ActiveBlock) (outcome : StatusOutcome) (ready : Bool) : State :=
  match outcome with
  | .missing map => (s.takeAnswer c).missingAnswer c a map
  | .complete => (s.takeAnswer c).blockDelivered c a ready
  | .abandoned => (s.takeAnswer c).protocolError c

/-- A status in ABANDONING for the active block (R36, R43). -/
def State.abandonAnswer (s : State) (c : CircuitNo) (a : ActiveBlock) (outcome : StatusOutcome) (ready : Bool) :
    State :=
  match outcome with
  | .missing _ => s
  | .complete => (s.takeAnswer c).blockDelivered c a ready
  | .abandoned => ((s.takeAnswer c).raiseFailed c a).advance c a ready

/-- A PROBE of this circuit is pending or in transmission (R46); a detached one is not this circuit's (log 29). -/
def State.probeOut (s : State) (c : CircuitNo) : Bool :=
  decide ((s.circuit c).transfer = some .probe) ||
    s.tx.any (fun t =>
      decide (t.owner = .circuit c) && !t.detached &&
        (match t.frame with
          | .probe _ => true
          | _ => false))

/-- A readiness report in HELD (R46): true starts the head block; false keeps HELD, and the PROBE timer starts again
unless a PROBE is pending or in transmission. -/
def State.readyInHeld (s : State) (c : CircuitNo) (ready : Bool) : State :=
  let t := s.onSend c (fun x => { x with pollCount := 0, peerReady := ready })
  if ready then ((t.stopTimer c).setTransfer c none).startDecision c false
  else if s.probeOut c then t.stopTimer c
  else t.startTimer c .probe s.link.config.probeInterval

/-- A READY frame at an OPEN circuit, by sender state (R46). -/
def State.readyAt (ready : Bool) (c : CircuitNo) (s : State) : State :=
  match (s.circuit c).send.sender with
  | .held => s.readyInHeld c ready
  | .idle => s.onSend c (fun x => { x with peerReady := ready })
  | .sending | .polling | .abandoning | .stopped => s

/-- A BLOCK-STATUS frame at an OPEN circuit, matched against the sender state and the block number (R36). -/
def State.statusAt (number : BlockNumber) (outcome : StatusOutcome) (ready : Bool) (c : CircuitNo) (s : State) :
    State :=
  match (s.circuit c).send.sender, (s.circuit c).send.active with
  | .polling, some a => if a.number = number then s.pollAnswer c a outcome ready else s
  | .abandoning, some a => if a.number = number then s.abandonAnswer c a outcome ready else s
  | .held, _ =>
    match outcome with
    | .missing _ => s
    | .complete | .abandoned =>
      if (s.circuit c).send.lastSent.map Prod.fst = some number then s.readyInHeld c ready else s
  | _, _ => s

/-! ### Transmission ends (R32, R33, R42, R45) -/

/-- The end of a SEG (R32): the index leaves the to-send set, and when none is left BLOCK-END is pending with poll
count 1. -/
def State.segSent (s : State) (c : CircuitNo) (number : BlockNumber) (i : Nat) : State :=
  match (s.circuit c).send.sender, (s.circuit c).send.active with
  | .sending, some a =>
    if a.number = number ∧ a.toSend.getLsbD i then
      let left := withoutSegment a.toSend i
      let t := s.onSend c (fun x => { x with active := some { a with toSend := left } })
      if left = 0 then (t.onSend c (fun x => { x with pollCount := 1 })).setTransfer c (some .blockEnd) else t
    else s
  | _, _ => s

/-- The end of a BLOCK-END (R33): the sender is POLLING and the STATUS timer starts. -/
def State.blockEndSent (s : State) (c : CircuitNo) (number : BlockNumber) : State :=
  match (s.circuit c).send.active with
  | some a =>
    if a.number = number ∧ (((s.circuit c).send.sender = .sending ∧ a.toSend = 0) ∨
        (s.circuit c).send.sender = .polling) then
      (s.onSend c (fun x => { x with sender := .polling })).startTimer c .status s.link.config.statusTimer
    else s
  | none => s

/-- The end of a BLOCK-ABANDON (R42): in ABANDONING the STATUS timer starts. -/
def State.blockAbandonSent (s : State) (c : CircuitNo) (number : BlockNumber) : State :=
  match (s.circuit c).send.sender, (s.circuit c).send.active with
  | .abandoning, some a => if a.number = number then s.startTimer c .status s.link.config.statusTimer else s
  | _, _ => s

/-- The end of a PROBE (R45): in HELD the PROBE timer starts. DEDUCED (log 31): it starts at the end of an older PROBE
too, sent before a rewind that has made a new PROBE pending. -/
def State.probeSent (s : State) (c : CircuitNo) : State :=
  if (s.circuit c).send.sender = .held then s.startTimer c .probe s.link.config.probeInterval else s

end Sys2Proof.Machine
end

