-- ==== Sys2Proof/Machine/Expiries.lean ====
section
/-! DEFINITION. The expiry of the six circuit timer purposes (R14), of the two link timer purposes (R158) and of a rest
time (R97). -/

namespace Sys2Proof.Machine

/-- A circuit timer running with a purpose. -/
def CircuitRecord.runs (r : CircuitRecord) (purpose : TimerPurpose) : Bool :=
  r.timer.any (fun t => decide (t.purpose = purpose))

/-- The expiry of a circuit timer (R14): the timer becomes empty and its owner acts. A timer that does not run with
the purpose does not expire (R14, R15, log 2). -/
def State.expire (s : State) (c : CircuitNo) (purpose : TimerPurpose) (owner : State → State) : State :=
  if (s.circuit c).runs purpose then owner (s.stopTimer c) else s

/-! ### OPEN and OFFER (R124, R129) -/

/-- The OPEN expiry of an OPENING record (R129). -/
def State.openExpired (c : CircuitNo) (s : State) : State :=
  if (s.circuit c).state = .opening then s.enterClosed c Cause.timeout 0 .part false none else s

/-- OPEN_TIMER_EXPIRY (R129). -/
def execOpenTimerExpiry (circuit : CircuitNo) (s : State) : Host.Outcome State Fault Refusal :=
  .next (s.expire circuit .openT (State.openExpired circuit))

/-- The OPEN-FAILED event of an offer expiry (R124, R132). -/
def CircuitRecord.offerExpiredEvent (r : CircuitRecord) (c : CircuitNo) : Event :=
  { kind := .openFailed, circuit := some c, cause := some Cause.noAnswer, originator := some .part
    tag := some r.service, count := some 0 }

/-- The OFFER expiry of an OFFERED record (R124): the loose REFUSE, the event, then the record becomes FREE. -/
def State.offerExpired (c : CircuitNo) (s : State) : State :=
  if (s.circuit c).state = .offered then
    ((s.requestLoose ((s.circuit c).offerRefusal Cause.noAnswer 0)).raise
      ((s.circuit c).offerExpiredEvent c)).endRecord c
  else s

/-- OFFER_TIMER_EXPIRY (R124). -/
def execOfferTimerExpiry (circuit : CircuitNo) (s : State) : Host.Outcome State Fault Refusal :=
  .next (s.expire circuit .offer (State.offerExpired circuit))

/-! ### STATUS and PROBE (R34, R45) -/

/-- A poll frame made pending again with the poll count incremented, or poll exhaustion (R34, R35, R45). -/
def State.pollAgain (s : State) (c : CircuitNo) (k : TransferKind) : State :=
  if (s.circuit c).send.pollCount < s.link.config.pollLimit then
    (s.onSend c (fun x => { x with pollCount := x.pollCount + 1 })).setTransfer c (some k)
  else s.pollExhausted c

/-- The STATUS expiry of an OPEN circuit, POLLING or ABANDONING (R34). -/
def State.statusExpired (c : CircuitNo) (s : State) : State :=
  match (s.circuit c).state, (s.circuit c).send.sender with
  | .opened, .polling => s.pollAgain c .blockEnd
  | .opened, .abandoning => s.pollAgain c .blockAbandon
  | _, _ => s

/-- STATUS_TIMER_EXPIRY (R34). -/
def execStatusTimerExpiry (circuit : CircuitNo) (s : State) : Host.Outcome State Fault Refusal :=
  .next (s.expire circuit .status (State.statusExpired circuit))

/-- The PROBE expiry of an OPEN circuit in HELD (R45). -/
def State.probeExpired (c : CircuitNo) (s : State) : State :=
  match (s.circuit c).state, (s.circuit c).send.sender with
  | .opened, .held => s.pollAgain c .probe
  | _, _ => s

/-- PROBE_TIMER_EXPIRY (R45). -/
def execProbeTimerExpiry (circuit : CircuitNo) (s : State) : Host.Outcome State Fault Refusal :=
  .next (s.expire circuit .probe (State.probeExpired circuit))

/-! ### CLOSE and REWIND (R137, R145) -/

/-- CLOSE or REWIND sent again: made pending, the retry count incremented up to 255, the timer started again (R16). -/
def State.retry (s : State) (c : CircuitNo) (k : ProtocolKind) (purpose : TimerPurpose) (ms : Nat) : State :=
  ((s.setProtocol c (some k)).onCircuit c (fun r => { r with retryCount := min (r.retryCount + 1) 255 })).startTimer c
    purpose ms

/-- The CLOSE expiry of a CLOSING record (R137). -/
def State.closeExpired (c : CircuitNo) (s : State) : State :=
  if (s.circuit c).state = .closing then
    (if (s.circuit c).retryCount < s.link.config.closeRetries then s.retry c .close .close s.link.config.closeTimer
     else s.finishClosing c false none)
  else s

/-- CLOSE_TIMER_EXPIRY (R137). -/
def execCloseTimerExpiry (circuit : CircuitNo) (s : State) : Host.Outcome State Fault Refusal :=
  .next (s.expire circuit .close (State.closeExpired circuit))

/-- The REWIND expiry of a REWINDING record (R145): a fixed record sends again whatever the count, a dialled one until
its retries are used up, when it enters CLOSING. -/
def State.rewindExpired (c : CircuitNo) (s : State) : State :=
  if (s.circuit c).state = .rewinding then
    (if (s.circuit c).kind = some .fixed ∨ (s.circuit c).retryCount < s.link.config.rewindRetries then
      s.retry c .rewind .rewind s.link.config.rewindTimer
     else s.enterClosing c Cause.noResponse 0 .part)
  else s

/-- REWIND_TIMER_EXPIRY (R145). -/
def execRewindTimerExpiry (circuit : CircuitNo) (s : State) : Host.Outcome State Fault Refusal :=
  .next (s.expire circuit .rewind (State.rewindExpired circuit))

/-! ### The link timer (R158) -/

/-- The expiry of the link timer: it becomes empty and acts on the link (R158, log 2). -/
def State.expireLink (s : State) (purpose : LinkPurpose) (owner : State → State) : State :=
  if s.link.timer.any (fun t => decide (t.purpose = purpose)) then owner (s.onLink (fun l => { l with timer := none }))
  else s

/-- The START expiry in STARTING (R158): LINK-START pending and the timer started again. -/
def State.startExpired (s : State) : State :=
  if s.link.state = .starting then
    (s.setPendingLink (some .linkStart)).onLink (fun l => l.startTimer .start l.config.startInterval)
  else s

/-- START_TIMER_EXPIRY (R158). -/
def execStartTimerExpiry (s : State) : Host.Outcome State Fault Refusal := .next (s.expireLink .start State.startExpired)

/-- The STOP expiry in STOPPING (R158, R169). -/
def State.stopExpired (s : State) : State := if s.link.state = .stopping then s.enterDown else s

/-- STOP_TIMER_EXPIRY (R158). -/
def execStopTimerExpiry (s : State) : Host.Outcome State Fault Refusal := .next (s.expireLink .stop State.stopExpired)

/-! ### Rest times (R97) -/

/-- The expiry of a rest time: a RESTING label becomes FREE (R97); any other entry has none to expire (log 2). -/
def State.restExpired (s : State) (l : Label) : State :=
  match s.label l with
  | .resting _ => s.setLabel l .free
  | .free => s
  | .bound _ _ => s

/-- REST_TIME_EXPIRY (R97). -/
def execRestTimeExpiry (label : Label) (s : State) : Host.Outcome State Fault Refusal := .next (s.restExpired label)

end Sys2Proof.Machine
end

