-- ==== Sys2Proof/Machine/Registers.lean ====
section
/-! DEFINITION. The register window (R194, R205, R211, R212): what a host read of each offset gives, and what a host
write to each does. Offsets are octet offsets; the host addresses words. -/

namespace Sys2Proof.Machine

/-- The octet offset of a word address in a window. -/
def offsetOf (address : WordAddress) : Nat := 2 * address.toNat

/-- The low or high word of a 32-bit register (R194). -/
def halfOf (r : Reg) (high : Bool) : Word := r.extractLsb' (if high then 16 else 0) 16

/-- A 32-bit register with one word written; the other is kept (R194). -/
def withHalf (r : Reg) (high : Bool) (w : Word) : Reg :=
  if high then w ++ r.extractLsb' 0 16 else r.extractLsb' 16 16 ++ w

/-- The port state's code in PORT STATUS (12.4). -/
def PortState.code : PortState → Nat
  | .idle => 0
  | .busy => 1
  | .done => 2

/-- PORT STATUS: bits 1 to 0 port state, bit 2 collide flag, bits 15 to 8 result code (12.4). -/
def State.portStatus (s : State) : Word :=
  BitVec.ofNat 16 (s.port.state.code + 4 * flagCode s.port.collide + 256 * s.port.result.code)

/-- The words of EVENT HEAD for an entry (R212); fields its kind does not carry read as zero (R205). -/
def Event.word (e : Event) (i : Nat) : Word :=
  match i with
  | 0 => BitVec.ofNat 16 (e.kind.code + 256 * codeOf Fin.val e.circuit)
  | 1 => BitVec.ofNat 16 (codeOf BitVec.toNat e.cause + 256 * codeOf Originator.code e.originator)
  | 2 => BitVec.ofNat 16 (codeOf BitVec.toNat e.tag)
  | 3 => BitVec.ofNat 16 (codeOf BitVec.toNat e.block)
  | 4 => BitVec.ofNat 16 (codeOf id e.count)
  | 5 => BitVec.ofNat 16 (codeOf id e.page)
  | _ => 0

/-- EVENT HEAD word i: the entry at the head of the queue, or zero when it is empty (R205, R212). -/
def State.eventHead (s : State) (i : Nat) : Word :=
  match s.events with
  | [] => 0
  | e :: _ => e.word i

/-- A host read of the register window (R194, R205, R211). It changes nothing; an offset not in the table reads zero.
A read of EVENT POP returns zero (R205). -/
def State.readRegister (s : State) (address : WordAddress) : Word :=
  let offset := offsetOf address
  if offset = 0x000 then s.port.command
  else if offset = 0x002 then s.portStatus
  else if offset = 0x004 then BitVec.ofNat 16 (flagCode s.intEnable)
  else if 0x010 ≤ offset ∧ offset ≤ 0x02E then
    halfOf (s.port.params.toList.getD ((offset - 0x010) / 4) 0) ((offset - 0x010) % 4 == 2)
  else if 0x030 ≤ offset ∧ offset ≤ 0x04E then
    halfOf (s.port.results.toList.getD ((offset - 0x030) / 4) 0) ((offset - 0x030) % 4 == 2)
  else if offset = 0x060 then BitVec.ofNat 16 s.events.length
  else if 0x070 ≤ offset ∧ offset ≤ 0x07E then s.eventHead ((offset - 0x070) / 2)
  else 0

/-- A write to COMMAND: BUSY ignores it and sets the collide flag (R197); IDLE or DONE starts a command, which clears
the collide flag, the result code and the RESULT registers (R195). -/
def State.writeCommand (s : State) (value : Word) : State :=
  match s.port.state with
  | .busy => s.collideWrite
  | .idle | .done =>
    { s with port := { s.port with
        state := .busy, command := value, collide := false, result := .ok, results := Vector.replicate 8 0 } }

/-- A write to one word of a PARAM register: BUSY ignores it and sets the collide flag (R197); otherwise that word is
written and the port keeps its state (R194). -/
def State.writeParam (s : State) (i : Fin 8) (high : Bool) (value : Word) : State :=
  match s.port.state with
  | .busy => s.collideWrite
  | .idle | .done =>
    { s with port := { s.port with params := s.port.params.set i.val (withHalf s.port.params[i.val] high value) } }

/-- A write to PORT CONTROL: bit 0 is the interrupt enable, in every port state (R194, R207). -/
def State.writeControl (s : State) (value : Word) : State := { s with intEnable := value.getLsbD 0 }

/-- A write to EVENT POP removes the head entry; it is ignored when the queue is empty (R205). -/
def State.popEvent (s : State) : State := { s with events := s.events.tail }

/-- A host write to the register window (R194, R205, R211). RESULT, PORT STATUS, EVENT HEAD, EVENT COUNT and offsets
not in the table ignore it. -/
def State.writeRegister (s : State) (address : WordAddress) (value : Word) : State :=
  let offset := offsetOf address
  if offset = 0x000 then s.writeCommand value
  else if offset = 0x004 then s.writeControl value
  else if h : 0x010 ≤ offset ∧ offset ≤ 0x02E then
    s.writeParam ⟨(offset - 0x010) / 4, by omega⟩ ((offset - 0x010) % 4 == 2) value
  else if offset = 0x062 then s.popEvent
  else s

end Sys2Proof.Machine
end

