-- ==== Sys2Proof/Machine/HostAccess.lean ====
section
/-! DEFINITION. The host's accesses: writes to the register window (R194, R205, R207) and accesses to the packet memory
window (R90, R91). -/

namespace Sys2Proof.Machine

/-- REGISTER_WRITE: a host write to the register window (R194, R211). -/
def execRegisterWrite (address : WordAddress) (value : Word) (s : State) : Host.Outcome State Fault Refusal :=
  .next (s.writeRegister address value)

/-- PORT_CONTROL_WRITE: a host write to PORT CONTROL (R207). -/
def execPortControlWrite (value : Word) (s : State) : Host.Outcome State Fault Refusal := .next (s.writeControl value)

/-- EVENT_POP: a host write to EVENT POP (R205). -/
def execEventPop (s : State) : Host.Outcome State Fault Refusal := .next s.popEvent

/-- The page of a word address of the packet memory window (R78). -/
def pageOf (address : WordAddress) : Nat := offsetOf address / Config.pageSize

/-- The word at a word address: its lower-addressed octet is on D0 to D7 (12.1). -/
def State.memoryWord (s : State) (address : WordAddress) : Word :=
  s.memory.read (offsetOf address + 1) ++ s.memory.read (offsetOf address)

/-- A host read of the packet memory window (R90): the word, or zero where the page is not the host's; a refused read
is reported (R91), but not in the start-up period (R90). -/
def State.readPacket (s : State) (address : WordAddress) : State :=
  if s.startUp then { s with dataBus := 0 }
  else if s.hostOwns (pageOf address) then { s with dataBus := s.memoryWord address }
  else { s with dataBus := 0 }.reportRefusal (pageOf address)

/-- PACKET_MEMORY_READ: a host read of the packet memory window (R90). -/
def execPacketMemoryRead (address : WordAddress) (s : State) : Host.Outcome State Fault Refusal :=
  .next (s.readPacket address)

/-- A word stored at a word address (12.1). -/
def State.storeWord (s : State) (address : WordAddress) (value : Word) : State :=
  { s with
    memory := Memory.writeAll s.memory (offsetOf address) [value.extractLsb' 0 8, value.extractLsb' 8 8] }

/-- A host write to the packet memory window (R90): stored, or ignored where the page is not the host's; a refused
write is reported (R91), but not in the start-up period (R90). -/
def State.writePacket (s : State) (address : WordAddress) (value : Word) : State :=
  if s.startUp then s
  else if s.hostOwns (pageOf address) then s.storeWord address value
  else s.reportRefusal (pageOf address)

/-- PACKET_MEMORY_WRITE: a host write to the packet memory window (R90). -/
def execPacketMemoryWrite (address : WordAddress) (value : Word) (s : State) : Host.Outcome State Fault Refusal :=
  .next (s.writePacket address value)

end Sys2Proof.Machine
end

