-- ==== Sys2Proof/Machine/LinkArrivals.lean ====
section
/-! DEFINITION. The arrivals the Link Supervisor takes: LINK-START (R163, R164, R166), LINK-AGREE (R165) and LINK-STOP
(R168). -/

namespace Sys2Proof.Machine

/-- A max segments value of a link frame in range, 1 to 64 (R163, R165). -/
def segmentsGood (value : Octet) : Bool := decide (1 ≤ value.toNat) && decide (value.toNat ≤ 64)

/-- A LINK-START with this station's own identity (R163 check 2): LOOPED once in each STARTING period. -/
def State.loopSeen (s : State) (identity : Word) : State :=
  if s.link.state = .starting ∧ s.link.looped = false then
    (s.onLink (fun l => { l with looped := true })).raise { kind := .looped, tag := some identity }
  else s

/-- A LINK-START that passed R163: in STARTING the link reaches UP (R164); in UP a repeat draws LINK-AGREE again and
any other is a peer restart (R166). -/
def State.startTaken (s : State) (maxSegments : Octet) (identity startNumber : Word) : State :=
  match s.link.state with
  | .starting => (s.setPendingLink (some .linkAgree)).reachUp maxSegments.toNat identity startNumber
  | .up =>
    if s.link.peerIdentity = some identity ∧ s.link.peerStart = some startNumber then
      s.setPendingLink (some .linkAgree)
    else s.peerRestart maxSegments.toNat identity startNumber
  | .down => s
  | .stopping => s

/-- A LINK-START at the Link Supervisor: the checks of R163 in order. -/
def State.linkStartAt (version maxSegments : Octet) (identity startNumber : Word) (s : State) : State :=
  if s.link.state = .down ∨ s.link.state = .stopping then s
  else if identity = s.link.config.identity then s.loopSeen identity
  else if version ≠ 1 then s.setPendingLink (some (.linkStop Cause.version))
  else if segmentsGood maxSegments then s.startTaken maxSegments identity startNumber
  else s

/-- LINK_START_ARRIVAL (R163). -/
def execLinkStartArrival (version maxSegments : Octet) (identity startNumber : Word) (s : State) :
    Host.Outcome State Fault Refusal :=
  .next (s.arrive (.linkStart version maxSegments identity startNumber)
    (State.linkStartAt version maxSegments identity startNumber))

/-- A LINK-AGREE at the Link Supervisor (R165). -/
def State.linkAgreeAt (maxSegments : Octet) (identity startNumber : Word) (s : State) : State :=
  if s.link.state = .starting ∧ segmentsGood maxSegments = true then
    (s.setPendingLink none).reachUp maxSegments.toNat identity startNumber
  else s

/-- LINK_AGREE_ARRIVAL (R165). -/
def execLinkAgreeArrival (maxSegments : Octet) (identity startNumber : Word) (s : State) :
    Host.Outcome State Fault Refusal :=
  .next (s.arrive (.linkAgree maxSegments identity startNumber) (State.linkAgreeAt maxSegments identity startNumber))

/-- The last stop cause set by a LINK-STOP (R168). -/
def State.noteStop (s : State) (cause : Octet) : State := s.onLink (fun l => { l with lastStopCause := cause })

/-- A LINK-STOP at the Link Supervisor (R168). -/
def State.linkStopAt (cause : Octet) (s : State) : State :=
  match s.link.state with
  | .down => s
  | .starting => s.noteStop cause
  | .up => ((s.noteStop cause).leaveUp Cause.linkStop .stopping).enterStopping .answering Cause.none
  | .stopping => (s.noteStop cause).enterDown

/-- LINK_STOP_ARRIVAL (R168). -/
def execLinkStopArrival (cause : Octet) (s : State) : Host.Outcome State Fault Refusal :=
  .next (s.arrive (.linkStop cause) (State.linkStopAt cause))

end Sys2Proof.Machine
end

