-- ==== Sys2Proof/Machine/LinkCommands.lean ====
section
/-! DEFINITION. The commands of the Link Supervisor: SET-LINK (R155), READ-LINK (R174), START-LINK (R162) and STOP-LINK
(R167). -/

namespace Sys2Proof.Machine

/-! ### SET-LINK (R155) -/

/-- A value inside its range (R155). -/
def within (v lo hi : Nat) : Bool := decide (lo ≤ v) && decide (v ≤ hi)

/-- A time inside its range and a multiple of 10 ms (R155). -/
def timeWithin (v lo hi : Nat) : Bool := within v lo hi && v % 10 == 0

/-- Configuration group 0, whole: its five values in the order of the table, or none where a check fails (R155). -/
def setConfigGroup0 (g : LinkConfig) (identity offered start stop reserve : Nat) : Option LinkConfig :=
  if within identity 0 65535 && within offered 1 64 && timeWithin start 100 10000 && timeWithin stop 100 10000 &&
      within reserve 0 512 then
    some { g with identity := BitVec.ofNat 16 identity, offered, startInterval := start, stopTimer := stop, reserve }
  else none

/-- Configuration group 1, whole (R155). -/
def setConfigGroup1 (g : LinkConfig) (openT offer status polls probe : Nat) : Option LinkConfig :=
  if timeWithin openT 500 60000 && timeWithin offer 100 60000 && timeWithin status 50 5000 && within polls 1 7 &&
      timeWithin probe 100 10000 then
    some { g with
      openTimer := openT, offerTimer := offer, statusTimer := status, pollLimit := polls, probeInterval := probe }
  else none

/-- Configuration group 2, whole (R155). -/
def setConfigGroup2 (g : LinkConfig) (close closeRetries rewind rewindRetries rest : Nat) : Option LinkConfig :=
  if timeWithin close 100 10000 && within closeRetries 0 7 && timeWithin rewind 100 10000 &&
      within rewindRetries 0 7 && timeWithin rest 0 60000 then
    some { g with closeTimer := close, closeRetries, rewindTimer := rewind, rewindRetries, restTime := rest }
  else none

/-- A configuration group replaced by five values (R155); a group number above 2 is refused before. -/
def setConfigGroup (g : LinkConfig) (group v1 v2 v3 v4 v5 : Nat) : Option LinkConfig :=
  match group with
  | 0 => setConfigGroup0 g v1 v2 v3 v4 v5
  | 1 => setConfigGroup1 g v1 v2 v3 v4 v5
  | _ => setConfigGroup2 g v1 v2 v3 v4 v5

/-- SET-LINK at its taking (R155): PARAM 0 group, PARAM 1 to 5 the group's values (R211). -/
def State.takeSetLink (s : State) : State :=
  if 2 < s.param 0 then s.reject .badParam
  else if s.link.state ≠ .down then s.reject .badState
  else
    match setConfigGroup s.link.config (s.param 0) (s.param 1) (s.param 2) (s.param 3) (s.param 4) (s.param 5) with
    | none => s.reject .badParam
    | some g => (s.onLink (fun l => { l with config := g })).succeed []

/-- SET_LINK: the taking of SET-LINK (R155). -/
def execSetLink (s : State) : Host.Outcome State Fault Refusal := .next (s.taking .setLink State.takeSetLink)

/-! ### READ-LINK (R174) -/

/-- View 0 of READ-LINK, packed as R211 gives. -/
def State.linkView (s : State) : List Nat :=
  [s.link.state.code + 2 ^ 8 * codeOf StopKind.code s.link.stopKind + 2 ^ 16 * flagCode s.lineReady,
   s.link.ownStart.toNat,
   codeOf id s.link.agreed,
   codeOf BitVec.toNat s.link.peerIdentity,
   codeOf BitVec.toNat s.link.peerStart,
   2 ^ 24 * codeOf (LinkPurpose.code ∘ LinkTimer.purpose) s.link.timer + codeOf LinkTimer.remaining s.link.timer,
   codeOf PendingLink.code s.link.pending + 2 ^ 8 * s.link.lastStopCause.toNat,
   flagCode s.link.looped + 2 ^ 8 * flagCode s.linkStale]

/-- Configuration group 0 in the order of the table (R155, R174). -/
def configGroup0 (g : LinkConfig) : List Nat :=
  [g.identity.toNat, g.offered, g.startInterval, g.stopTimer, g.reserve]

/-- Configuration group 1 in the order of the table (R155, R174). -/
def configGroup1 (g : LinkConfig) : List Nat :=
  [g.openTimer, g.offerTimer, g.statusTimer, g.pollLimit, g.probeInterval]

/-- Configuration group 2 in the order of the table (R155, R174). -/
def configGroup2 (g : LinkConfig) : List Nat :=
  [g.closeTimer, g.closeRetries, g.rewindTimer, g.rewindRetries, g.restTime]

/-- READ-LINK at its taking (R174): view 0 reports the link stale flag and then clears it. -/
def State.takeReadLink (s : State) : State :=
  match s.param 0 with
  | 0 => { s with linkStale := false }.succeed s.linkView
  | 1 => s.succeed (configGroup0 s.link.config)
  | 2 => s.succeed (configGroup1 s.link.config)
  | 3 => s.succeed (configGroup2 s.link.config)
  | _ => s.reject .badParam

/-- READ_LINK: the taking of READ-LINK (R174). -/
def execReadLink (s : State) : Host.Outcome State Fault Refusal := .next (s.taking .readLink State.takeReadLink)

/-! ### START-LINK (R162) -/

/-- The link enters STARTING with a new own start number (R156), LINK-START pending and the START timer (R158, R162). -/
def State.enterStarting (s : State) : State :=
  s.onLink (fun l =>
    { l with
      state := .starting, ownStart := s.newStart, looped := false, pending := some .linkStart
      timer := some { purpose := .start, remaining := l.config.startInterval } })

/-- START-LINK at its taking (R162). -/
def State.takeStartLink (s : State) : State :=
  if s.link.state ≠ .down then s.reject .badState
  else if !s.lineReady then s.reject .lineNotReady
  else s.enterStarting.succeed [s.newStart.toNat]

/-- START_LINK: the taking of START-LINK (R162). -/
def execStartLink (s : State) : Host.Outcome State Fault Refusal := .next (s.taking .startLink State.takeStartLink)

/-! ### STOP-LINK (R167) -/

/-- STOP-LINK in UP: the link leaves UP with cause LINK-STOP and enters STOPPING, stop kind LOCAL (R160, R167). -/
def State.stopFromUp (s : State) : State :=
  (s.leaveUp Cause.linkStop .stopping).enterStopping .local Cause.local

/-- STOP-LINK at its taking (R167): the result gives the link state that follows. -/
def State.takeStopLink (s : State) : State :=
  match s.link.state with
  | .down => s.reject .badState
  | .starting => s.enterDown.succeed [LinkState.down.code]
  | .up => s.stopFromUp.succeed [LinkState.stopping.code]
  | .stopping => s.reject .badState

/-- STOP_LINK: the taking of STOP-LINK (R167). -/
def execStopLink (s : State) : Host.Outcome State Fault Refusal := .next (s.taking .stopLink State.takeStopLink)

end Sys2Proof.Machine
end

