-- ==== Sys2Proof/Machine/PortCommands.lean ====
section
/-! DEFINITION. INITIALISE (R199, R200), READ-LABEL (R109) and the codes that name no command (R195). -/

namespace Sys2Proof.Machine

/-! ### INITIALISE (R199, R200) -/

/-- A fixed definition that INITIALISE keeps: FIXED in OPEN, REWINDING or DORMANT (R23). -/
def CircuitRecord.isDefinition (r : CircuitRecord) : Bool :=
  decide (r.kind = some .fixed) &&
    (match r.state with
      | .opened | .rewinding | .dormant => true
      | .free | .opening | .offered | .closing | .closed => false)

/-- A record after INITIALISE (R23): a fixed definition DORMANT with empty contexts, any other FREE, the stale flag
clear in both. -/
def CircuitRecord.initialised (r : CircuitRecord) : CircuitRecord :=
  if r.isDefinition then
    { CircuitRecord.free false with
      state := .dormant, kind := r.kind, localLabel := r.localLabel, peerLabel := r.peerLabel, service := r.service
      maxSegments := r.fixedMaximum, fixedMaximum := r.fixedMaximum
      roundLimit := r.roundLimit, policy := r.policy, window := r.window }
  else CircuitRecord.free false

/-- A label entry after INITIALISE, from the records that step 3 has left (R111): a fixed binding to a record made
DORMANT is kept, any other entry is FREE. -/
def LabelEntry.initialised (circuits : Vector CircuitRecord 64) (e : LabelEntry) : LabelEntry :=
  match e with
  | .bound c true => if circuits[c.val].state = .dormant then .bound c true else .free
  | .bound _ false => .free
  | .resting _ => .free
  | .free => .free

/-- Step 2 of INITIALISE: the link is DOWN, its configuration and own start number kept (R176, R199). -/
def State.initialiseLink (s : State) : State :=
  s.enterDown.onLink (fun l => { l with looped := false, lastStopCause := Cause.none })

/-- Steps 3 and 4 of INITIALISE: the records by R23, the labels by R111 (R199). -/
def State.initialiseRecords (s : State) : State :=
  let circuits := s.circuits.map CircuitRecord.initialised
  { s with circuits, labels := s.labels.map (LabelEntry.initialised circuits), allocPtr := 1, loose := [] }

/-- Steps 5 and 6 of INITIALISE: the descriptors by R95, the latch, the event queue and the link stale flag (R199). -/
def State.initialiseBuffers (s : State) : State :=
  { s with descriptors := Vector.replicate 256 Descriptor.free, latch := none, events := [], linkStale := false }

/-- The records that were in use and become FREE, and the fixed records left DORMANT (R200). -/
def State.initialiseCounts (s : State) : List Nat :=
  [s.circuits.toList.countP (fun r => decide (r.state ≠ .free) && !r.isDefinition),
   s.circuits.toList.countP CircuitRecord.isDefinition]

/-- INITIALISE at its taking (R199), in its six steps. -/
def State.takeInitialise (s : State) : State :=
  let s1 := { s.abortTransmission with controlPos := 63, dataPos := 63 }
  s1.initialiseLink.initialiseRecords.initialiseBuffers.succeed s.initialiseCounts

/-- INITIALISE: the taking of INITIALISE (R199). -/
def execInitialise (s : State) : Host.Outcome State Fault Refusal := .next (s.taking .initialise State.takeInitialise)

/-! ### READ-LABEL (R109) -/

/-- The values of one entry: state, circuit, fixed flag, remaining rest time (R109). -/
def LabelEntry.view (e : LabelEntry) : List Nat :=
  match e with
  | .free => [e.code, 0, 0, 0]
  | .bound c fixed => [e.code, c.val, flagCode fixed, 0]
  | .resting remaining => [e.code, 0, 0, remaining]

/-- The label entries of one state code, counted (R109). -/
def State.countLabels (s : State) (code : Nat) : Nat := s.labels.toList.countP (fun e => e.code == code)

/-- The map summary of label 0 (R109). -/
def State.mapSummary (s : State) : List Nat :=
  [s.allocPtr.toNat, s.countLabels 0, s.countLabels 1, s.countLabels 2, s.loose.length,
   codeOf (LooseBody.code ∘ LooseReply.body) s.loose.head?,
   codeOf (BitVec.toNat ∘ LooseReply.dst) s.loose.head?,
   codeOf BitVec.toNat (s.loose.head?.bind (LooseBody.cause ∘ LooseReply.body))]

/-- READ-LABEL at its taking (R109): PARAM 0 the label. -/
def State.takeReadLabel (s : State) : State :=
  if 255 < s.param 0 then s.reject .badParam
  else if s.param 0 = 0 then s.succeed s.mapSummary
  else s.succeed (s.label (BitVec.ofNat 8 (s.param 0))).view

/-- READ_LABEL: the taking of READ-LABEL (R109). -/
def execReadLabel (s : State) : Host.Outcome State Fault Refusal := .next (s.taking .readLabel State.takeReadLabel)

/-! ### Unknown codes (R195) -/

/-- UNKNOWN_COMMAND: a started code that names no command is taken by the port itself (R195). -/
def execUnknownCommand (s : State) : Host.Outcome State Fault Refusal :=
  .next (if s.running && !namesCommand s.port.command then s.reject .unknownCommand else s)

end Sys2Proof.Machine
end

