-- ==== Sys2Proof/Machine/ResetLine.lean ====
section
/-! DEFINITION. Hardware reset and the end of the start-up period (R201), line-ready (R171), and the octets on RXD that
make no good frame (R180, R182). -/

namespace Sys2Proof.Machine

/-- HARDWARE_RESET: the RESET input falls and is released (R201). Every block takes its hardware-reset values. The
level of LRDY is the line equipment's, page memory is zeroed by the start-up period (R94, log 8), and the model's own
fields stay (log 24). -/
def execHardwareReset (s : State) : Host.Outcome State Fault Refusal :=
  .next { State.reset with
    lineReady := s.lineReady, memory := s.memory, freeCount := s.freeCount, pending := s.pending }

/-- The end of the start-up period (R94, R201): page memory is zero, the port is IDLE, and the millisecond count starts
at 0. -/
def State.endStartUp (s : State) : State :=
  { s with startUp := false, memory := [], msCount := 0, port := { s.port with state := .idle } }

/-- START_UP_END: the last page has been zeroed (R201); outside the start-up period nothing ends. -/
def execStartUpEnd (s : State) : Host.Outcome State Fault Refusal := .next (if s.startUp then s.endStartUp else s)

/-- The fall of line-ready as the link meets it (R171): in STARTING, UP and STOPPING the frame in transmission is
aborted before the records are moved (R192). -/
def State.linkLost (s : State) : State :=
  match s.link.state with
  | .down => s
  | .starting => s.abortTransmission.enterDown.raise (linkDownEvent Cause.lineLost 0 .down)
  | .up => (s.abortTransmission.leaveUp Cause.lineLost .down).enterDown
  | .stopping => s.abortTransmission.enterDown

/-- LINE_READY_FALL: the candidate being collected is discarded (R180) and the link acts (R171). -/
def execLineReadyFall (s : State) : Host.Outcome State Fault Refusal :=
  .next (if s.lineReady then { s with lineReady := false, receiver := Receiver.hunting }.linkLost else s)

/-- LINE_READY_RISE: the link is not started; the receiver waits in HUNT for a delimiter (R171, R180). -/
def execLineReadyRise (s : State) : Host.Outcome State Fault Refusal := .next { s with lineReady := true }

/-- CANDIDATE_DISCARD: octets received on RXD that end no good frame pass the receiver, which discards every candidate
they end (R180, R182). Octets that end a good frame are not this row's (log 5); with line-ready low every octet is
ignored (R180). -/
def execCandidateDiscard (octets : List Octet) (s : State) : Host.Outcome State Fault Refusal :=
  .next (if s.lineReady && (s.receiver.feed octets).2.isEmpty then { s with receiver := (s.receiver.feed octets).1 }
    else s)

/-- HUNT_DELIMITER_RECEIVED: a delimiter in HUNT puts the receiver in COLLECT with its buffer empty (R180). -/
def execHuntDelimiterReceived (s : State) : Host.Outcome State Fault Refusal :=
  .next (if s.lineReady && decide (s.receiver.phase = .hunt) then { s with receiver := Receiver.opened } else s)

end Sys2Proof.Machine
end

