-- ==== Sys2Proof/Machine/Receiving.lean ====
section
/-! DEFINITION. The Receive Engine's reactions to SEG, BLOCK-END, BLOCK-ABANDON and PROBE frames at an OPEN circuit
(R55 to R64, R72). -/

namespace Sys2Proof.Machine

/-- The announced-count test of a SEG (R56 check 3): below the count, and 256 octets below the last. -/
def announcedAllows (announced : Option Nat) (i length : Nat) : Bool :=
  match announced with
  | none => true
  | some n => decide (i < n) && (decide (n ≤ i + 1) || decide (length = 256))

/-- A SEG of the current block that passed the checks before the last (R56 check 4, R57, R58). -/
def State.segCurrent (s : State) (c : CircuitNo) (i : Nat) (payload : List Octet) : State :=
  if s.hasSegment c i then s
  else
    match s.storeSegment c i payload with
    | none => s
    | some t =>
      match (s.circuit c).recv.announced with
      | none => t
      | some n => if t.hasAll c n then t.complete c else t

/-- A SEG at an OPEN circuit (R56). -/
def State.segAt (number : BlockNumber) (i : Nat) (payload : List Octet) (c : CircuitNo) (s : State) : State :=
  if (s.circuit c).maxSegments.getD 0 ≤ i then s.protocolError c
  else
    match (s.circuit c).recv.classOf number with
    | .previous => s
    | .error => s.protocolError c
    | .current =>
      if announcedAllows (s.circuit c).recv.announced i payload.length then s.segCurrent c i payload
      else s.protocolError c

/-- The stored block agrees with the segment count now named (R59 checks 3 to 5). -/
def State.countAgrees (s : State) (c : CircuitNo) (n : Nat) : Bool :=
  (match (s.circuit c).recv.announced with
    | none => true
    | some m => decide (m = n)) &&
    (s.assemblySlots c).all (fun x => decide (x.index < n) && (decide (n ≤ x.index + 1) || decide (256 ≤ x.octets)))

/-- A BLOCK-END at an OPEN circuit (R59, R60). -/
def State.blockEndAt (number : BlockNumber) (n : Nat) (c : CircuitNo) (s : State) : State :=
  if n = 0 ∨ (s.circuit c).maxSegments.getD 0 < n then s.protocolError c
  else
    match (s.circuit c).recv.classOf number with
    | .error => s.protocolError c
    | .previous => s.setAnswer c (some .blockStatus)
    | .current =>
      if s.countAgrees c n then
        (if s.hasAll c n then s.complete c
         else (s.onRecv c (fun x => { x with announced := some n })).setAnswer c (some .blockStatus))
      else s.protocolError c

/-- A BLOCK-ABANDON at an OPEN circuit (R63). -/
def State.blockAbandonAt (number : BlockNumber) (c : CircuitNo) (s : State) : State :=
  match (s.circuit c).recv.classOf number with
  | .error => s.protocolError c
  | .previous => s.setAnswer c (some .blockStatus)
  | .current =>
    ((s.dropAssembly c).onRecv c (fun x =>
      { x with expected := x.expected + 1, lastOutcome := .abandoned })).setAnswer c (some .blockStatus)

/-- A PROBE at an OPEN circuit: READY is made pending (R64). -/
def State.probeAt (c : CircuitNo) (s : State) : State := s.setAnswer c (some .ready)

end Sys2Proof.Machine
end

