-- ==== Sys2Proof/Machine/TransferArrivals.lean ====
section
/-! DEFINITION. The arrivals the Receive Engine and the Send Engine take at an OPEN circuit: SEG (R56), BLOCK-END (R59),
BLOCK-ABANDON (R63), PROBE (R64), BLOCK-STATUS (R36) and READY (R46). -/

namespace Sys2Proof.Machine

/-- SEG_ARRIVAL (R56). -/
def execSegArrival (dst : Label) (number : BlockNumber) (index : Octet) (payload : List Octet) (s : State) :
    Host.Outcome State Fault Refusal :=
  .next (s.arrive (.seg dst number index payload)
    (fun t => t.dispatchOpen dst (State.segAt number index.toNat payload)))

/-- BLOCK_END_ARRIVAL (R59). -/
def execBlockEndArrival (dst : Label) (number : BlockNumber) (count : Octet) (s : State) :
    Host.Outcome State Fault Refusal :=
  .next (s.arrive (.blockEnd dst number count)
    (fun t => t.dispatchOpen dst (State.blockEndAt number count.toNat)))

/-- BLOCK_ABANDON_ARRIVAL (R63). -/
def execBlockAbandonArrival (dst : Label) (number : BlockNumber) (s : State) : Host.Outcome State Fault Refusal :=
  .next (s.arrive (.blockAbandon dst number) (fun t => t.dispatchOpen dst (State.blockAbandonAt number)))

/-- BLOCK_STATUS_ARRIVAL (R36). -/
def execBlockStatusArrival (dst : Label) (number : BlockNumber) (outcome : StatusOutcome) (ready : Bool) (s : State) :
    Host.Outcome State Fault Refusal :=
  .next (s.arrive (.blockStatus dst number outcome ready)
    (fun t => t.dispatchOpen dst (State.statusAt number outcome ready)))

/-- PROBE_ARRIVAL (R64). -/
def execProbeArrival (dst : Label) (s : State) : Host.Outcome State Fault Refusal :=
  .next (s.arrive (.probe dst) (fun t => t.dispatchOpen dst State.probeAt))

/-- READY_ARRIVAL (R46). -/
def execReadyArrival (dst : Label) (ready : Bool) (s : State) : Host.Outcome State Fault Refusal :=
  .next (s.arrive (.ready dst ready) (fun t => t.dispatchOpen dst (State.readyAt ready)))

end Sys2Proof.Machine
end

