-- ==== Sys2Proof/Machine/Scheduler.lean ====
section
/-! DEFINITION. The Transmit Scheduler: the choice of a frame in four stages (R187 to R189), the frames built from their
owners by late binding (R183, R184, R190), and the reports at a transmission end (R191). -/

namespace Sys2Proof.Machine

/-! ### Frames built from their owners (R184, R190) -/

/-- The destination label of a circuit's frames: its peer label (R4). -/
def CircuitRecord.destination (r : CircuitRecord) : Label := r.peerLabel.getD 0

/-- A link frame, its fields read at its transmission start (R157, R183). -/
def State.linkFrame (s : State) : PendingLink → Frame
  | .linkStart => .linkStart 1 (BitVec.ofNat 8 s.link.config.offered) s.link.config.identity s.link.ownStart
  | .linkAgree => .linkAgree (BitVec.ofNat 8 s.link.config.offered) s.link.config.identity s.link.ownStart
  | .linkStop cause => .linkStop cause

/-- A loose reply's frame (R106). -/
def LooseReply.frame (x : LooseReply) : Frame :=
  match x.body with
  | .refuse cause diagnostic => .refuse x.dst x.src cause diagnostic
  | .close cause diagnostic => .close x.dst x.src cause diagnostic
  | .closeDone => .closeDone x.dst x.src

/-- The OPEN frame of a record (R116). An OPEN is pending in OPENING alone, where the open request is present (log 32);
in a state no run reaches it would carry 0 and no data (log 21). -/
def CircuitRecord.openFrame (r : CircuitRecord) : Frame :=
  .openFrame 0 r.localLabel (BitVec.ofNat 8 ((r.openRequest.map OpenTerms.requested).getD 0)) r.service
    ((r.openRequest.map OpenTerms.data).getD [])

/-- The frame of the protocol class (R116, R119, R136, R144). A REFUSE is never made pending there; it would be built
as a loose REFUSE of the record is (log 16). -/
def CircuitRecord.protocolFrame (r : CircuitRecord) : ProtocolKind → Frame
  | .openK => r.openFrame
  | .accept => .accept r.destination r.localLabel (BitVec.ofNat 8 (r.maxSegments.getD 0))
  | .refuse =>
    .refuse r.destination r.localLabel ((r.closeRecord.map CloseRecord.cause).getD 0)
      ((r.closeRecord.map CloseRecord.diagnostic).getD 0)
  | .close =>
    .close r.destination r.localLabel ((r.closeRecord.map CloseRecord.cause).getD 0)
      ((r.closeRecord.map CloseRecord.diagnostic).getD 0)
  | .closeDone => .closeDone r.destination r.localLabel
  | .rewind => .rewind r.destination ((r.note.map RewindNote.cause).getD 0)
  | .rewindDone => .rewindDone r.destination

/-- The missing map of a block announced with n segments: every index below n not in the received set (R66). -/
def State.missingMap (s : State) (c : CircuitNo) (n : Nat) : SegSet :=
  BitVec.ofNat 64 (((List.range n).filter (fun i => !s.hasSegment c i)).map (2 ^ ·)).sum

/-- The outcome reported for block E−1 (R66); NONE is never reported (log 21). -/
def LastOutcome.status : LastOutcome → StatusOutcome
  | .complete => .complete
  | .abandoned => .abandoned
  | .none => .abandoned

/-- The frame of the answer class, composed from the receive context as it stands (R66, R67). -/
def State.answerFrame (s : State) (c : CircuitNo) : AnswerKind → Frame
  | .ready => .ready (s.circuit c).destination (s.circuit c).readyFlag
  | .blockStatus =>
    match (s.circuit c).recv.announced with
    | some n =>
      .blockStatus (s.circuit c).destination (s.circuit c).recv.expected (.missing (s.missingMap c n))
        (s.circuit c).readyFlag
    | none =>
      .blockStatus (s.circuit c).destination ((s.circuit c).recv.expected - 1) (s.circuit c).recv.lastOutcome.status
        (s.circuit c).readyFlag

/-- The frame of the transfer class (R33, R42, R45). -/
def CircuitRecord.transferFrame (r : CircuitRecord) : TransferKind → Frame
  | .blockEnd =>
    .blockEnd r.destination ((r.send.active.map ActiveBlock.number).getD 0)
      (BitVec.ofNat 8 ((r.send.active.map ActiveBlock.count).getD 0))
  | .blockAbandon => .blockAbandon r.destination ((r.send.active.map ActiveBlock.number).getD 0)
  | .probe => .probe r.destination

/-- The octets of segment i of a block of n pages and byte length L: 256, or the rest for the last one (R31). -/
def segmentLength (n L i : Nat) : Nat := if i + 1 < n then Config.pageSize else L - (n - 1) * Config.pageSize

/-- The payload of segment i of a descriptor (R31): the first octets of its page slot i. -/
def State.payload (s : State) (x : Descriptor) (i : Nat) : List Octet :=
  Memory.readAll s.memory (x.pages.getD i 0 * Config.pageSize)
    (segmentLength x.pages.length (x.byteLength.getD 0) i)

/-! ### The choice (R187) -/

/-- The claim that supplies the next frame, stage by stage (R187). -/
inductive Claim where
  | link (p : PendingLink)
  | loose (reply : LooseReply)
  | protocol (c : CircuitNo) (k : ProtocolKind)
  | answer (c : CircuitNo) (k : AnswerKind)
  | transfer (c : CircuitNo) (k : TransferKind)
  | data (c : CircuitNo) (a : ActiveBlock) (i : Nat)
deriving DecidableEq, Repr

/-- The order of a round-robin search: the circuit after the position first, the position itself last (R188). -/
def circuitsAfter (position : CircuitNo) : List CircuitNo := (List.finRange 64).map (fun k => position + 1 + k)

/-- The frame a record offers circuit control: its highest class that is not empty (R13, R188). -/
def State.controlClaim (s : State) (c : CircuitNo) : Option Claim :=
  match (s.circuit c).protocol, (s.circuit c).answer, (s.circuit c).transfer with
  | some k, _, _ => some (.protocol c k)
  | none, some k, _ => some (.answer c k)
  | none, none, some k => some (.transfer c k)
  | none, none, none => none

/-- The segment a circuit offers the data stage: the lowest index to send of a SENDING circuit (R31, R189). -/
def State.dataClaim (s : State) (c : CircuitNo) : Option Claim :=
  match (s.circuit c).send.sender, (s.circuit c).send.active with
  | .sending, some a => (lowestSegment a.toSend).map (.data c a ·)
  | _, _ => none

/-- Stages 2 to 4, weighed while the link is UP (R187). -/
def State.circuitStages (s : State) : Option Claim :=
  match s.loose with
  | reply :: _ => some (.loose reply)
  | [] => ((circuitsAfter s.controlPos).findSome? s.controlClaim).or ((circuitsAfter s.dataPos).findSome? s.dataClaim)

/-- The claim chosen: the pending link frame in every link state, the other stages only in UP (R187). -/
def State.chooseClaim (s : State) : Option Claim :=
  match s.link.pending with
  | some p => some (.link p)
  | none => if s.link.state = .up then s.circuitStages else none

/-! ### The transmission start (R190) -/

/-- A frame starts: it is recorded as the frame in transmission, and TXD carries it (R186, R190). -/
def State.transmit (s : State) (owner : TxOwner) (frame : Frame) (pin : Option (Nat × DescNo)) : State :=
  { s with tx := some { owner, frame, detached := false, pin }, line := .frame }

/-- The frame of the claim chosen is built, its owner's entry emptied, and the frame starts (R187 to R190). -/
def State.startClaim (s : State) : Claim → State
  | .link p => (s.setPendingLink none).transmit .link (s.linkFrame p) none
  | .loose reply => { s with loose := s.loose.tail }.transmit .loose reply.frame none
  | .protocol c k =>
    { s.setProtocol c none with controlPos := c }.transmit (.circuit c) ((s.circuit c).protocolFrame k) none
  | .answer c k =>
    { (s.setAnswer c none).onCircuit c CircuitRecord.reportReady with controlPos := c }.transmit (.circuit c)
      (s.answerFrame c k) none
  | .transfer c k =>
    { s.setTransfer c none with controlPos := c }.transmit (.circuit c) ((s.circuit c).transferFrame k) none
  | .data c a i =>
    { s with dataPos := c }.transmit (.circuit c)
      (.seg (s.circuit c).destination a.number (BitVec.ofNat 8 i) (s.payload (s.descriptor a.desc) i))
      (some ((s.descriptor a.desc).pages.getD i 0, a.desc))

/-- The next choice of a free transmitter (R187); a busy transmitter makes none (log 13). -/
def State.startTransmission (s : State) : State :=
  match s.tx, s.chooseClaim with
  | none, some claim => s.startClaim claim
  | _, _ => s

/-! ### The transmission end (R191) -/

/-- The end of a circuit's frame reported to the Send Engine (R32, R33, R42, R45, R191). -/
def State.reportToSender (s : State) (c : CircuitNo) : Frame → State
  | .seg _ number index _ => s.segSent c number index.toNat
  | .blockEnd _ number _ => s.blockEndSent c number
  | .blockAbandon _ number => s.blockAbandonSent c number
  | .probe _ => s.probeSent c
  | _ => s

/-- The end of a link frame (R157, R169): the answering LINK-STOP, which has left the pending entry, brings the link
DOWN; no other one acts (log 12). -/
def State.linkFrameSent (s : State) : Frame → State
  | .linkStop _ =>
    if s.link.state = .stopping ∧ s.link.stopKind = some .answering ∧ s.link.pending = none then s.enterDown else s
  | _ => s

/-- The reports of a transmission end: none to the Send Engine for a detached frame (R191). -/
def State.reportEnd (s : State) (t : TxFrame) : State :=
  match t.owner with
  | .link => s.linkFrameSent t.frame
  | .loose => s
  | .circuit c => (if t.detached then s else s.reportToSender c t.frame).endPin t.pin

/-- The end of the frame in transmission: the reports, then the transmitter is free and sends idle fill (R178, R191).
With no frame in transmission nothing ends (log 13). -/
def State.endTransmission (s : State) : State :=
  match s.tx with
  | none => s
  | some t => { s.reportEnd t with tx := none, line := .idleFill }

end Sys2Proof.Machine
end

