-- ==== Sys2Proof/Machine/Transmission.lean ====
section
/-! DEFINITION. The transmission start (R187 to R190) and the transmission end (R191) of a frame. -/

namespace Sys2Proof.Machine

/-- TRANSMISSION_START: the Transmit Scheduler's choice while the transmitter is free (R187). -/
def execTransmissionStart (s : State) : Host.Outcome State Fault Refusal := .next s.startTransmission

/-- TRANSMISSION_END: the end of the frame in transmission (R191). -/
def execTransmissionEnd (s : State) : Host.Outcome State Fault Refusal := .next s.endTransmission

end Sys2Proof.Machine
end

