-- ==== Sys2Proof/Machine/Dispatch.lean ====
section
/-! DEFINITION. One arm for each constructor of Instr: the meaning of its row of spec/opcode_table.json. -/

namespace Sys2Proof.Machine

def exec (i : Instr) (s : State) : Host.Outcome State Fault Refusal :=
  match i with
  | .setLink => Sys2Proof.Machine.execSetLink s
  | .readLink => Sys2Proof.Machine.execReadLink s
  | .startLink => Sys2Proof.Machine.execStartLink s
  | .stopLink => Sys2Proof.Machine.execStopLink s
  | .listen => Sys2Proof.Machine.execListen s
  | .unlisten => Sys2Proof.Machine.execUnlisten s
  | .readListen => Sys2Proof.Machine.execReadListen s
  | .openCommand => Sys2Proof.Machine.execOpenCommand s
  | .answer => Sys2Proof.Machine.execAnswer s
  | .closeCommand => Sys2Proof.Machine.execCloseCommand s
  | .rewindCommand => Sys2Proof.Machine.execRewindCommand s
  | .retire => Sys2Proof.Machine.execRetire s
  | .fix => Sys2Proof.Machine.execFix s
  | .unfix => Sys2Proof.Machine.execUnfix s
  | .readCircuit => Sys2Proof.Machine.execReadCircuit s
  | .setCircuit => Sys2Proof.Machine.execSetCircuit s
  | .alloc => Sys2Proof.Machine.execAlloc s
  | .freeCommand => Sys2Proof.Machine.execFreeCommand s
  | .submit => Sys2Proof.Machine.execSubmit s
  | .take => Sys2Proof.Machine.execTake s
  | .readDescriptor => Sys2Proof.Machine.execReadDescriptor s
  | .readPool => Sys2Proof.Machine.execReadPool s
  | .initialise => Sys2Proof.Machine.execInitialise s
  | .readLabel => Sys2Proof.Machine.execReadLabel s
  | .unknownCommand => Sys2Proof.Machine.execUnknownCommand s
  | .registerWrite address value => Sys2Proof.Machine.execRegisterWrite address value s
  | .portControlWrite value => Sys2Proof.Machine.execPortControlWrite value s
  | .eventPop => Sys2Proof.Machine.execEventPop s
  | .packetMemoryRead address => Sys2Proof.Machine.execPacketMemoryRead address s
  | .packetMemoryWrite address value => Sys2Proof.Machine.execPacketMemoryWrite address value s
  | .hardwareReset => Sys2Proof.Machine.execHardwareReset s
  | .startUpEnd => Sys2Proof.Machine.execStartUpEnd s
  | .lineReadyFall => Sys2Proof.Machine.execLineReadyFall s
  | .lineReadyRise => Sys2Proof.Machine.execLineReadyRise s
  | .candidateDiscard octets => Sys2Proof.Machine.execCandidateDiscard octets s
  | .linkStartArrival version maxSegments identity startNumber => Sys2Proof.Machine.execLinkStartArrival version maxSegments identity startNumber s
  | .linkAgreeArrival maxSegments identity startNumber => Sys2Proof.Machine.execLinkAgreeArrival maxSegments identity startNumber s
  | .linkStopArrival cause => Sys2Proof.Machine.execLinkStopArrival cause s
  | .openFrameArrival dst src requested service data => Sys2Proof.Machine.execOpenFrameArrival dst src requested service data s
  | .acceptArrival dst src agreed => Sys2Proof.Machine.execAcceptArrival dst src agreed s
  | .refuseArrival dst src cause diagnostic => Sys2Proof.Machine.execRefuseArrival dst src cause diagnostic s
  | .closeFrameArrival dst src cause diagnostic => Sys2Proof.Machine.execCloseFrameArrival dst src cause diagnostic s
  | .closeDoneArrival dst src => Sys2Proof.Machine.execCloseDoneArrival dst src s
  | .rewindFrameArrival dst cause => Sys2Proof.Machine.execRewindFrameArrival dst cause s
  | .rewindDoneArrival dst => Sys2Proof.Machine.execRewindDoneArrival dst s
  | .segArrival dst number index payload => Sys2Proof.Machine.execSegArrival dst number index payload s
  | .blockEndArrival dst number count => Sys2Proof.Machine.execBlockEndArrival dst number count s
  | .blockAbandonArrival dst number => Sys2Proof.Machine.execBlockAbandonArrival dst number s
  | .blockStatusArrival dst number outcome ready => Sys2Proof.Machine.execBlockStatusArrival dst number outcome ready s
  | .probeArrival dst => Sys2Proof.Machine.execProbeArrival dst s
  | .readyArrival dst ready => Sys2Proof.Machine.execReadyArrival dst ready s
  | .openTimerExpiry circuit => Sys2Proof.Machine.execOpenTimerExpiry circuit s
  | .offerTimerExpiry circuit => Sys2Proof.Machine.execOfferTimerExpiry circuit s
  | .statusTimerExpiry circuit => Sys2Proof.Machine.execStatusTimerExpiry circuit s
  | .probeTimerExpiry circuit => Sys2Proof.Machine.execProbeTimerExpiry circuit s
  | .closeTimerExpiry circuit => Sys2Proof.Machine.execCloseTimerExpiry circuit s
  | .rewindTimerExpiry circuit => Sys2Proof.Machine.execRewindTimerExpiry circuit s
  | .startTimerExpiry => Sys2Proof.Machine.execStartTimerExpiry s
  | .stopTimerExpiry => Sys2Proof.Machine.execStopTimerExpiry s
  | .restTimeExpiry label => Sys2Proof.Machine.execRestTimeExpiry label s
  | .transmissionStart => Sys2Proof.Machine.execTransmissionStart s
  | .transmissionEnd => Sys2Proof.Machine.execTransmissionEnd s
  | .huntDelimiterReceived => Sys2Proof.Machine.execHuntDelimiterReceived s

end Sys2Proof.Machine
end

