-- ==== Sys2Proof/Machine/Tick.lean ====
section
/-! DEFINITION. The passing of one millisecond, taken by a step on an empty queue (log 1): every remaining time falls,
and the timers that reach zero expire, rest times first, then circuits in number order, then the link (log 19). -/

namespace Sys2Proof.Machine

/-- A circuit timer one millisecond later (R14). -/
def CircuitTimer.aged (t : CircuitTimer) : CircuitTimer := { t with remaining := t.remaining - 1 }

/-- A link timer one millisecond later (R158). -/
def LinkTimer.aged (t : LinkTimer) : LinkTimer := { t with remaining := t.remaining - 1 }

/-- A label entry one millisecond later: a rest time that reaches zero expires (R97). -/
def LabelEntry.aged (e : LabelEntry) : LabelEntry :=
  match e with
  | .resting remaining => if remaining ≤ 1 then .free else .resting (remaining - 1)
  | .free => .free
  | .bound c fixed => .bound c fixed

/-- Every remaining time one millisecond lower, and the millisecond count one higher (R14, R97, R156, R158). -/
def State.age (s : State) : State :=
  { s with
    msCount := s.msCount + 1
    labels := s.labels.map LabelEntry.aged
    circuits := s.circuits.map (fun r => { r with timer := r.timer.map CircuitTimer.aged })
    link := { s.link with timer := s.link.timer.map LinkTimer.aged } }

/-- The expiry of a circuit timer at zero, by its purpose (R14). -/
def State.expireDue (s : State) (c : CircuitNo) : State :=
  match (s.circuit c).timer with
  | some { purpose, remaining := 0 } =>
    (match purpose with
      | .openT => s.expire c .openT (State.openExpired c)
      | .offer => s.expire c .offer (State.offerExpired c)
      | .status => s.expire c .status (State.statusExpired c)
      | .probe => s.expire c .probe (State.probeExpired c)
      | .close => s.expire c .close (State.closeExpired c)
      | .rewind => s.expire c .rewind (State.rewindExpired c))
  | _ => s

/-- The expiry of the link timer at zero (R158). -/
def State.expireLinkDue (s : State) : State :=
  match s.link.timer with
  | some { purpose := .start, remaining := 0 } => s.expireLink .start State.startExpired
  | some { purpose := .stop, remaining := 0 } => s.expireLink .stop State.stopExpired
  | _ => s

/-- One millisecond passes. In the start-up period no timer runs and the millisecond count has not started (R201). -/
def State.tick (s : State) : State :=
  if s.startUp then s
  else (s.age.forEachCircuit State.expireDue).expireLinkDue

end Sys2Proof.Machine
end

