-- ==== Sys2Proof/Safety.lean ====
section
/-! DEFINITION. What a run is, the conditions under which a command acts, what a command leaves unchanged, and the laws
of the part's state, in the terms the statements use. -/

namespace Sys2Proof

/-! ### Frames at the Label Map -/

/-- A circuit frame, which the Label Map takes (R181, R185). -/
def Frame.isCircuit : Frame → Bool
  | .linkStart .. | .linkAgree .. | .linkStop .. => false
  | .openFrame .. | .accept .. | .refuse .. | .close .. | .closeDone .. | .rewind .. | .rewindDone .. => true
  | .seg .. | .blockEnd .. | .blockAbandon .. | .blockStatus .. | .probe .. | .ready .. => true

/-- A frame of the block transfer, which an OPEN circuit alone takes (R103). -/
def Frame.isTransfer : Frame → Bool
  | .seg .. | .blockEnd .. | .blockAbandon .. | .blockStatus .. | .probe .. | .ready .. => true
  | .linkStart .. | .linkAgree .. | .linkStop .. => false
  | .openFrame .. | .accept .. | .refuse .. | .close .. | .closeDone .. | .rewind .. | .rewindDone .. => false

/-- The destination label of a frame: 0 in a link frame (R181, R183, R184). -/
def Frame.destination : Frame → Label
  | .linkStart .. | .linkAgree .. | .linkStop .. => 0
  | .openFrame dst .. | .accept dst .. | .refuse dst .. | .close dst .. | .closeDone dst _ => dst
  | .rewind dst _ | .rewindDone dst | .seg dst .. | .blockEnd dst .. | .blockAbandon dst _ => dst
  | .blockStatus dst .. | .probe dst | .ready dst _ => dst

/-- The source label of a frame that asks for an answer or sets a peer label: OPEN, ACCEPT and CLOSE (R102). -/
def Frame.askingSource : Frame → Option Label
  | .openFrame _ src .. | .accept _ src _ | .close _ src .. => some src
  | .linkStart .. | .linkAgree .. | .linkStop .. | .refuse .. | .closeDone .. | .rewind .. | .rewindDone .. => none
  | .seg .. | .blockEnd .. | .blockAbandon .. | .blockStatus .. | .probe .. | .ready .. => none

end Sys2Proof

namespace Sys2Proof.Machine

/-- The states a run from hardware reset reaches, whatever commands are put into its queue on the way. -/
inductive Reachable : State → Prop where
  | reset (commands : List Instr) : Reachable { State.reset with pending := commands }
  | step {s t : State} : Reachable s → step s = .next t → Reachable t
  | queued {s : State} (commands : List Instr) : Reachable s → Reachable { s with pending := commands }

/-! ### When a command acts -/

/-- A host command has been started and not taken (R195, R196), outside the start-up period (R201). -/
def Started (c : Instr) (s : State) : Prop :=
  s.port.state = .busy ∧ s.startUp = false ∧ commandCode c = some s.port.command

/-- A frame can arrive: line-ready is high and the receiver is collecting (R180). -/
def Hears (s : State) : Prop := s.lineReady = true ∧ s.receiver.phase ≠ .hunt

/-- A circuit frame to a label reaches a circuit: the link is UP and the label is bound to it (R102, R103). -/
def Reaches (s : State) (dst : Label) (c : CircuitNo) : Prop :=
  Hears s ∧ s.link.state = .up ∧ dst ≠ 0 ∧ ∃ fixed, s.label dst = .bound c fixed

/-- The port at the end of a command: DONE with a result code and result values (R196). -/
def donePort (p : Port) (code : ResultCode) (values : List Nat) : Port :=
  { p with state := .done, result := code, results := resultRegisters values }

/-- A command refused with a code: no state outside the Command Port is changed (R198). -/
def refusedWith (s : State) (code : ResultCode) : Host.Outcome State Fault Refusal :=
  .next { s with port := donePort s.port code [] }

/-- A command that ends with OK and its result values, the rest of the state as given (R198). -/
def answers (t : State) (values : List Nat) : Host.Outcome State Fault Refusal :=
  .next { t with port := donePort t.port .ok values }

/-- The state with a delimiter received: the receiver opens the next candidate (R180). -/
def State.heard (s : State) : State := { s with receiver := { phase := .collect, buffer := [] } }

/-- The link record in DOWN (R170). -/
def Link.downed (l : Link) : Link :=
  { l with
    state := .down, timer := none, pending := none, agreed := none, peerIdentity := none, peerStart := none
    stopKind := none }

/-- A label's entry after its record has become FREE (R97, R101). -/
def State.restEntry (s : State) : LabelEntry :=
  if s.link.config.restTime = 0 then .free else .resting s.link.config.restTime

/-- The state after a record in use has become FREE: the record, its label and a frame of it in transmission (R12, R101,
R186). -/
def State.withoutRecord (s : State) (c : CircuitNo) : State :=
  { s with
    circuits := s.circuits.set c.val (CircuitRecord.free (s.circuit c).stale)
    labels := s.labels.set (labelIndex (s.circuit c).localLabel).val s.restEntry
    tx := s.tx.map (fun x => if x.owner = .circuit c then { x with detached := true } else x) }

/-- A command names a circuit in use in PARAM k (R2). -/
def NamesCircuit (s : State) (k : Nat) (c : CircuitNo) : Prop := s.param k = c.val ∧ (s.circuit c).state ≠ .free

/-- The row of the expiry of a circuit timer purpose (R14). -/
def expiryRow (c : CircuitNo) : TimerPurpose → Instr
  | .openT => .openTimerExpiry c
  | .offer => .offerTimerExpiry c
  | .status => .statusTimerExpiry c
  | .probe => .probeTimerExpiry c
  | .close => .closeTimerExpiry c
  | .rewind => .rewindTimerExpiry c

/-! ### Events of the exchanges -/

/-- OPEN-FAILED of a record (R132). -/
def openFailedOf (c : CircuitNo) (r : CircuitRecord) (cause : Octet) (originator : Originator) : Event :=
  { kind := .openFailed, circuit := some c, cause := some cause, originator := some originator, tag := some r.service
    count := some r.send.blocks.length }

/-- CLOSED of a record (R151). -/
def closedOf (c : CircuitNo) (r : CircuitRecord) (cause : Octet) (originator : Originator) (confirmed : Bool)
    (discarded : Nat) : Event :=
  { kind := .closed, circuit := some c, cause := some cause, originator := some originator, tag := some r.service
    block := some (if confirmed then 1 else 0), count := some discarded }

/-- REWOUND of a record (R152). -/
def rewoundOf (c : CircuitNo) (r : CircuitRecord) (cause : Octet) (originator : Originator) (queued : Nat) : Event :=
  { kind := .rewound, circuit := some c, cause := some cause, originator := some originator, tag := some r.service
    count := some queued }

/-- BLOCK-SENT of an active block (R47). -/
def sentOf (c : CircuitNo) (a : ActiveBlock) (tag : Option Word) : Event :=
  { kind := .blockSent, circuit := some c, tag, block := some a.number, count := some a.round }

/-- BLOCK-FAILED with cause ROUNDS of an active block (R47). -/
def failedOf (c : CircuitNo) (a : ActiveBlock) (tag : Option Word) : Event :=
  { kind := .blockFailed, circuit := some c, cause := some 0x0A, tag, block := some a.number, count := some a.round }

/-- BLOCK-FAILED with cause TOO-LARGE of a block that fails at its start, which uses no block number (R30, R47). -/
def tooLargeOf (c : CircuitNo) (x : Descriptor) : Event :=
  { kind := .blockFailed, circuit := some c, cause := some 0x0B, tag := x.tag, count := some x.pages.length }

/-! ### The checks of a candidate -/

/-- The header octets that a kind uses beside the kind code (R209). -/
def usedHeader (kind : Octet) : List Nat :=
  if kind = 0x01 then [1, 3, 4]
  else if kind = 0x02 ∨ kind = 0x03 then [1, 3]
  else if kind = 0x10 then [1, 2, 3, 4]
  else if kind = 0x11 then [1, 2, 3]
  else if kind = 0x12 ∨ kind = 0x13 then [1, 2, 3, 4]
  else if kind = 0x14 then [1, 2]
  else if kind = 0x15 ∨ kind = 0x19 ∨ kind = 0x1C then [1, 3]
  else if kind = 0x17 ∨ kind = 0x18 then [1, 3, 4]
  else if kind = 0x1A then [1, 3, 4, 5]
  else [1]

/-- A header and body with the header octets its kind does not use read as 0 (R181, R209). -/
def withoutUnused (octets : List Octet) : List Octet :=
  octets.mapIdx (fun i o => if 1 ≤ i ∧ i < 6 ∧ i ∉ usedHeader (octets.getD 0 0) then 0 else o)

/-- The codes of the sixteen frame kinds (R209). -/
def frameKinds : List Octet :=
  [0x01, 0x02, 0x03, 0x10, 0x11, 0x12, 0x13, 0x14, 0x15, 0x16, 0x17, 0x18, 0x19, 0x1A, 0x1B, 0x1C]

/-- A length, header and body without the CRC, that a kind may have (R181). -/
def lengthOfKind (kind : Octet) (n : Nat) : Prop :=
  if kind = 0x01 ∨ kind = 0x02 then n = 10
  else if kind = 0x10 then 8 ≤ n ∧ n ≤ 24
  else if kind = 0x17 then 7 ≤ n ∧ n ≤ 262
  else if kind = 0x1A then n = 6 ∨ n = 14
  else n = 6

/-! ### Descriptors and records as the exchanges leave them -/

/-- A freed descriptor: FREE, or RETURNING while one of its pages is pinned (R81). -/
def freed (s : State) (d : DescNo) : Descriptor :=
  if s.pinnedDescriptor = some d then { s.descriptor d with state := .returning } else Descriptor.free

/-- The send context after the close of the send side (R50). -/
def SendContext.closed (x : SendContext) : SendContext :=
  { x with sender := .stopped, queue := [], active := none, lastSent := none, pollCount := 0 }

/-- The send context after the rewind of the send side (R48): a returned block is at the head of the queue. -/
def SendContext.rewound (x : SendContext) : SendContext :=
  { x with
    sender := .stopped, queue := x.blocks, active := none, pollCount := 0, nextNumber := 0, peerReady := false
    lastSent := none }

/-- The receive context after the close of the receive side (R74): E, the last outcome and the delivery queue kept. -/
def RecvContext.closed (x : RecvContext) : RecvContext :=
  { x with assembly := none, announced := none, heldReported := false }

/-- The receive context after the rewind of the receive side (R73): the delivery queue kept. -/
def RecvContext.rewound (x : RecvContext) : RecvContext := { RecvContext.fresh with delivered := x.delivered }

/-- The record in CLOSED with a new close record (R9, R12, R50, R74). -/
def closedRecord (r : CircuitRecord) (cause diagnostic : Octet) (originator : Originator) (confirmed : Bool)
    (owed : Option ProtocolKind) : CircuitRecord :=
  { r with
    state := .closed, timer := none, retryCount := 0, note := none, transfer := none, answer := none
    openRequest := none, protocol := owed
    closeRecord := some { cause, diagnostic, originator, discarded := r.send.blocks.length, confirmed }
    send := r.send.closed, recv := r.recv.closed }

/-- A CLOSING record in CLOSED: its close record kept but for the confirmed flag (R10, R137, R139). -/
def closedFromClosing (r : CircuitRecord) (confirmed : Bool) (owed : Option ProtocolKind) : CircuitRecord :=
  { r with
    state := .closed, timer := none, retryCount := 0, note := none, transfer := none, answer := none, protocol := owed
    closeRecord := r.closeRecord.map (fun k => { k with confirmed := k.confirmed || confirmed }) }

/-- The record in CLOSING (R9, R12, R135). -/
def closingRecord (r : CircuitRecord) (cause diagnostic : Octet) (originator : Originator) (closeTimer : Nat) :
    CircuitRecord :=
  { r with
    state := .closing, timer := some { purpose := .close, remaining := closeTimer }, retryCount := 0, note := none
    transfer := none, answer := none, protocol := some .close
    closeRecord := some { cause, diagnostic, originator, discarded := r.send.blocks.length, confirmed := false }
    send := r.send.closed, recv := r.recv.closed }

/-- The record in REWINDING (R12, R48, R73, R143). -/
def rewindingRecord (r : CircuitRecord) (cause : Octet) (originator : Originator) (rewindTimer : Nat) :
    CircuitRecord :=
  { r with
    state := .rewinding, timer := some { purpose := .rewind, remaining := rewindTimer }, retryCount := 0
    note := some { cause, originator }, transfer := none, answer := none, protocol := some .rewind
    send := r.send.rewound, recv := r.recv.rewound }

/-- The record of a fixed circuit in DORMANT (R5, R12, R51, R75). -/
def dormantRecord (r : CircuitRecord) : CircuitRecord :=
  { r with
    state := .dormant, timer := none, retryCount := 0, note := none, protocol := none, transfer := none
    answer := none, maxSegments := r.fixedMaximum, send := r.send.rewound, recv := r.recv.rewound }

/-- The send context after a block of n segments has started (R30). -/
def SendContext.started (x : SendContext) (d : DescNo) (rest : List DescNo) (n : Nat) : SendContext :=
  { x with
    sender := .sending, queue := rest, pollCount := 0
    active := some
      { desc := d, number := x.nextNumber, count := n, acked := 0, toSend := BitVec.ofNat 64 (2 ^ n - 1), round := 1 } }

/-- The blocks at the head of a send queue that have more pages than max segments allows: a start fails them one after
the other (R30). -/
def State.failing (s : State) (limit : Nat) (queue : List DescNo) : List DescNo :=
  queue.takeWhile (fun d => decide (limit < (s.descriptor d).pages.length))

/-- The send queue from the first block that fits (R30). -/
def State.fitting (s : State) (limit : Nat) (queue : List DescNo) : List DescNo :=
  queue.dropWhile (fun d => decide (limit < (s.descriptor d).pages.length))

/-- The send context after an active block has been decided, with nothing queued behind it (R37). -/
def SendContext.advanced (x : SendContext) (a : ActiveBlock) (ready : Bool) : SendContext :=
  { x with
    sender := .idle, active := none, lastSent := some (a.number, a.count), nextNumber := x.nextNumber + 1
    peerReady := ready, pollCount := 0 }

/-- The send context a start decision leaves with peer-ready false: HELD with PROBE to be sent at once, or IDLE (R29,
R49). -/
def SendContext.resumed (x : SendContext) : SendContext :=
  if x.queue = [] then { x with sender := .idle } else { x with sender := .held, pollCount := 1 }

/-- The transfer class a resumption leaves: PROBE pending where blocks are queued (R29, R49). -/
def resumedTransfer (x : SendContext) : Option TransferKind := if x.queue = [] then none else some .probe

/-- A REWINDING record back in OPEN (R12, R49, R147, R148). -/
def reopenedRecord (r : CircuitRecord) (owed : Option ProtocolKind) : CircuitRecord :=
  { r with
    state := .opened, timer := none, retryCount := 0, note := none, protocol := owed
    transfer := if r.send.queue = [] then r.transfer else some .probe, send := r.send.resumed }

/-- An OPEN record rewound by a REWIND frame (R48, R49, R73, R146). -/
def rewoundRecord (r : CircuitRecord) : CircuitRecord :=
  { r with
    timer := if r.timer.any (fun t => decide (t.purpose = .status ∨ t.purpose = .probe)) then none else r.timer
    protocol := some .rewindDone, transfer := resumedTransfer r.send.rewound, answer := none
    send := r.send.rewound.resumed, recv := r.recv.rewound }

/-- A record at the link's leaving UP (R160). -/
def leftUpRecord (cause : Octet) (r : CircuitRecord) : CircuitRecord :=
  match r.kind, r.state with
  | some .dialled, .opening => closedRecord r cause 0 .part false none
  | some .dialled, .offered => closedRecord r cause 0 .part false none
  | some .dialled, .opened => closedRecord r cause 0 .part false none
  | some .dialled, .rewinding => closedRecord r cause 0 .part false none
  | some .dialled, .closing => closedFromClosing r false none
  | some .fixed, .opened => dormantRecord r
  | some .fixed, .rewinding => dormantRecord r
  | _, .closed => { r with protocol := none }
  | _, _ => r

/-- The event of a record at the link's leaving UP and at a peer restart (R132, R151, R160, R161): OPEN-FAILED of an
OPENING record, CLOSED of every other live dialled one, with the close record a CLOSING one already had. -/
def leftUpEvent (cause : Octet) (c : CircuitNo) (r : CircuitRecord) : Option Event :=
  match r.kind, r.state with
  | some .dialled, .opening => some (openFailedOf c r cause .part)
  | some .dialled, .offered => some (closedOf c r cause .part false r.send.blocks.length)
  | some .dialled, .opened => some (closedOf c r cause .part false r.send.blocks.length)
  | some .dialled, .rewinding => some (closedOf c r cause .part false r.send.blocks.length)
  | some .dialled, .closing => some
    { kind := .closed, circuit := some c
      cause := r.closeRecord.map CloseRecord.cause, originator := r.closeRecord.map CloseRecord.originator
      tag := some r.service, block := some (if r.closeRecord.any CloseRecord.confirmed then 1 else 0)
      count := r.closeRecord.map CloseRecord.discarded }
  | _, _ => none

/-- The events of all records at the link's leaving UP, in rising circuit number (R160, R161). -/
def State.leftUpEvents (s : State) (cause : Octet) : List Event :=
  (List.finRange 64).filterMap (fun c => leftUpEvent cause c (s.circuit c))

/-- A descriptor after the one record that holds it has left UP or met a peer restart (R48, R50, R73, R74, R160, R161):
the blocks of a dialled record that enters CLOSED are freed, and a fixed circuit's active block is QUEUED again and its
assembly freed. -/
def State.leftUpDescriptor (s : State) (r : CircuitRecord) (d : DescNo) : Descriptor :=
  let dropped : Descriptor :=
    if d ∈ r.send.blocks ∨ r.recv.assembly = some d then freed s d else s.descriptor d
  let requeued : Descriptor :=
    if r.recv.assembly = some d then freed s d
    else if r.send.active.map ActiveBlock.desc = some d then
      { s.descriptor d with state := .queued, blockNumber := none }
    else s.descriptor d
  match r.kind, r.state with
  | some .dialled, .opening => dropped
  | some .dialled, .offered => dropped
  | some .dialled, .opened => dropped
  | some .dialled, .rewinding => dropped
  | some .fixed, .opened => requeued
  | some .fixed, .rewinding => requeued
  | _, _ => s.descriptor d

/-- The blocks a record holds, as the close of both sides finds them: queued, active and assembling. -/
def CircuitRecord.holds (r : CircuitRecord) (d : DescNo) : Prop := d ∈ r.send.blocks ∨ r.recv.assembly = some d

/-- The descriptors after every record has left UP or met a peer restart: a descriptor that no record but c holds, and
c not both as active block and as assembly, is as c's move leaves it; so one that no record holds is unchanged. -/
def DescriptorsLeftUp (s t : State) : Prop :=
  ∀ (c : CircuitNo) (d : DescNo), (∀ e, e ≠ c → ¬ (s.circuit e).holds d) →
    ¬ ((s.circuit c).send.active.map ActiveBlock.desc = some d ∧ (s.circuit c).recv.assembly = some d) →
    t.descriptor d = s.leftUpDescriptor (s.circuit c) d

/-- What the link's leaving UP does (R160): every record moved, the loose-reply queue emptied, and, where the event
queue has room for them all, the records' events in rising circuit number and then LINK-DOWN. The descriptors of the
records moved are freed or queued again, and nothing else changes. -/
structure LeftUp (cause : Octet) (follows : LinkState) (s t : State) : Prop where
  records     : ∀ c, t.circuit c = { leftUpRecord cause (s.circuit c) with stale := (t.circuit c).stale }
  loose       : t.loose = []
  counted     : (s.leftUpEvents cause).length = s.liveDialledCount
  events      : s.events.length ≤ 62 →
    t.events = s.events ++ s.leftUpEvents cause ++ [
      { kind := .linkDown, cause := some cause, count := some s.liveDialledCount
        block := some (if follows = .stopping then 1 else if follows = .up then 2 else 0) }]
  stale       : s.events.length ≤ 62 → (∀ c, (t.circuit c).stale = (s.circuit c).stale) ∧ t.linkStale = s.linkStale
  descriptors : DescriptorsLeftUp s t
  others      : t = { s with
    circuits := t.circuits, loose := t.loose, events := t.events, linkStale := t.linkStale
    descriptors := t.descriptors, link := t.link, port := t.port }

/-! ### What a command leaves unchanged -/

/-- Everything is the same but circuit c's record, the descriptors, the loose-reply queue, the event queue, the
receiver, the Command Port and the model's counter of free values. -/
structure CircuitFrame (c : CircuitNo) (s t : State) : Prop where
  others     : ∀ d, d ≠ c → t.circuit d = s.circuit d
  listen     : t.listen = s.listen
  labels     : t.labels = s.labels
  allocPtr   : t.allocPtr = s.allocPtr
  memory     : t.memory = s.memory
  latch      : t.latch = s.latch
  link       : t.link = s.link
  lineReady  : t.lineReady = s.lineReady
  tx         : t.tx = s.tx
  line       : t.line = s.line
  controlPos : t.controlPos = s.controlPos
  dataPos    : t.dataPos = s.dataPos
  startUp    : t.startUp = s.startUp
  msCount    : t.msCount = s.msCount
  dataBus    : t.dataBus = s.dataBus
  linkStale  : t.linkStale = s.linkStale
  intEnable  : t.intEnable = s.intEnable
  pending    : t.pending = s.pending

/-- A frame of one circuit that leaves the receiver, the Command Port and the counter of free values the same as well:
what an arriving frame, an expiry or a transmission end of that circuit changes at most. -/
structure EngineFrame (c : CircuitNo) (s t : State) : Prop extends CircuitFrame c s t where
  receiver  : t.receiver = s.receiver
  port      : t.port = s.port
  freeCount : t.freeCount = s.freeCount

/-- With room in the event queue the event is appended, and no stale flag changes (R204). -/
def Raised (s t : State) (e : Event) : Prop :=
  s.events.length ≤ 126 →
    t.events = s.events ++ [e] ∧ t.linkStale = s.linkStale ∧ ∀ c, (t.circuit c).stale = (s.circuit c).stale

/-- Every block a record holds is freed, and no other descriptor changes (R50, R74). -/
def Dropped (r : CircuitRecord) (s t : State) : Prop :=
  ∀ d, (r.holds d → t.descriptor d = freed s d) ∧ (¬ r.holds d → t.descriptor d = s.descriptor d)

/-- The active block is QUEUED again without a number, the assembly is freed, and no other descriptor changes (R48,
R73). -/
def Requeued (r : CircuitRecord) (s t : State) : Prop :=
  ∀ d, ((∀ a, r.send.active = some a → a.desc ≠ d) → r.recv.assembly ≠ some d → t.descriptor d = s.descriptor d) ∧
    (∀ a, r.send.active = some a → a.desc = d → r.recv.assembly ≠ some d →
      t.descriptor d = { s.descriptor d with state := .queued, blockNumber := none }) ∧
    ((∀ a, r.send.active = some a → a.desc ≠ d) → r.recv.assembly = some d → t.descriptor d = freed s d)

/-- The start decision with the peer ready, on a record q of circuit c, the events `first` raised just before (R29, R30,
R47): every block at the head of the queue that is too large fails with BLOCK-FAILED and is freed; the first that fits
starts; and with none left the sender is IDLE. -/
structure HeadStarted (c : CircuitNo) (limit : Nat) (q : CircuitRecord) (first : List Event) (s t : State) : Prop where
  record      : t.circuit c = { q with
    stale := (t.circuit c).stale
    send :=
      match s.fitting limit q.send.queue with
      | [] => { q.send with sender := .idle, queue := [] }
      | d :: rest => q.send.started d rest (s.descriptor d).pages.length }
  descriptors : ∀ e, t.descriptor e =
    if e ∈ s.failing limit q.send.queue then freed s e
    else if (s.fitting limit q.send.queue).head? = some e then
      { s.descriptor e with state := .active, blockNumber := some q.send.nextNumber }
    else s.descriptor e
  events      : s.events.length + first.length + (s.failing limit q.send.queue).length ≤ 127 →
    t.events = s.events ++ first ++ (s.failing limit q.send.queue).map (fun d => tooLargeOf c (s.descriptor d)) ∧
      t.linkStale = s.linkStale ∧ ∀ d, (t.circuit d).stale = (s.circuit d).stale
  loose       : t.loose = s.loose

/-- A live dialled record that held a peer label used again is in CLOSED with cause STALE, one that was CLOSING with the
close record it already held (R107): its event is raised and its blocks are freed, as at the link's leaving UP. -/
structure EndedStale (c : CircuitNo) (s t : State) : Prop where
  frame       : EngineFrame c s t
  record      : t.circuit c = { leftUpRecord 0x08 (s.circuit c) with stale := (t.circuit c).stale }
  descriptors : ∀ d, t.descriptor d = s.leftUpDescriptor (s.circuit c) d
  loose       : t.loose = s.loose
  raised      : ∀ e, leftUpEvent 0x08 c (s.circuit c) = some e → Raised s t e

/-! ### The laws of the part's state -/

/-- The bounds of the queues and buffers: 128 events (R203), 4 loose replies (R105), 264 octets of a candidate (R180),
an allocation pointer from 1 to 255 (R98), and page memory in its canonical form. -/
structure BoundsLaw (s : State) : Prop where
  memory   : s.memory.wf = true
  events   : s.events.length ≤ Config.eventCapacity
  loose    : s.loose.length ≤ Config.looseCapacity
  receiver : s.receiver.buffer.length ≤ Config.receiverCapacity
  allocPtr : s.allocPtr ≠ 0

/-- The timer purposes of a circuit state (R11, R14). -/
def CircuitState.mayRun : CircuitState → TimerPurpose → Bool
  | .opening, .openT => true
  | .offered, .offer => true
  | .opened, .status => true
  | .opened, .probe => true
  | .closing, .close => true
  | .rewinding, .rewind => true
  | _, _ => false

/-- What a record holds in each state (R3, R4, R7, R9, R11, R12, R25, R141). -/
structure RecordLaw (r : CircuitRecord) : Prop where
  /-- A FREE record alone has no kind (R11). -/
  kind : r.kind = none ↔ r.state = .free
  /-- OPENING, OFFERED and CLOSING are states of dialled circuits (R11). -/
  dialled : r.state = .opening ∨ r.state = .offered ∨ r.state = .closing → r.kind = some .dialled
  /-- DORMANT is a state of fixed circuits (R11). -/
  dormant : r.state = .dormant → r.kind = some .fixed
  /-- A fixed circuit never has the give-up policy CLOSE (R6). -/
  policy : r.kind = some .fixed → r.policy ≠ some .close
  /-- The peer label is absent in OPENING and FREE, and present in every other state but CLOSED (R4, R11). -/
  peerAbsent : r.state = .opening ∨ r.state = .free → r.peerLabel = none
  peerPresent : r.state.holdsPeerLabel = true ∨ r.state = .dormant → r.peerLabel.isSome = true
  /-- The open request is present in OPENING alone (R7). -/
  openRequest : r.openRequest.isSome = true ↔ r.state = .opening
  /-- The close record is present in CLOSING and CLOSED alone (R9). -/
  closeRecord : r.closeRecord.isSome = true ↔ r.state = .closing ∨ r.state = .closed
  /-- The rewind note is present in REWINDING alone (R141). -/
  note : r.note.isSome = true ↔ r.state = .rewinding
  /-- A running timer has a purpose of the state (R11, R14). -/
  timer : ∀ t, r.timer = some t → r.state.mayRun t.purpose = true
  /-- The transfer and answer classes are empty outside OPEN (R12). -/
  transfer : r.state ≠ .opened → r.transfer = none
  answer : r.state ≠ .opened → r.answer = none
  /-- The sender is STOPPED in every state but OPEN, and only there (R25). -/
  sender : r.send.sender = .stopped ↔ r.state ≠ .opened
  /-- A block is active in SENDING, POLLING and ABANDONING alone (R25). -/
  active : r.send.active.isSome = true ↔
    r.send.sender = .sending ∨ r.send.sender = .polling ∨ r.send.sender = .abandoning
  /-- An IDLE sender has nothing queued, and a HELD sender has (R25). -/
  idle : r.send.sender = .idle → r.send.queue = []
  held : r.send.sender = .held → r.send.queue ≠ []
  /-- A REWINDING or DORMANT circuit takes its peer for not ready (R24, R44, R48). -/
  peerReady : r.state = .rewinding ∨ r.state = .dormant → r.send.peerReady = false
  /-- An OPEN is pending in OPENING alone (R116, log 32), and a REFUSE in no record (R123, R124, log 16). -/
  pendingOpen : r.protocol = some .openK → r.state = .opening
  pendingRefuse : r.protocol ≠ some .refuse

/-- Every record is lawful (R11). -/
def RecordsLaw (s : State) : Prop := ∀ c, RecordLaw (s.circuit c)

/-- The records agree with the link (R154): outside UP no circuit is OPENING, OFFERED, OPEN, REWINDING or CLOSING, and
in UP none is DORMANT. -/
def LinkLaw (s : State) : Prop :=
  ∀ c, (s.link.state ≠ .up → (s.circuit c).state.live = false) ∧
    (s.link.state = .up → (s.circuit c).state ≠ .dormant)

/-- Every page is in the free pool or in the page list of one descriptor (R77): no page is held twice, and every held
page exists. -/
def PagesLaw (s : State) : Prop := s.heldPages.Nodup ∧ ∀ p ∈ s.heldPages, p < Config.pageCount

/-- The circuits and labels name each other (R96): a record in use has a label from 1 to 255, bound to it with the
fixed flag of its kind, and a bound label is that of its record. -/
structure LabelsLaw (s : State) : Prop where
  record : ∀ c, (s.circuit c).state ≠ .free →
    (s.circuit c).localLabel ≠ 0 ∧
      s.label (s.circuit c).localLabel = .bound c (decide ((s.circuit c).kind = some .fixed))
  label : ∀ l c fixed, l ≠ 0 → s.label l = .bound c fixed →
    (s.circuit c).state ≠ .free ∧ (s.circuit c).localLabel = l

/-- What a circuit holds (R26, R53): at most 8 send blocks, at most its receive window of received blocks, a window of
at most 8, and no block while it is OFFERED (R26, R52, R103). -/
structure HoldingsLaw (s : State) : Prop where
  send     : ∀ c, (s.circuit c).send.blocks.length ≤ Config.sendCapacity
  received : ∀ c, (s.circuit c).receivedBlocks ≤ (s.circuit c).window
  window   : ∀ c, (s.circuit c).window ≤ 8
  listen   : ∀ (k : Fin 16) (e : ListenEntry), s.listen[k.val] = some e → e.window ≤ 8
  offered  : ∀ c, (s.circuit c).state = .offered →
    (s.circuit c).receivedBlocks = 0 ∧ (s.circuit c).send.blocks = []

/-- A record claims a peer label: OFFERED, OPEN, REWINDING, CLOSING or DORMANT (section 5.6). -/
def CircuitRecord.claims (r : CircuitRecord) (l : Label) : Prop :=
  (r.state.holdsPeerLabel = true ∨ r.state = .dormant) ∧ r.peerLabel = some l

/-- No two records claim one peer label (section 5.6). -/
def PeersLaw (s : State) : Prop := ∀ (c d : CircuitNo) (l : Label), (s.circuit c).claims l → (s.circuit d).claims l → c = d

/-- No two slots of the listen table hold entries for one service number (R112, R113). -/
def ListenLaw (s : State) : Prop :=
  ∀ (j k : Fin 16) (e f : ListenEntry), s.listen[j.val] = some e → s.listen[k.val] = some f → e.service = f.service →
    j = k

/-- Each descriptor's state names the one collection that holds it (R80), and the pin (R88). -/
structure CollectionsLaw (s : State) : Prop where
  /-- What a collection holds is in its state and belongs to its circuit. -/
  queued      : ∀ c, ∀ d ∈ (s.circuit c).send.queue, (s.descriptor d).state = .queued ∧ (s.descriptor d).circuit = some c
  active      : ∀ c a, (s.circuit c).send.active = some a →
    (s.descriptor a.desc).state = .active ∧ (s.descriptor a.desc).circuit = some c
  assembling  : ∀ c d, (s.circuit c).recv.assembly = some d →
    (s.descriptor d).state = .assembling ∧ (s.descriptor d).circuit = some c
  delivered   : ∀ c, ∀ d ∈ (s.circuit c).recv.delivered,
    (s.descriptor d).state = .delivered ∧ (s.descriptor d).circuit = some c
  /-- A descriptor in one of those states is in the collection of its circuit. -/
  ofQueued    : ∀ d, (s.descriptor d).state = .queued →
    ∃ c, (s.descriptor d).circuit = some c ∧ d ∈ (s.circuit c).send.queue
  ofActive    : ∀ d, (s.descriptor d).state = .active →
    ∃ c a, (s.descriptor d).circuit = some c ∧ (s.circuit c).send.active = some a ∧ a.desc = d
  ofAssembling : ∀ d, (s.descriptor d).state = .assembling →
    ∃ c, (s.descriptor d).circuit = some c ∧ (s.circuit c).recv.assembly = some d
  ofDelivered : ∀ d, (s.descriptor d).state = .delivered →
    ∃ c, (s.descriptor d).circuit = some c ∧ d ∈ (s.circuit c).recv.delivered
  /-- A queue holds a descriptor once. -/
  queueOnce   : ∀ c, (s.circuit c).send.queue.Nodup
  arrivedOnce : ∀ c, (s.circuit c).recv.delivered.Nodup
  /-- The pinned descriptor is QUEUED, ACTIVE or RETURNING, under a frame of a circuit, and a descriptor is RETURNING
  only while it is pinned (R88). -/
  pinned      : ∀ d, s.pinnedDescriptor = some d →
    (s.descriptor d).state = .queued ∨ (s.descriptor d).state = .active ∨ (s.descriptor d).state = .returning
  pinner      : ∀ x, s.tx = some x → x.pin ≠ none → ∃ c, x.owner = .circuit c
  returning   : ∀ d, (s.descriptor d).state = .returning → s.pinnedDescriptor = some d
  /-- A FREE descriptor has every field absent (R79, R94). -/
  free        : ∀ d, (s.descriptor d).state = .free → s.descriptor d = Descriptor.free
  /-- Records that have ended hold no block to send and no assembly, and a FREE or OFFERED one no delivered block. -/
  ended       : ∀ c, (s.circuit c).state = .free ∨ (s.circuit c).state = .offered ∨ (s.circuit c).state = .closing ∨
    (s.circuit c).state = .closed → (s.circuit c).send.blocks = [] ∧ (s.circuit c).recv.assembly = none
  unread      : ∀ c, (s.circuit c).state = .free ∨ (s.circuit c).state = .offered → (s.circuit c).recv.delivered = []

end Sys2Proof.Machine
end

