-- ==== Sys2Proof/Certificates/Slice0/Obligations.lean ====
section
/-! DEFINITION. The statements for the provers. OBLIGATIONS.json lists them with the rules they come from. -/

section

open Sys2Proof Sys2Proof.Machine

/-! ### The machine -/

/-- A step with a command in the queue is that command's effect on the state with the queue's rest. -/
def Obligations.StepRunsTheFrontCommand : Prop :=
  ∀ (s : State) (c : Instr) (rest : List Instr), s.pending = c :: rest → step s = exec c { s with pending := rest }

/-- On an empty queue one millisecond passes (the model's choice, log 1). In the start-up period nothing happens.
Where no circuit or link timer is about to expire, every remaining time falls by one, a rest time that reaches zero
makes its label FREE, and the millisecond count rises by one; where one circuit timer alone is about to expire, the
step is the row of that expiry on the state one millisecond later. -/
def Obligations.AMillisecondPassesOnAnEmptyQueue : Prop :=
  ∀ s : State, s.pending = [] →
    let later : State := { s with
      msCount := s.msCount + 1
      circuits := s.circuits.map (fun r =>
        { r with timer := r.timer.map (fun t => { t with remaining := t.remaining - 1 }) })
      labels := s.labels.map (fun e =>
        match e with
        | .resting n => if n ≤ 1 then .free else .resting (n - 1)
        | .free => .free
        | .bound c fixed => .bound c fixed)
      link := { s.link with timer := s.link.timer.map (fun t => { t with remaining := t.remaining - 1 }) } }
    (s.startUp = true → step s = .next s) ∧
    (s.startUp = false → (∀ t, s.link.timer = some t → 2 ≤ t.remaining) →
      ((∀ c t, (s.circuit c).timer = some t → 2 ≤ t.remaining) → step s = .next later) ∧
      (∀ (c : CircuitNo) (purpose : TimerPurpose), (s.circuit c).timer = some { purpose, remaining := 1 } →
        (∀ d t, d ≠ c → (s.circuit d).timer = some t → 2 ≤ t.remaining) →
        step s = exec (expiryRow c purpose) later))

/-- The values hardware reset leaves, as the start-up period begins; the RESET input, which gives every block those
values and begins the period; and the period's end, which makes the port IDLE, page memory zero and the millisecond
count 0. The model's choices: page memory of the reset state reads zero already (log 8: the spec gives zero from the
end of the period), and at the RESET input the level of LRDY stays (log 6), page memory stays until the period's end
(log 8), the data bus is 0 (log 14) and the model's own fields stay (log 24). -/
def Obligations.HardwareResetLeavesTheGivenValues : Prop :=
  ((∀ c, State.reset.circuit c = CircuitRecord.free false) ∧
  (∀ k : Fin 16, State.reset.listen[k.val] = none) ∧
  (∀ l : Label, l ≠ 0 → State.reset.label l = .free) ∧ State.reset.allocPtr = 1 ∧ State.reset.loose = [] ∧
  (∀ d, State.reset.descriptor d = Descriptor.free) ∧ (∀ p, p < 1024 → State.reset.pageFree p = true) ∧
  (∀ a, State.reset.memory.read a = 0) ∧ State.reset.latch = none ∧ State.reset.link.state = .down ∧
  State.reset.link.config =
    { identity := 0, offered := 64, startInterval := 1000, stopTimer := 1000, reserve := 64, openTimer := 5000
      offerTimer := 3000, statusTimer := 400, pollLimit := 3, probeInterval := 1000, closeTimer := 2000
      closeRetries := 2, rewindTimer := 2000, rewindRetries := 2, restTime := 2000 } ∧
  State.reset.link.ownStart = 0 ∧ State.reset.link.agreed = none ∧
  State.reset.link.peerIdentity = none ∧ State.reset.link.peerStart = none ∧ State.reset.link.stopKind = none ∧
  State.reset.link.timer = none ∧ State.reset.link.pending = none ∧ State.reset.link.looped = false ∧
  State.reset.link.lastStopCause = 0 ∧ State.reset.receiver.phase = .hunt ∧ State.reset.tx = none ∧
  State.reset.line = .idleFill ∧ State.reset.controlPos = 63 ∧ State.reset.dataPos = 63 ∧
  State.reset.port.state = .busy ∧ State.reset.port.command = 0 ∧ State.reset.port.params = Vector.replicate 8 0 ∧
  State.reset.port.results = Vector.replicate 8 0 ∧ State.reset.port.result = .ok ∧
  State.reset.port.collide = false ∧ State.reset.startUp = true ∧ State.reset.events = [] ∧
  State.reset.linkStale = false ∧ State.reset.intEnable = false ∧ State.reset.intAsserted = false) ∧
  ∀ s : State,
    exec .hardwareReset s = .next { State.reset with
      lineReady := s.lineReady, memory := s.memory, freeCount := s.freeCount, pending := s.pending } ∧
    (s.startUp = true → exec .startUpEnd s = .next { s with
      startUp := false, memory := [], msCount := 0, port := { s.port with state := .idle } })

/-! ### The Command Port -/

/-- Each of the 24 commands is taken at one moment: the port becomes DONE, COMMAND, the PARAM registers and the
collide flag stay, and page memory, the clock, the interrupt enable and the receiver are not touched. -/
def Obligations.EveryStartedCommandIsTaken : Prop :=
  ∀ (c : Instr) (s : State), Started c s →
    ∃ t, exec c s = .next t ∧ t.port.state = .done ∧ t.port.command = s.port.command ∧
      t.port.params = s.port.params ∧ t.port.collide = s.port.collide ∧ t.memory = s.memory ∧
      t.startUp = false ∧ t.msCount = s.msCount ∧ t.dataBus = s.dataBus ∧ t.intEnable = s.intEnable ∧
      t.lineReady = s.lineReady ∧ t.receiver = s.receiver ∧ t.pending = s.pending

/-- A command that ends with any code but OK has changed nothing outside the Command Port, and its RESULT registers
are zero. A command for a circuit in use that names none ends with BAD-CIRCUIT. Each command has the code of
the table, and no other code from 0000h to FFFFh names one; a started code that names none ends with UNKNOWN-COMMAND,
and no other state of the part is touched. -/
def Obligations.RefusedCommandChangesNothing : Prop :=
  (∀ (c : Instr) (s t : State), Started c s → exec c s = .next t → t.port.result ≠ .ok →
    t = { s with port := donePort s.port t.port.result [] }) ∧
  (∀ (c : Instr) (s : State), Started c s →
    c ∈ [.answer, .closeCommand, .rewindCommand, .retire, .unfix, .setCircuit, .take] →
    (∀ n, ¬ NamesCircuit s 0 n) → exec c s = refusedWith s .badCircuit) ∧
  (∀ s : State, Started .submit s → (∀ n, ¬ NamesCircuit s 1 n) → exec .submit s = refusedWith s .badCircuit) ∧
  (∀ s : State, Started .readCircuit s → 63 < s.param 0 → exec .readCircuit s = refusedWith s .badCircuit) ∧
  (∀ p : Instr × Word, p ∈
    [(.setLink, 0x01), (.readLink, 0x02), (.startLink, 0x03), (.stopLink, 0x04), (.listen, 0x05), (.unlisten, 0x06),
     (.openCommand, 0x07), (.answer, 0x08), (.closeCommand, 0x09), (.rewindCommand, 0x0A), (.retire, 0x0B),
     (.fix, 0x0C), (.unfix, 0x0D), (.readCircuit, 0x0E), (.setCircuit, 0x0F), (.alloc, 0x10), (.freeCommand, 0x11),
     (.submit, 0x12), (.take, 0x13), (.readDescriptor, 0x14), (.readPool, 0x15), (.initialise, 0x16),
     (.readListen, 0x17), (.readLabel, 0x18)] → commandCode p.1 = some p.2) ∧
  (∀ w : Word, (∃ c, commandCode c = some w) ↔ 1 ≤ w.toNat ∧ w.toNat ≤ 0x18) ∧
  (∀ c d : Instr, ∀ w, commandCode c = some w → commandCode d = some w → c = d) ∧
  ∀ s : State, s.port.state = .busy → s.startUp = false → (s.port.command = 0 ∨ 0x18 < s.port.command.toNat) →
    exec .unknownCommand s = refusedWith s .unknownCommand

/-- A write to COMMAND starts a command in IDLE and DONE, clearing the collide flag, the result code and the RESULT
registers; a write to a word of a PARAM register changes that word only; in BUSY both are ignored and set the collide
flag. A write to RESULT, PORT STATUS or an offset not in the table is ignored in every port state. A read gives
the register's word: COMMAND, PORT STATUS with the port state, the collide flag and the result code in their bits, the
interrupt enable, the halves of the PARAM and RESULT registers, the event count, and the words of the head entry with
zero for a field it does not carry; zero at every other offset, and in EVENT HEAD while the queue is empty. The codes of
results, event kinds and values are those of the tables of chapter 12; a parameter is the value of its register or one
octet of it, and the result values stand from RESULT 0 on, the rest zero. -/
def Obligations.RegisterWindowWritesAndReads : Prop :=
  (∀ (s : State) (value : Word),
    let collided : State := { s with port := { s.port with collide := true } }
    (s.port.state ≠ .busy → exec (.registerWrite 0 value) s = .next { s with
      port := { s.port with
        state := .busy, command := value, collide := false, result := .ok, results := Vector.replicate 8 0 } }) ∧
    (s.port.state = .busy → exec (.registerWrite 0 value) s = .next collided) ∧
    (∀ (i : Fin 8) (high : Bool),
      let address : WordAddress := BitVec.ofNat 17 (8 + 2 * i.val + (if high then 1 else 0))
      let old := s.port.params[i.val]
      let new : Reg := if high then value ++ old.extractLsb' 0 16 else old.extractLsb' 16 16 ++ value
      (s.port.state = .busy → exec (.registerWrite address value) s = .next collided) ∧
      (s.port.state ≠ .busy → exec (.registerWrite address value) s = .next { s with
        port := { s.port with params := s.port.params.set i.val new } })) ∧
    (∀ address : WordAddress, address = 1 ∨ (3 ≤ address.toNat ∧ address.toNat ≤ 7) ∨
        (24 ≤ address.toNat ∧ address ≠ 49) → exec (.registerWrite address value) s = .next s)) ∧
  ∀ s : State,
    let half (r : Reg) (high : Bool) : Word := if high then r.extractLsb' 16 16 else r.extractLsb' 0 16
    s.readRegister 0 = s.port.command ∧
    (s.readRegister 1).toNat = (match s.port.state with | .idle => 0 | .busy => 1 | .done => 2) +
      (if s.port.collide then 4 else 0) + 256 * s.port.result.code ∧
    s.readRegister 2 = (if s.intEnable then 1 else 0) ∧
    (∀ (i : Fin 8) (high : Bool),
      s.readRegister (BitVec.ofNat 17 (8 + 2 * i.val + (if high then 1 else 0))) = half s.port.params[i.val] high ∧
      s.readRegister (BitVec.ofNat 17 (24 + 2 * i.val + (if high then 1 else 0))) = half s.port.results[i.val] high) ∧
    s.readRegister 48 = BitVec.ofNat 16 s.events.length ∧
    (∀ k, k < 8 →
      (s.events = [] → s.readRegister (BitVec.ofNat 17 (56 + k)) = 0) ∧
      (∀ e rest, s.events = e :: rest → s.readRegister (BitVec.ofNat 17 (56 + k)) = BitVec.ofNat 16
        (match k with
          | 0 => e.kind.code + 256 * codeOf (fun c => c.val) e.circuit
          | 1 => codeOf BitVec.toNat e.cause + 256 * codeOf Originator.code e.originator
          | 2 => codeOf BitVec.toNat e.tag
          | 3 => codeOf BitVec.toNat e.block
          | 4 => codeOf id e.count
          | 5 => codeOf id e.page
          | _ => 0))) ∧
    (∀ address : WordAddress, (3 ≤ address.toNat ∧ address.toNat ≤ 7) ∨ (40 ≤ address.toNat ∧ address.toNat ≤ 47) ∨
      (49 ≤ address.toNat ∧ address.toNat ≤ 55) ∨ 64 ≤ address.toNat → s.readRegister address = 0) ∧
    (∀ i : Fin 8, s.param i.val = s.port.params[i.val].toNat ∧
      (∀ k, k < 4 → (s.paramOctet i.val k).toNat = s.port.params[i.val].toNat / 256 ^ k % 256) ∧
      ∀ values : List Nat, (resultRegisters values)[i.val] = BitVec.ofNat 32 (values.getD i.val 0)) ∧
    (∀ p : ResultCode × Nat, p ∈
      [(.ok, 0x00), (.unknownCommand, 0x01), (.badParam, 0x02), (.badCircuit, 0x03), (.badState, 0x04),
       (.linkNotUp, 0x05), (.noSlot, 0x06), (.noLabel, 0x07), (.noPages, 0x08), (.noDescriptor, 0x09),
       (.queueFull, 0x0A), (.badDescriptor, 0x0B), (.empty, 0x0C), (.lineNotReady, 0x0D)] → p.1.code = p.2) ∧
    (∀ p : EventKind × Nat, p ∈
      [(.linkUp, 0x01), (.linkDown, 0x02), (.looped, 0x03), (.opened, 0x04), (.openFailed, 0x05), (.offer, 0x06),
       (.rewound, 0x07), (.blockSent, 0x08), (.blockFailed, 0x09), (.blockArrived, 0x0A), (.accessFault, 0x0B),
       (.overflow, 0x0C), (.closed, 0x0D)] → p.1.code = p.2) ∧
    (∀ p : CircuitState × Nat, p ∈
      [(.free, 0), (.opening, 1), (.offered, 2), (.opened, 3), (.rewinding, 4), (.closing, 5), (.closed, 6),
       (.dormant, 7)] → p.1.code = p.2) ∧
    (∀ p : CircuitKind × Nat, p ∈ [(.dialled, 1), (.fixed, 2)] → p.1.code = p.2) ∧
    (∀ p : Role × Nat, p ∈ [(.initiator, 1), (.responder, 2)] → p.1.code = p.2) ∧
    (∀ p : Policy × Nat, p ∈ [(.abandon, 1), (.rewind, 2), (.close, 3)] → p.1.code = p.2) ∧
    (∀ p : ListenPolicy × Nat, p ∈ [(.auto, 1), (.refer, 2)] → p.1.code = p.2 ∧ listenPolicyOf p.2 = some p.1) ∧
    (∀ code, code ≠ 1 → code ≠ 2 → listenPolicyOf code = none) ∧
    (∀ p : Originator × Nat, p ∈ [(.local, 1), (.peer, 2), (.part, 3)] → p.1.code = p.2) ∧
    (∀ p : TimerPurpose × Nat, p ∈
      [(.openT, 1), (.offer, 2), (.status, 3), (.probe, 4), (.close, 5), (.rewind, 6)] → p.1.code = p.2) ∧
    (∀ p : SenderState × Nat, p ∈
      [(.idle, 0), (.sending, 1), (.polling, 2), (.abandoning, 3), (.held, 4), (.stopped, 5)] → p.1.code = p.2) ∧
    (∀ p : LastOutcome × Nat, p ∈ [(.none, 0), (.complete, 2), (.abandoned, 3)] → p.1.code = p.2) ∧
    (∀ p : DescState × Nat, p ∈
      [(.free, 0), (.filling, 1), (.queued, 2), (.active, 3), (.assembling, 4), (.delivered, 5), (.held, 6),
       (.returning, 7)] → p.1.code = p.2) ∧
    (∀ (c : CircuitNo) (fixed : Bool) (n : Nat), LabelEntry.free.code = 0 ∧ (LabelEntry.bound c fixed).code = 1 ∧
      (LabelEntry.resting n).code = 2) ∧
    (∀ p : LinkState × Nat, p ∈ [(.down, 0), (.starting, 1), (.up, 2), (.stopping, 3)] → p.1.code = p.2) ∧
    (∀ p : StopKind × Nat, p ∈ [(.local, 1), (.answering, 2)] → p.1.code = p.2) ∧
    (∀ p : LinkPurpose × Nat, p ∈ [(.start, 1), (.stop, 2)] → p.1.code = p.2) ∧
    (∀ cause : Octet, PendingLink.linkStart.code = 0x01 ∧ PendingLink.linkAgree.code = 0x02 ∧
      (PendingLink.linkStop cause).code = 0x03) ∧
    (∀ cause diagnostic : Octet, (LooseBody.refuse cause diagnostic).code = 0x12 ∧
      (LooseBody.close cause diagnostic).code = 0x13 ∧ LooseBody.closeDone.code = 0x14) ∧
    flagCode false = 0 ∧ flagCode true = 1

/-- A write to PORT CONTROL sets the interrupt enable to its bit 0. A write to EVENT POP removes the head entry, and
is ignored on an empty queue. INT is asserted exactly while the queue holds an entry and the enable is set. An event
joins the tail below 127 entries; at 127 an OVERFLOW entry takes the last place, and at 128 the event is dropped, and
in both the stale flag it concerns is set. -/
def Obligations.EventsQueueInOrderAndOverflowOnce : Prop :=
  (∀ (s : State) (value : Word), exec (.portControlWrite value) s = .next { s with intEnable := value.getLsbD 0 }) ∧
  (∀ s : State, (s.events = [] → exec .eventPop s = .next s) ∧
    (∀ e rest, s.events = e :: rest → exec .eventPop s = .next { s with events := rest }) ∧
    (s.intAsserted = true ↔ s.events ≠ [] ∧ s.intEnable = true)) ∧
  ∀ (s : State) (e : Event),
    let overflowed : List Event := s.events ++ [{ kind := .overflow }]
    (s.events.length ≤ 126 → s.raise e = { s with events := s.events ++ [e] }) ∧
    (∀ c, e.circuit = some c →
      let marked := s.circuits.set c.val { s.circuit c with stale := true }
      (s.events.length = 127 → s.raise e = { s with circuits := marked, events := overflowed }) ∧
      (s.events.length = 128 → s.raise e = { s with circuits := marked })) ∧
    (e.circuit = none →
      (s.events.length = 127 → s.raise e = { s with linkStale := true, events := overflowed }) ∧
      (s.events.length = 128 → s.raise e = { s with linkStale := true }))

/-! ### The link's commands -/

/-- SET-LINK replaces one whole group of the configuration while the link is DOWN; a group above 2, another link
state or a value out of its range is refused, in that order. -/
def Obligations.SetLinkReplacesAWholeGroup : Prop :=
  ∀ s : State, Started .setLink s →
    let time (v lo hi : Nat) : Prop := lo ≤ v ∧ v ≤ hi ∧ v % 10 = 0
    let good0 : Prop := s.param 1 ≤ 65535 ∧ (1 ≤ s.param 2 ∧ s.param 2 ≤ 64) ∧ time (s.param 3) 100 10000 ∧
      time (s.param 4) 100 10000 ∧ s.param 5 ≤ 512
    let good1 : Prop := time (s.param 1) 500 60000 ∧ time (s.param 2) 100 60000 ∧ time (s.param 3) 50 5000 ∧
      (1 ≤ s.param 4 ∧ s.param 4 ≤ 7) ∧ time (s.param 5) 100 10000
    let good2 : Prop := time (s.param 1) 100 10000 ∧ s.param 2 ≤ 7 ∧ time (s.param 3) 100 10000 ∧
      s.param 4 ≤ 7 ∧ time (s.param 5) 0 60000
    let sets (g : LinkConfig) : Prop := exec .setLink s = answers { s with link := { s.link with config := g } } []
    (2 < s.param 0 → exec .setLink s = refusedWith s .badParam) ∧
    (s.param 0 ≤ 2 → s.link.state ≠ .down → exec .setLink s = refusedWith s .badState) ∧
    (s.link.state = .down →
      (s.param 0 = 0 → good0 → sets { s.link.config with
        identity := BitVec.ofNat 16 (s.param 1), offered := s.param 2, startInterval := s.param 3
        stopTimer := s.param 4, reserve := s.param 5 }) ∧
      (s.param 0 = 1 → good1 → sets { s.link.config with
        openTimer := s.param 1, offerTimer := s.param 2, statusTimer := s.param 3, pollLimit := s.param 4
        probeInterval := s.param 5 }) ∧
      (s.param 0 = 2 → good2 → sets { s.link.config with
        closeTimer := s.param 1, closeRetries := s.param 2, rewindTimer := s.param 3, rewindRetries := s.param 4
        restTime := s.param 5 }) ∧
      (s.param 0 = 0 ∧ ¬ good0 ∨ s.param 0 = 1 ∧ ¬ good1 ∨ s.param 0 = 2 ∧ ¬ good2 →
        exec .setLink s = refusedWith s .badParam))

/-- READ-LINK reports its four views and changes nothing but the link stale flag, which view 0 clears. READ-CIRCUIT
reports the six views of a record in use; a FREE record reads as zero but for its stale flag in view 0; view 0 clears
the stale flag, and nothing else changes. The register of each value and presence indication is the model's reading of
the result tables (log 18). -/
def Obligations.ReadLinkAndReadCircuitReportTheirViews : Prop :=
  (∀ s : State, Started .readLink s →
    let g := s.link.config
    (s.param 0 = 0 → exec .readLink s = answers { s with linkStale := false }
      [s.link.state.code + 256 * codeOf StopKind.code s.link.stopKind + 65536 * flagCode s.lineReady,
       s.link.ownStart.toNat, codeOf id s.link.agreed, codeOf BitVec.toNat s.link.peerIdentity,
       codeOf BitVec.toNat s.link.peerStart,
       16777216 * codeOf (fun t => t.purpose.code) s.link.timer + codeOf (fun t => t.remaining) s.link.timer,
       codeOf PendingLink.code s.link.pending + 256 * s.link.lastStopCause.toNat,
       flagCode s.link.looped + 256 * flagCode s.linkStale]) ∧
    (s.param 0 = 1 → exec .readLink s =
      answers s [g.identity.toNat, g.offered, g.startInterval, g.stopTimer, g.reserve]) ∧
    (s.param 0 = 2 → exec .readLink s =
      answers s [g.openTimer, g.offerTimer, g.statusTimer, g.pollLimit, g.probeInterval]) ∧
    (s.param 0 = 3 → exec .readLink s =
      answers s [g.closeTimer, g.closeRetries, g.rewindTimer, g.rewindRetries, g.restTime]) ∧
    (3 < s.param 0 → exec .readLink s = refusedWith s .badParam)) ∧

  ∀ (s : State) (c : CircuitNo), Started .readCircuit s → s.param 0 = c.val →
    let r := s.circuit c
    let terms := r.openRequest.or r.offer
    let octets := (terms.map OpenTerms.data).getD []
    let cleared : State := { s with circuits := s.circuits.set c.val { r with stale := false } }
    let reads (view : Nat) (values : List Nat) : Prop := s.param 1 = view → exec .readCircuit s = answers s values
    (5 < s.param 1 → exec .readCircuit s = refusedWith s .badParam) ∧
    (r.state = .free →
      (s.param 1 = 0 → exec .readCircuit s = answers cleared [0, 0, 0, 0, 0, 0, flagCode r.stale, 0]) ∧
      (1 ≤ s.param 1 → s.param 1 ≤ 5 → exec .readCircuit s = answers s [])) ∧
    (r.state ≠ .free →
      (s.param 1 = 0 → exec .readCircuit s = answers cleared
        [r.state.code, codeOf CircuitKind.code r.kind, codeOf Role.code r.role, r.localLabel.toNat,
         codeOf BitVec.toNat r.peerLabel, r.service.toNat, flagCode r.stale,
         16777216 * codeOf (fun t => t.purpose.code) r.timer + codeOf (fun t => t.remaining) r.timer]) ∧
      reads 1
        [codeOf id r.maxSegments, codeOf id r.fixedMaximum, r.roundLimit, codeOf Policy.code r.policy, r.window,
         r.retryCount, codeOf (fun x => x.requested) terms, octets.length] ∧
      reads 2
        [r.send.sender.code, r.send.queue.length, codeOf (fun a => a.number.toNat) r.send.active,
         codeOf (fun a => a.count) r.send.active, codeOf (fun a => a.round) r.send.active,
         if r.send.active.isSome then r.send.pollCount else 0, r.send.nextNumber.toNat,
         flagCode r.send.peerReady] ∧
      reads 3
        [r.recv.expected.toNat, r.recv.lastOutcome.code, flagCode r.recv.assembly.isSome,
         codeOf (fun d => (s.descriptor d).slots.length) r.recv.assembly, codeOf id r.recv.announced,
         r.recv.delivered.length, flagCode r.recv.heldReported,
         flagCode (decide (r.recv.delivered.length < r.window))] ∧
      reads 4
        [flagCode r.closeRecord.isSome, codeOf (fun k => k.cause.toNat) r.closeRecord,
         codeOf (fun k => k.diagnostic.toNat) r.closeRecord, codeOf (fun k => k.originator.code) r.closeRecord,
         codeOf (fun k => k.discarded) r.closeRecord, codeOf (fun k => flagCode k.confirmed) r.closeRecord] ∧
      reads 5 (octets.length :: (List.range 4).map (fun k =>
        (octets.getD (4 * k) 0).toNat + 256 * (octets.getD (4 * k + 1) 0).toNat +
          65536 * (octets.getD (4 * k + 2) 0).toNat + 16777216 * (octets.getD (4 * k + 3) 0).toNat)))

/-- START-LINK in DOWN with line-ready high enters STARTING with LINK-START pending, the START timer, and an own
start number that is the millisecond count modulo 65536, or one more if that number was already held. STOP-LINK is
refused in DOWN and STOPPING; from STARTING the link is DOWN at once; from UP the link leaves UP and enters STOPPING,
stop kind LOCAL, with LINK-STOP LOCAL pending. The model's choice: in STOPPING the agreed max segments, the peer
identity and the peer start number stay as they were (log 11). -/
def Obligations.StartLinkAndStopLinkMoveTheLink : Prop :=
  (∀ s : State, Started .startLink s →
    (s.link.state ≠ .down → exec .startLink s = refusedWith s .badState) ∧
    (s.link.state = .down → s.lineReady = false → exec .startLink s = refusedWith s .lineNotReady) ∧
    (s.link.state = .down → s.lineReady = true → ∀ n : Word,
      n = (if s.msCount % 65536 = s.link.ownStart.toNat then BitVec.ofNat 16 (s.msCount + 1)
        else BitVec.ofNat 16 s.msCount) →
      n ≠ s.link.ownStart ∧
      exec .startLink s = answers { s with
        link := { s.link with
          state := .starting, ownStart := n, looped := false, pending := some .linkStart
          timer := some { purpose := .start, remaining := s.link.config.startInterval } } } [n.toNat])) ∧
  (∀ s : State, Started .stopLink s →
    (s.link.state = .down ∨ s.link.state = .stopping → exec .stopLink s = refusedWith s .badState) ∧
    (s.link.state = .starting → exec .stopLink s = answers { s with link := s.link.downed } [0]) ∧
    (s.link.state = .up → ∃ t, exec .stopLink s = .next t ∧ LeftUp 0x0D .stopping s t ∧
      t.link = { s.link with
        state := .stopping, stopKind := some .local, pending := some (.linkStop 0x01)
        timer := some { purpose := .stop, remaining := s.link.config.stopTimer } } ∧
      t.port = donePort s.port .ok [3]))

/-! ### The listen table -/

/-- LISTEN writes the slot that holds the service number, or the lowest empty one; UNLISTEN empties it; READ-LISTEN
reports a slot. The model's choices: a service number above 65535 is BAD-PARAM (log 10), and the register of each value
READ-LISTEN reports is the model's reading of the result tables (log 18). -/
def Obligations.ListenTableCommandsKeepOneEntryEach : Prop :=
  ∀ s : State,
    let holds (k : Fin 16) : Prop := ∃ e, s.listen[k.val] = some e ∧ e.service.toNat = s.param 0
    let first (k : Fin 16) : Prop := holds k ∧ ∀ j : Fin 16, j < k → ¬ holds j
    (∀ (limits : Limits) (policy : ListenPolicy), Started .listen s →
      1 ≤ s.param 0 → s.param 0 ≤ 65535 → listenPolicyOf (s.param 1) = some policy → s.param 2 ≤ 64 →
      limitsOf (s.param 4) (s.param 5) (s.param 3) false = some limits →
      (∀ k : Fin 16, first k ∨
          ((∀ j : Fin 16, ¬ holds j) ∧ s.listen[k.val] = none ∧ ∀ j : Fin 16, j < k → s.listen[j.val] ≠ none) →
        exec .listen s = answers { s with
          listen := s.listen.set k.val (some
            { service := BitVec.ofNat 16 (s.param 0), policy
              maxSegments := if s.param 2 = 0 then 64 else s.param 2, window := limits.window
              roundLimit := limits.roundLimit, giveUp := limits.policy }) } [k.val]) ∧
      ((∀ j : Fin 16, ¬ holds j ∧ s.listen[j.val] ≠ none) → exec .listen s = refusedWith s .noSlot)) ∧
    (Started .listen s → (s.param 0 = 0 ∨ 65535 < s.param 0 ∨ listenPolicyOf (s.param 1) = none ∨ 64 < s.param 2 ∨
      limitsOf (s.param 4) (s.param 5) (s.param 3) false = none) → exec .listen s = refusedWith s .badParam) ∧
    (Started .unlisten s →
      (∀ k : Fin 16, first k → exec .unlisten s = answers { s with listen := s.listen.set k.val none } []) ∧
      ((∀ j : Fin 16, ¬ holds j) → exec .unlisten s = refusedWith s .badParam)) ∧
    (Started .readListen s →
      let occupied := (s.listen.toList.filter Option.isSome).length
      (∀ k : Fin 16, s.param 0 = k.val →
        (s.listen[k.val] = none → exec .readListen s = answers s [0, 0, 0, 0, 0, 0, 0, occupied]) ∧
        (∀ e, s.listen[k.val] = some e → exec .readListen s = answers s
          [1, e.service.toNat, e.policy.code, e.maxSegments, e.window, e.roundLimit, e.giveUp.code, occupied])) ∧
      (15 < s.param 0 → exec .readListen s = refusedWith s .badParam))

/-- The field checks: a round limit of 0 selects 4 and one above 15 is refused; a receive window of 0 selects 2 and
one above 8 is refused; a policy code of 0 selects ABANDON, and a code that names none, or CLOSE for a fixed circuit,
is refused. -/
def Obligations.FieldChecksSelectDefaults : Prop :=
  ∀ (roundLimit policy window : Nat) (fixed : Bool),
    let name : Policy := if policy ≤ 1 then .abandon else if policy = 2 then .rewind else .close
    let good : Prop := roundLimit ≤ 15 ∧ window ≤ 8 ∧ policy ≤ 3 ∧ ¬ (policy = 3 ∧ fixed = true)
    (good → limitsOf roundLimit policy window fixed = some
      { roundLimit := if roundLimit = 0 then 4 else roundLimit, policy := name
        window := if window = 0 then 2 else window }) ∧
    (¬ good → limitsOf roundLimit policy window fixed = none)

/-! ### The Circuit Controller's commands -/

/-- OPEN with every check passed creates an OPENING record in the lowest FREE slot, with an allocated label, an open
request, OPEN pending and the OPEN timer; the checks before are refused in their order. The model's choice: a service
number above 65535 is BAD-PARAM (log 10). -/
def Obligations.OpenCommandCreatesAnOpeningRecord : Prop :=
  ∀ s : State, Started .openCommand s →
    let asked := (s.paramOctet 1 0).toNat
    let badFields : Prop := s.param 0 = 0 ∨ 65535 < s.param 0 ∨ 64 < asked ∨ 16 < s.param 2
    let checked := limitsOf (s.paramOctet 1 2).toNat (s.paramOctet 1 3).toNat (s.paramOctet 1 1).toNat false
    let agreed := s.link.agreed.getD 0
    (badFields ∨ checked = none → exec .openCommand s = refusedWith s .badParam) ∧
    (∀ limits, ¬ badFields → checked = some limits →
      (s.link.state ≠ .up → exec .openCommand s = refusedWith s .linkNotUp) ∧
      (s.link.state = .up → agreed < asked → exec .openCommand s = refusedWith s .badParam) ∧
      (s.link.state = .up → asked ≤ agreed →
        (s.lowestFreeCircuit = none → exec .openCommand s = refusedWith s .noSlot) ∧
        (s.lowestFreeCircuit ≠ none → s.scanFreeLabel = none → exec .openCommand s = refusedWith s .noLabel) ∧
        (∀ (c : CircuitNo) (l : Label), s.lowestFreeCircuit = some c → s.scanFreeLabel = some l →
          exec .openCommand s = answers { s with
            circuits := s.circuits.set c.val
              { CircuitRecord.free (s.circuit c).stale with
                state := .opening, kind := some .dialled, role := some .initiator, localLabel := l
                service := BitVec.ofNat 16 (s.param 0), roundLimit := limits.roundLimit
                policy := some limits.policy, window := limits.window
                openRequest := some
                  { requested := if asked = 0 then agreed else asked
                    data := (List.range (s.param 2)).map (fun j => s.paramOctet (3 + j / 4) (j % 4)) }
                timer := some { purpose := .openT, remaining := s.link.config.openTimer }
                protocol := some .openK, send := SendContext.fresh .stopped true }
            labels := s.labels.set (labelIndex l).val (.bound c false)
            allocPtr := if l = 255 then 1 else l + 1 } [c.val, l.toNat])))

/-- The slot and the label a dialled circuit is given: the FREE record with the lowest number, and the first FREE
label from the allocation pointer upward, passing from 255 to 1. The record that holds a peer label: OFFERED, OPEN,
REWINDING or CLOSING with that label, where no two do; and the entry of the listen table for a service number, where
no two slots hold it. The FREE descriptor with the lowest number, the free pages in rising order and the lowest of them,
and the RETURNING descriptor, where there is one; and the place of a new slot among an assembly's, by rising index. The
place of a loose reply: a request with the kind, destination and source label of an entry leaves the queue as it is;
any other joins the tail below 4 entries and is dropped at 4; nothing else changes. -/
def Obligations.LookupsFindTheirSlot : Prop :=
  (∀ s : State,
    (∀ c, (s.circuit c).state = .free → (∀ d, d < c → (s.circuit d).state ≠ .free) →
      s.lowestFreeCircuit = some c) ∧
    ((∀ c, (s.circuit c).state ≠ .free) → s.lowestFreeCircuit = none) ∧
    (s.allocPtr ≠ 0 → ∀ k, k < 255 →
      let examined (j : Nat) : Label := BitVec.ofNat 8 ((s.allocPtr.toNat - 1 + j) % 255 + 1)
      s.label (examined k) = .free → (∀ j, j < k → s.label (examined j) ≠ .free) →
      s.scanFreeLabel = some (examined k)) ∧
    ((∀ l, l ≠ 0 → s.label l ≠ .free) → s.scanFreeLabel = none)) ∧
  (∀ (s : State) (l : Label),
    let holds (c : CircuitNo) : Prop := (s.circuit c).peerLabel = some l ∧
      ((s.circuit c).state = .offered ∨ (s.circuit c).state = .opened ∨ (s.circuit c).state = .rewinding ∨
        (s.circuit c).state = .closing)
    (∀ c, holds c → (∀ d, holds d → d = c) → s.peerHolder l = some c) ∧
    ((∀ c, ¬ holds c) → s.peerHolder l = none)) ∧
  (∀ (s : State) (service : Word),
    (∀ (k : Fin 16) (e : ListenEntry), s.listen[k.val] = some e → e.service = service →
      (∀ (j : Fin 16) (f : ListenEntry), s.listen[j.val] = some f → f.service = service → j = k) →
      s.listenEntry service = some e) ∧
    ((∀ (k : Fin 16) (e : ListenEntry), s.listen[k.val] = some e → e.service ≠ service) →
      s.listenEntry service = none)) ∧
  (∀ s : State,
    let pageIsFree (p : Nat) : Prop :=
      p < 1024 ∧ ∀ d, p ∉ (s.descriptor d).pages ∧ ∀ x ∈ (s.descriptor d).slots, x.page ≠ p
    (∀ d, (s.descriptor d).state = .free → (∀ e, e < d → (s.descriptor e).state ≠ .free) →
      s.lowestFreeDescriptor = some d) ∧
    ((∀ d, (s.descriptor d).state ≠ .free) → s.lowestFreeDescriptor = none) ∧
    (∀ p, p ∈ s.freePages ↔ pageIsFree p) ∧ s.freePages.Pairwise (· < ·) ∧
    (∀ p, pageIsFree p → (∀ q, q < p → ¬ pageIsFree q) → s.lowestFreePage = some p) ∧
    ((∀ p, ¬ pageIsFree p) → s.lowestFreePage = none) ∧
    (∀ d, (s.descriptor d).state = .returning → (∀ e, (s.descriptor e).state = .returning → e = d) →
      s.returningDescriptor = some d) ∧
    ((∀ d, (s.descriptor d).state ≠ .returning) → s.returningDescriptor = none) ∧
    (∀ c, ((s.circuit c).recv.assembly = none → s.assemblySlots c = []) ∧
      ∀ d, (s.circuit c).recv.assembly = some d → s.assemblySlots c = (s.descriptor d).slots)) ∧
  (∀ (x : Slot) (front back : List Slot), (∀ y ∈ front, y.index < x.index) → (∀ y ∈ back, x.index < y.index) →
    insertSlot x (front ++ back) = front ++ x :: back) ∧
  (∀ (s : State) (reply : LooseReply),
    let sameKind (x : LooseReply) : Prop :=
      match x.body, reply.body with
      | .refuse .., .refuse .. => True
      | .close .., .close .. => True
      | .closeDone, .closeDone => True
      | _, _ => False
    let merged : Prop := ∃ x ∈ s.loose, sameKind x ∧ x.dst = reply.dst ∧ x.src = reply.src
    (merged → s.requestLoose reply = s) ∧
    (¬ merged → s.loose.length < 4 → s.requestLoose reply = { s with loose := s.loose ++ [reply] }) ∧
    (¬ merged → 4 ≤ s.loose.length → s.requestLoose reply = s))

/-- ANSWER with accept opens an OFFERED record with the lowest of three max segments values and ACCEPT pending. With
refuse it requests a loose REFUSE from the local label to the peer label with cause REFUSED, and the record becomes
FREE, its label at rest; the diagnostic is the command's for every value 0 to 255. Its checks are refused in their
order. -/
def Obligations.AnswerAcceptsOrRefusesTheOffer : Prop :=
  ∀ (s : State) (c : CircuitNo), Started .answer s → NamesCircuit s 0 c →
    let r := s.circuit c
    let checked := limitsOf (s.param 4) (s.param 5) (s.param 3) false
    (r.state ≠ .offered → exec .answer s = refusedWith s .badState) ∧
    (r.state = .offered →
      (s.param 1 ≠ 1 → s.param 1 ≠ 2 → exec .answer s = refusedWith s .badParam) ∧
      (s.param 1 = 1 → 64 < s.param 2 ∨ checked = none → exec .answer s = refusedWith s .badParam) ∧
      (∀ (limits : Limits) (terms : OpenTerms) (linkAgreed : Nat), s.param 1 = 1 → s.param 2 ≤ 64 →
        checked = some limits → r.offer = some terms → s.link.agreed = some linkAgreed → r.send.queue = [] →
        let agreed := min (min terms.requested (if s.param 2 = 0 then 64 else s.param 2)) linkAgreed
        exec .answer s = answers { s with
          circuits := s.circuits.set c.val
            { r with
              state := .opened, timer := none, retryCount := 0, note := none, maxSegments := some agreed
              window := limits.window, roundLimit := limits.roundLimit, policy := some limits.policy
              protocol := some .accept, send := { r.send with sender := .idle } } } [agreed]) ∧
      (∀ peer, s.param 1 = 2 → r.peerLabel = some peer → r.localLabel ≠ 0 →
        ∃ (diagnostic : Octet) (count : Nat),
          (s.param 2 < 256 → diagnostic.toNat = s.param 2 ∧ count = s.freeCount) ∧
          exec .answer s = answers { s.withoutRecord c with
            loose := (s.requestLoose { body := .refuse 0x02 diagnostic, dst := peer, src := r.localLabel }).loose
            freeCount := count } []))

/-- CLOSE: an OPENING record ends with OPEN-FAILED and no frame; an OPEN or REWINDING dialled circuit enters CLOSING
with CLOSE pending and the CLOSE timer; every other record is refused. The diagnostic is the command's for every
value 0 to 255. -/
def Obligations.CloseCommandClosesTheCircuit : Prop :=
  ∀ (s : State) (c : CircuitNo), Started .closeCommand s → NamesCircuit s 0 c →
    let r := s.circuit c
    let done (t : State) (diagnostic : Octet) : Prop := exec .closeCommand s = .next t ∧
      (s.param 1 < 256 → diagnostic.toNat = s.param 1 ∧ t.freeCount = s.freeCount) ∧ CircuitFrame c s t ∧
      Dropped r s t ∧ t.loose = s.loose ∧ t.receiver = s.receiver ∧
      t.port = donePort s.port .ok [r.send.blocks.length]
    (r.state = .opening → ∃ (t : State) (diagnostic : Octet), done t diagnostic ∧
      t.circuit c = { closedRecord r 0x01 diagnostic .local false none with stale := (t.circuit c).stale } ∧
      Raised s t (openFailedOf c r 0x01 .local)) ∧
    (r.state = .opened ∨ r.state = .rewinding → r.kind = some .dialled →
      ∃ (t : State) (diagnostic : Octet), done t diagnostic ∧
        t.circuit c = closingRecord r 0x01 diagnostic .local s.link.config.closeTimer ∧ t.events = s.events) ∧
    (r.state = .offered ∨ r.state = .closing ∨ r.state = .closed ∨ (r.state ≠ .opening ∧ r.kind = some .fixed) →
      exec .closeCommand s = refusedWith s .badState)

/-- REWIND on an OPEN circuit, dialled or fixed, enters REWINDING with both sides rewound, REWIND pending and the
REWIND timer; in every other state it is refused and nothing changes. -/
def Obligations.RewindCommandEntersRewinding : Prop :=
  ∀ (s : State) (c : CircuitNo), Started .rewindCommand s → NamesCircuit s 0 c →
    let r := s.circuit c
    (r.state ≠ .opened → exec .rewindCommand s = refusedWith s .badState) ∧
    (r.state = .opened → ∃ t, exec .rewindCommand s = .next t ∧ CircuitFrame c s t ∧
      t.circuit c = rewindingRecord r 0x01 .local s.link.config.rewindTimer ∧ Requeued r s t ∧
      t.events = s.events ∧ t.loose = s.loose ∧ t.receiver = s.receiver ∧ t.freeCount = s.freeCount ∧
      t.port = donePort s.port .ok [r.send.blocks.length])

/-- RETIRE ends a CLOSED record: its delivered blocks are freed, its label rests, its frame in transmission is
detached, and the record is FREE with its stale flag kept; in every other state it is refused. -/
def Obligations.RetireFreesAClosedRecord : Prop :=
  ∀ (s : State) (c : CircuitNo), Started .retire s → NamesCircuit s 0 c → (s.circuit c).localLabel ≠ 0 →
    ((s.circuit c).state ≠ .closed → exec .retire s = refusedWith s .badState) ∧
    ((s.circuit c).state = .closed → ∃ descriptors,
      exec .retire s = answers { s.withoutRecord c with descriptors } [] ∧
      ∀ d : DescNo, descriptors[d.val] = if d ∈ (s.circuit c).recv.delivered then freed s d else s.descriptor d)

/-- FIX creates a DORMANT record bound to the named labels while the link is DOWN; its checks are refused in their
order. UNFIX moves a DORMANT record to CLOSED with its queued blocks freed, its delivery queue kept and no event; in
every other state it is refused. The model's choice: a service number above 65535 is BAD-PARAM (log 10). -/
def Obligations.FixAndUnfixKeepTheDefinitions : Prop :=
  (∀ s : State, Started .fix s →
    let badFields : Prop := s.param 1 = 0 ∨ 255 < s.param 1 ∨ s.param 2 = 0 ∨ 65535 < s.param 2 ∨ 64 < s.param 3
    let checked := limitsOf (s.param 5) (s.param 6) (s.param 4) true
    let peer : Label := BitVec.ofNat 8 (s.param 1)
    let l : Label := BitVec.ofNat 8 (s.param 0)
    let badLabel : Prop := s.param 0 = 0 ∨ 255 < s.param 0 ∨ s.label l ≠ .free
    let held : Prop := ∃ d, (s.circuit d).kind = some .fixed ∧ (s.circuit d).state = .dormant ∧
      (s.circuit d).peerLabel = some peer
    let maximum := if s.param 3 = 0 then 64 else s.param 3
    (badFields ∨ checked = none → exec .fix s = refusedWith s .badParam) ∧
    (∀ limits, ¬ badFields → checked = some limits →
      (s.link.state ≠ .down → exec .fix s = refusedWith s .badState) ∧
      (s.link.state = .down →
        (badLabel ∨ held → exec .fix s = refusedWith s .badParam) ∧
        (¬ badLabel → ¬ held → s.lowestFreeCircuit = none → exec .fix s = refusedWith s .noSlot) ∧
        (¬ badLabel → ¬ held → ∀ c, s.lowestFreeCircuit = some c → exec .fix s = answers { s with
          circuits := s.circuits.set c.val
            { CircuitRecord.free (s.circuit c).stale with
              state := .dormant, kind := some .fixed, localLabel := l, peerLabel := some peer
              service := BitVec.ofNat 16 (s.param 2), maxSegments := some maximum, fixedMaximum := some maximum
              roundLimit := limits.roundLimit, policy := some limits.policy, window := limits.window }
          labels := s.labels.set (labelIndex l).val (.bound c true) } [c.val])))) ∧
  (∀ (s : State) (c : CircuitNo), Started .unfix s → NamesCircuit s 0 c →
    let r := s.circuit c
    (r.state ≠ .dormant → exec .unfix s = refusedWith s .badState) ∧
    (r.state = .dormant → ∃ t, exec .unfix s = .next t ∧ CircuitFrame c s t ∧
      t.circuit c = closedRecord r 0x01 0 .local false none ∧ Dropped r s t ∧ t.events = s.events ∧
      t.loose = s.loose ∧ t.receiver = s.receiver ∧ t.freeCount = s.freeCount ∧
      t.port = donePort s.port .ok [r.send.blocks.length]))

/-- SET-CIRCUIT replaces the three fields of a record in use; a window below the received blocks is refused; on an
OPEN circuit that reported itself held, room in the new window makes READY pending and clears held-reported. -/
def Obligations.SetCircuitReplacesTheLimits : Prop :=
  ∀ (s : State) (c : CircuitNo), Started .setCircuit s → NamesCircuit s 0 c →
    let r := s.circuit c
    let checked := limitsOf (s.param 1) (s.param 2) (s.param 3) (decide (r.kind = some .fixed))
    let held := r.recv.delivered.length + (if r.recv.assembly.isSome then 1 else 0)
    (checked = none → exec .setCircuit s = refusedWith s .badParam) ∧
    (∀ limits, checked = some limits →
      let set : CircuitRecord :=
        { r with roundLimit := limits.roundLimit, policy := some limits.policy, window := limits.window }
      let tells : Prop := r.state = .opened ∧ r.recv.heldReported = true ∧ r.recv.delivered.length < limits.window
      let replaced (q : CircuitRecord) : Host.Outcome State Fault Refusal :=
        answers { s with circuits := s.circuits.set c.val q } []
      (limits.window < held → exec .setCircuit s = refusedWith s .badState) ∧
      (held ≤ limits.window → ¬ tells → exec .setCircuit s = replaced set) ∧
      (held ≤ limits.window → tells → exec .setCircuit s =
        replaced { set with answer := some .ready, recv := { r.recv with heldReported := false } }))

/-! ### Blocks -/

/-- ALLOC gives the lowest FREE descriptor as FILLING with n pages, keeping the receive reserve; its checks are
refused in their order. It chooses the run of n consecutive free pages with the lowest first page, or, if the pool
holds no such run, the n lowest-numbered free pages. FREE frees a FILLING or HELD descriptor; any other, and a number
above 255, is refused with BAD-DESCRIPTOR. -/
def Obligations.AllocAndFreeMoveDescriptors : Prop :=
  (∀ s : State,
    let held (p : Nat) : Prop := ∃ d, p ∈ (s.descriptor d).held
    let run (n p : Nat) : Prop := ∀ k, k < n → p + k < 1024 ∧ ¬ held (p + k)
    (∀ n, 1 ≤ n →
      (∀ p, run n p → (∀ q, q < p → ¬ run n q) → s.choosePages n = (List.range n).map (p + ·)) ∧
      ((∀ p, ¬ run n p) → ∀ free : List Nat, free.Pairwise (· < ·) → (∀ p, p ∈ free ↔ p < 1024 ∧ ¬ held p) →
        s.choosePages n = free.take n)) ∧
    (Started .alloc s →
      let n := s.param 0
      (n = 0 ∨ 64 < n → exec .alloc s = refusedWith s .badParam) ∧
      (1 ≤ n → n ≤ 64 →
        (s.lowestFreeDescriptor = none → exec .alloc s = refusedWith s .noDescriptor) ∧
        (∀ d, s.lowestFreeDescriptor = some d →
          (s.freePages.length < s.link.config.reserve + n → exec .alloc s = refusedWith s .noPages) ∧
          (s.link.config.reserve + n ≤ s.freePages.length → exec .alloc s = answers { s with
            descriptors := s.descriptors.set d.val
              { state := .filling, circuit := none, pages := s.choosePages n, slots := [], byteLength := none
                tag := none, blockNumber := none } }
            [d.val, n, (s.choosePages n).headD 0,
             if s.choosePages n = (List.range n).map ((s.choosePages n).headD 0 + ·) then 1 else 0]))))) ∧
  (∀ s : State, Started .freeCommand s →
    (255 < s.param 0 → exec .freeCommand s = refusedWith s .badDescriptor) ∧
    (∀ d : DescNo, s.param 0 = d.val →
      ((s.descriptor d).state ≠ .filling → (s.descriptor d).state ≠ .held →
        exec .freeCommand s = refusedWith s .badDescriptor) ∧
      ((s.descriptor d).state = .filling ∨ (s.descriptor d).state = .held →
        exec .freeCommand s = answers { s with descriptors := s.descriptors.set d.val (freed s d) } [])))

/-- SUBMIT queues a FILLING descriptor; on an OPEN circuit whose sender is IDLE it starts as the active block when
the peer is ready, and makes the sender HELD with PROBE pending when it is not; its checks are refused in their
order. A tag of 0 to 65535 is stored as given. A block of more segments than max segments is refused here, so a block
that starts at its SUBMIT is never too large. -/
def Obligations.SubmitQueuesOrStartsTheBlock : Prop :=
  ∀ (s : State) (c : CircuitNo), Started .submit s → NamesCircuit s 1 c →
    let r := s.circuit c
    (255 < s.param 0 → exec .submit s = refusedWith s .badDescriptor) ∧
    (∀ d : DescNo, s.param 0 = d.val →
      let n := (s.descriptor d).pages.length
      let L := s.param 2
      let takes : Prop := r.state = .opening ∨ r.state = .opened ∨ r.state = .rewinding ∨ r.state = .dormant
      let limit := if r.state = .opening then codeOf (fun x => x.requested) r.openRequest else codeOf id r.maxSegments
      let fits : Prop := (n - 1) * 256 < L ∧ L ≤ n * 256 ∧ n ≤ limit
      let idle : Prop := r.state = .opened ∧ r.send.sender = .idle
      let held := r.send.blocks.length + 1
      ((s.descriptor d).state ≠ .filling → exec .submit s = refusedWith s .badDescriptor) ∧
      ((s.descriptor d).state = .filling →
        (¬ takes → exec .submit s = refusedWith s .badState) ∧
        (takes → ¬ fits → exec .submit s = refusedWith s .badParam) ∧
        (takes → fits → 8 ≤ r.send.blocks.length → exec .submit s = refusedWith s .queueFull) ∧
        (takes → fits → r.send.blocks.length < 8 → ∃ (tag : Word) (count : Nat),
          (s.param 3 < 65536 → tag.toNat = s.param 3 ∧ count = s.freeCount) ∧
          let queued : Descriptor := { s.descriptor d with
            state := .queued, circuit := some c, byteLength := some L, tag := some tag }
          let submitted (q : CircuitRecord) (x : Descriptor) : Host.Outcome State Fault Refusal := answers { s with
            circuits := s.circuits.set c.val q, descriptors := s.descriptors.set d.val x, freeCount := count } [held]
          (¬ idle → exec .submit s =
            submitted { r with send := { r.send with queue := r.send.queue ++ [d] } } queued) ∧
          (idle → r.send.queue = [] → r.send.peerReady = true → exec .submit s =
            submitted { r with send := r.send.started d [] n }
              { queued with state := .active, blockNumber := some r.send.nextNumber }) ∧
          (idle → r.send.queue = [] → r.send.peerReady = false → exec .submit s =
            submitted { r with
              transfer := some .probe, send := { r.send with sender := .held, queue := [d], pollCount := 1 } }
              queued))))

/-- TAKE gives the host the head of the delivery queue, HELD; on an OPEN circuit that reported itself held and now
has room, READY is made pending and held-reported cleared. OPENING and OFFERED are refused, and an empty queue is
EMPTY. -/
def Obligations.TakeGivesTheHeadBlock : Prop :=
  ∀ (s : State) (c : CircuitNo), Started .take s → NamesCircuit s 0 c →
    let r := s.circuit c
    (r.state = .opening ∨ r.state = .offered → exec .take s = refusedWith s .badState) ∧
    (r.state ≠ .opening → r.state ≠ .offered →
      (r.recv.delivered = [] → exec .take s = refusedWith s .empty) ∧
      (∀ d rest, r.recv.delivered = d :: rest →
        let x := s.descriptor d
        let tells : Prop := r.state = .opened ∧ r.recv.heldReported = true ∧ rest.length < r.window
        let taken (q : CircuitRecord) : Host.Outcome State Fault Refusal := answers { s with
          circuits := s.circuits.set c.val q
          descriptors := s.descriptors.set d.val { x with state := .held } }
          [d.val, codeOf BitVec.toNat x.blockNumber, codeOf id x.byteLength, rest.length]
        (¬ tells → exec .take s = taken { r with recv := { r.recv with delivered := rest } }) ∧
        (tells → exec .take s = taken { r with
          answer := some .ready, recv := { r.recv with delivered := rest, heldReported := false } })))

/-- READ-DESCRIPTOR reports a descriptor of any state in its nine parts, and READ-POOL the pools and the access-fault
latch, which it then clears; nothing else changes. READ-LABEL reports the entry of a label, or for label 0 the map's
summary; a number above 255 is refused; nothing changes. The register of each value and presence indication is the
model's reading of the result tables (log 18). -/
def Obligations.PoolAndLabelReadsReportTheTables : Prop :=
  (∀ s : State,
    (Started .readDescriptor s →
      (255 < s.param 0 → exec .readDescriptor s = refusedWith s .badDescriptor) ∧
      (∀ d : DescNo, s.param 0 = d.val →
        let x := s.descriptor d
        (8 < s.param 1 → exec .readDescriptor s = refusedWith s .badParam) ∧
        (s.param 1 = 0 → exec .readDescriptor s = answers s
          [x.state.code, flagCode x.circuit.isSome, codeOf (fun c => c.val) x.circuit,
           x.pages.length + x.slots.length, codeOf id x.byteLength, codeOf BitVec.toNat x.tag,
           flagCode x.blockNumber.isSome, codeOf BitVec.toNat x.blockNumber]) ∧
        (1 ≤ s.param 1 → s.param 1 ≤ 8 → x.slots = [] → exec .readDescriptor s = answers s
          ((List.range 8).map (fun j => x.pages.getD (8 * (s.param 1 - 1) + j) 0xFFFF))) ∧
        (1 ≤ s.param 1 → s.param 1 ≤ 8 → x.pages = [] → exec .readDescriptor s = answers s
          ((List.range 8).map (fun j =>
            match x.slots.find? (fun y => y.index == 8 * (s.param 1 - 1) + j) with
            | some y => y.page
            | none => 0xFFFF))))) ∧
    (Started .readPool s →
      let free := s.freePages.length
      exec .readPool s = answers { s with latch := none }
        [free, (s.descriptors.toList.filter (fun x => decide (x.state = .free))).length, s.link.config.reserve,
         free - s.link.config.reserve, flagCode s.returningDescriptor.isSome,
         codeOf (fun d => d.val) s.returningDescriptor, flagCode s.latch.isSome, codeOf id s.latch])) ∧
  (∀ s : State, Started .readLabel s →
    let l : Label := BitVec.ofNat 8 (s.param 0)
    let reads (values : List Nat) : Prop := exec .readLabel s = answers s values
    let counts (k : Nat) := (s.labels.toList.filter (fun e => e.code == k)).length
    (255 < s.param 0 → exec .readLabel s = refusedWith s .badParam) ∧
    (1 ≤ s.param 0 → s.param 0 ≤ 255 →
      (s.label l = .free → reads [0, 0, 0, 0]) ∧
      (∀ c fixed, s.label l = .bound c fixed → reads [1, c.val, flagCode fixed, 0]) ∧
      (∀ n, s.label l = .resting n → reads [2, 0, 0, n])) ∧
    (s.param 0 = 0 →
      (s.loose = [] → reads [s.allocPtr.toNat, counts 0, counts 1, counts 2, 0, 0, 0, 0]) ∧
      (∀ x rest, s.loose = x :: rest → reads
        [s.allocPtr.toNat, counts 0, counts 1, counts 2, rest.length + 1, x.body.code, x.dst.toNat,
         codeOf BitVec.toNat x.body.cause])))

/-- INITIALISE: the link DOWN with its configuration and own start number kept, every fixed definition DORMANT and
every other record FREE, every label but a fixed definition's FREE, every descriptor FREE, the queues empty and the
frame in transmission aborted; the listen table, page memory, the receiver, the interrupt enable and the clock are
kept. -/
def Obligations.InitialiseKeepsTheDefinitions : Prop :=
  ∀ s : State, Started .initialise s →
    let defines (r : CircuitRecord) : Prop :=
      r.kind = some .fixed ∧ (r.state = .opened ∨ r.state = .rewinding ∨ r.state = .dormant)
    ∃ t, exec .initialise s = .next t ∧
    t.link = { s.link.downed with looped := false, lastStopCause := 0 } ∧
    (∀ c, let r := s.circuit c
      (defines r → t.circuit c = { CircuitRecord.free false with
        state := .dormant, kind := some .fixed, localLabel := r.localLabel, peerLabel := r.peerLabel
        service := r.service, maxSegments := r.fixedMaximum, fixedMaximum := r.fixedMaximum
        roundLimit := r.roundLimit, policy := r.policy, window := r.window }) ∧
      (¬ defines r → t.circuit c = CircuitRecord.free false)) ∧
    (∀ l, l ≠ 0 → (∀ c, s.label l = .bound c true → (t.circuit c).state = .dormant → t.label l = .bound c true) ∧
      ((∀ c, s.label l = .bound c true → (t.circuit c).state ≠ .dormant) → t.label l = .free)) ∧
    t.allocPtr = 1 ∧ t.loose = [] ∧ (∀ d, t.descriptor d = Descriptor.free) ∧ t.latch = none ∧ t.events = [] ∧
    t.linkStale = false ∧ t.tx = none ∧ t.line = (if s.tx = none then s.line else .abort) ∧ t.controlPos = 63 ∧
    t.dataPos = 63 ∧ t.listen = s.listen ∧ t.memory = s.memory ∧ t.receiver = s.receiver ∧
    t.lineReady = s.lineReady ∧ t.intEnable = s.intEnable ∧ t.msCount = s.msCount ∧ t.dataBus = s.dataBus ∧
    t.freeCount = s.freeCount ∧ t.startUp = false ∧ t.pending = s.pending ∧
    t.port = donePort s.port .ok
      [(s.circuits.toList.filter (fun r => decide (r.state ≠ .free ∧ ¬ defines r))).length,
       (s.circuits.toList.filter (fun r => decide (defines r))).length]

/-! ### Host accesses to page memory -/

/-- A host access to a page in a FILLING or HELD descriptor reads the word, or stores its two octets, low octet
first, and changes no other octet; an access to any other page reads zero or is ignored; the first refusal sets the
latch and raises ACCESS-FAULT; in the start-up period a read gives zero and a write is ignored, with no report. -/
def Obligations.HostAccessesAreCheckedByOwner : Prop :=
  ∀ (s : State) (a : WordAddress),
    let p := 2 * a.toNat / 256
    let mine : Prop := ∃ d, p ∈ (s.descriptor d).held ∧
      (∀ e, p ∈ (s.descriptor e).held → e = d) ∧
      ((s.descriptor d).state = .filling ∨ (s.descriptor d).state = .held)
    let other : Prop := ∀ d, p ∈ (s.descriptor d).held →
      (s.descriptor d).state ≠ .filling ∧ (s.descriptor d).state ≠ .held
    let reported : State := { s with latch := some p, events := s.events ++ [{ kind := .accessFault, page := some p }] }
    (s.startUp = true → exec (.packetMemoryRead a) s = .next { s with dataBus := 0 } ∧
      ∀ value, exec (.packetMemoryWrite a value) s = .next s) ∧
    (s.startUp = false → mine →
      exec (.packetMemoryRead a) s = .next { s with
        dataBus := s.memory.read (2 * a.toNat + 1) ++ s.memory.read (2 * a.toNat) } ∧
      ∀ value, s.memory.wf = true → ∃ memory : Memory,
        exec (.packetMemoryWrite a value) s = .next { s with memory } ∧ memory.wf = true ∧
        ∀ b, memory.read b =
          if b = 2 * a.toNat then value.extractLsb' 0 8
          else if b = 2 * a.toNat + 1 then value.extractLsb' 8 8 else s.memory.read b) ∧
    (s.startUp = false → other → s.latch ≠ none →
      exec (.packetMemoryRead a) s = .next { s with dataBus := 0 } ∧
      ∀ value, exec (.packetMemoryWrite a value) s = .next s) ∧
    (s.startUp = false → other → s.latch = none → s.events.length ≤ 126 →
      exec (.packetMemoryRead a) s = .next { reported with dataBus := 0 } ∧
      ∀ value, exec (.packetMemoryWrite a value) s = .next reported)

/-! ### Resets and the line -/

/-- The fall of line-ready: the receiver hunts; in DOWN nothing else happens; in STARTING, UP and STOPPING the frame
in transmission is aborted and the link is DOWN, with LINK-DOWN raised in STARTING and, after the records are moved,
in UP. -/
def Obligations.LineReadyFallBringsTheLinkDown : Prop :=
  ∀ s : State, s.lineReady = true →
    let fallen : State := { s with lineReady := false, receiver := { phase := .hunt, buffer := [] } }
    let aborted := fallen.abortTransmission
    (s.link.state = .down → exec .lineReadyFall s = .next fallen) ∧
    (s.link.state = .stopping → exec .lineReadyFall s = .next { aborted with link := s.link.downed }) ∧
    (s.link.state = .starting → s.events.length ≤ 126 → exec .lineReadyFall s = .next { aborted with
      link := s.link.downed
      events := s.events ++ [{ kind := .linkDown, cause := some 0x0C, count := some 0, block := some 0 }] }) ∧
    (s.link.state = .up → ∃ t, exec .lineReadyFall s = .next t ∧ LeftUp 0x0C .down aborted t ∧
      t.link = s.link.downed ∧ t.port = s.port) ∧
    (s.tx = none → aborted = fallen) ∧
    (∀ x, s.tx = some x → aborted.tx = none ∧ aborted.line = .abort ∧ aborted.circuits = s.circuits ∧
      aborted.events = s.events ∧ aborted.link = s.link ∧
      (x.pin = none → aborted.descriptors = s.descriptors) ∧
      (∀ page d, x.pin = some (page, d) → ∀ e, aborted.descriptor e =
        if e = d ∧ (s.descriptor d).state = .returning then Descriptor.free else s.descriptor e))

/-- The rise of line-ready does not start the link; a delimiter in HUNT opens the first candidate; octets that end no
good frame change the receiver alone, as the receiver's table gives, and with line-ready low they are ignored. A
candidate ended by a delimiter is a good frame exactly if it passes the eight checks: its length, its CRC, its kind,
the kind's length, label 0 in a link frame, the data length of an OPEN, the outcome of a BLOCK-STATUS and the ready
flags; and that frame is the one its octets spell, whatever the unused header octets hold. -/
def Obligations.ReceiverFollowsItsTable : Prop :=
  (∀ s : State,
    exec .lineReadyRise s = .next { s with lineReady := true } ∧
    (s.lineReady = true → s.receiver.phase = .hunt → exec .huntDelimiterReceived s = .next s.heard) ∧
    (s.lineReady = true → ∀ octets, (s.receiver.feed octets).2 = [] →
      exec (.candidateDiscard octets) s = .next { s with receiver := (s.receiver.feed octets).1 }) ∧
    (s.lineReady = false → ∀ octets, exec (.candidateDiscard octets) s = .next s ∧
      exec .huntDelimiterReceived s = .next s)) ∧
  (∀ (r : Receiver) (o : Octet) (os : List Octet), r.feed [] = (r, []) ∧
    r.feed (o :: os) =
      (((r.take o).1.feed os).1, (match (r.take o).2 with | none => [] | some f => [f]) ++ ((r.take o).1.feed os).2)) ∧
  (∀ (r : Receiver) (o : Octet),
    let hunting : Receiver := { phase := .hunt, buffer := [] }
    let opened : Receiver := { phase := .collect, buffer := [] }
    (r.phase = .hunt → r.take o = if o = 0x9C then (opened, none) else (r, none)) ∧
    (r.phase = .collect → o = 0x9C →
      r.take o = (opened, if r.buffer = [] then none else checkCandidate r.buffer)) ∧
    (r.phase = .collect → o = 0x9B → r.take o = ({ phase := .escaped, buffer := r.buffer }, none)) ∧
    (r.phase = .collect → o ≠ 0x9C → o ≠ 0x9B → r.buffer.length < 264 →
      r.take o = ({ phase := .collect, buffer := r.buffer ++ [o] }, none)) ∧
    (r.phase = .escaped → o = 0x1C → r.buffer.length < 264 →
      r.take o = ({ phase := .collect, buffer := r.buffer ++ [0x9C] }, none)) ∧
    (r.phase = .escaped → o = 0x1B → r.buffer.length < 264 →
      r.take o = ({ phase := .collect, buffer := r.buffer ++ [0x9B] }, none)) ∧
    (r.phase = .escaped → o = 0x9C → r.take o = (opened, none)) ∧
    (r.phase = .escaped → o ≠ 0x1C → o ≠ 0x1B → o ≠ 0x9C → r.take o = (hunting, none)) ∧
    (r.buffer.length = 264 →
      (r.phase = .collect ∧ o ≠ 0x9C ∧ o ≠ 0x9B) ∨ (r.phase = .escaped ∧ (o = 0x1C ∨ o = 0x1B)) →
      r.take o = (hunting, none))) ∧
  ∀ candidate : List Octet,
    let body := candidate.take (candidate.length - 2)
    let kind := body.getD 0 0
    let good : Prop :=
      8 ≤ candidate.length ∧ candidate.drop (candidate.length - 2) = lowFirst (crc body) ∧ kind ∈ frameKinds ∧
      lengthOfKind kind body.length ∧
      (kind = 0x01 ∨ kind = 0x02 ∨ kind = 0x03 → body.getD 1 0 = 0) ∧
      (kind = 0x10 → (body.getD 4 0).toNat ≤ 16 ∧ (body.getD 4 0).toNat + 8 = body.length) ∧
      (kind = 0x1A → (body.getD 4 0 = 0x01 ∧ body.length = 14) ∨
        ((body.getD 4 0 = 0x02 ∨ body.getD 4 0 = 0x03) ∧ body.length = 6)) ∧
      (kind = 0x1A → body.getD 5 0 = 0 ∨ body.getD 5 0 = 1) ∧
      (kind = 0x1C → body.getD 3 0 = 0 ∨ body.getD 3 0 = 1)
    (¬ good → checkCandidate candidate = none) ∧
    (good → ∃ f, checkCandidate candidate = some f ∧ f.wellFormed = true ∧ frameOctets f = withoutUnused body)

/-- A frame that keeps the layouts' bounds, sent after a delimiter as header, body and CRC with its escapes, and
closed by a delimiter, is received as that frame and no other, and leaves the receiver ready for the next. Its header
and body have the layout of its kind, the CRC is taken over their bits in the order they are sent, and 9Ch and 9Bh are
escaped in all of them. Each octet
is sent as its eight bits, the least significant first, the octets in their order; and bits received in that order
give the octets back. While a frame is in transmission TXD carries those octets of it; otherwise it carries delimiters,
after an abort the abort sequence first. -/
def Obligations.FramesSurviveTheLine : Prop :=
  (∀ f : Frame, f.wellFormed = true →
    Receiver.feed { phase := .collect, buffer := [] } (lineOctets f) = ({ phase := .collect, buffer := [] }, [f])) ∧
  (∀ f : Frame,
    let low (w : Word) : Octet := w.extractLsb' 0 8
    let high (w : Word) : Octet := w.extractLsb' 8 8
    let flag (b : Bool) : Octet := if b then 0x01 else 0x00
    let check := crc (frameOctets f)
    lineOctets f = (frameOctets f ++ [low check, high check]).flatMap (fun o =>
      if o = 0x9C then [0x9B, 0x1C] else if o = 0x9B then [0x9B, 0x1B] else [o]) ++ [0x9C] ∧
    frameOctets f =
      match f with
      | .linkStart v m i n => [0x01, 0, 0, v, m, 0, low i, high i, low n, high n]
      | .linkAgree m i n => [0x02, 0, 0, m, 0, 0, low i, high i, low n, high n]
      | .linkStop cause => [0x03, 0, 0, cause, 0, 0]
      | .openFrame d l requested v data =>
        [0x10, d, l, requested, BitVec.ofNat 8 data.length, 0, low v, high v] ++ data
      | .accept d l agreed => [0x11, d, l, agreed, 0, 0]
      | .refuse d l cause diagnostic => [0x12, d, l, cause, diagnostic, 0]
      | .close d l cause diagnostic => [0x13, d, l, cause, diagnostic, 0]
      | .closeDone d l => [0x14, d, l, 0, 0, 0]
      | .rewind d cause => [0x15, d, 0, cause, 0, 0]
      | .rewindDone d => [0x16, d, 0, 0, 0, 0]
      | .seg d b i payload => [0x17, d, 0, b, i, 0] ++ payload
      | .blockEnd d b n => [0x18, d, 0, b, n, 0]
      | .blockAbandon d b => [0x19, d, 0, b, 0, 0]
      | .blockStatus d b (.missing map) r =>
        [0x1A, d, 0, b, 0x01, flag r] ++ (List.range 8).map (fun k => map.extractLsb' (8 * k) 8)
      | .blockStatus d b .complete r => [0x1A, d, 0, b, 0x02, flag r]
      | .blockStatus d b .abandoned r => [0x1A, d, 0, b, 0x03, flag r]
      | .probe d => [0x1B, d, 0, 0, 0, 0]
      | .ready d r => [0x1C, d, 0, flag r, 0, 0]) ∧
  (∀ octets : List Octet, crc octets = ~~~ ((lineBits octets).foldl (fun (c : Word) b =>
    if (c.getLsbD 0 ^^ b) then (c >>> 1) ^^^ 0x8408#16 else c >>> 1) 0xFFFF#16)) ∧
  (∀ octets : List Octet, octetsOfBits (lineBits octets) = octets ∧ (lineBits octets).length = 8 * octets.length ∧
    ∀ (k : Nat) (o : Octet), octets[k]? = some o → ∀ i, i < 8 → (lineBits octets)[8 * k + i]? = some (o.getLsbD i)) ∧
  ∀ s : State,
    (∀ x, s.line = .frame → s.tx = some x → s.txdBits = lineBits (lineOctets x.frame)) ∧
    (s.line = .idleFill → s.txdBits = lineBits [0x9C]) ∧ (s.line = .abort → s.txdBits = lineBits [0x9B, 0x9C])

/-! ### The arrivals of link frames -/

/-- A LINK-START: discarded in DOWN and STOPPING; with this station's identity it raises LOOPED once in STARTING;
with another version it draws LINK-STOP VERSION; in STARTING a good one brings the link UP with LINK-AGREE pending:
each DORMANT fixed circuit enters OPEN with the lower of its fixed maximum and the agreed max segments, its sender IDLE
with nothing queued and HELD with PROBE pending with blocks queued, and LINK-UP is raised; in UP a repeat draws
LINK-AGREE again. -/
def Obligations.LinkStartArrivalFollowsTheChecks : Prop :=
  ∀ (s : State) (version maxSegments : Octet) (identity startNumber : Word), Hears s →
    let row := Instr.linkStartArrival version maxSegments identity startNumber
    let agreed := min s.link.config.offered maxSegments.toNat
    let good : Prop := identity ≠ s.link.config.identity ∧ version = 1 ∧ 1 ≤ maxSegments.toNat ∧ maxSegments.toNat ≤ 64
    let running : Prop := s.link.state = .starting ∨ s.link.state = .up
    (s.link.state = .down ∨ s.link.state = .stopping → exec row s = .next s.heard) ∧
    (s.link.state = .starting → identity = s.link.config.identity → s.link.looped = false → s.events.length ≤ 126 →
      exec row s = .next { s.heard with
        link := { s.link with looped := true }, events := s.events ++ [{ kind := .looped, tag := some identity }] }) ∧
    (running → identity = s.link.config.identity → (s.link.state = .up ∨ s.link.looped = true) →
      exec row s = .next s.heard) ∧
    (running → identity ≠ s.link.config.identity → version ≠ 1 →
      exec row s = .next { s.heard with link := { s.link with pending := some (.linkStop 0x0F) } }) ∧
    (running → identity ≠ s.link.config.identity → version = 1 → (maxSegments.toNat = 0 ∨ 64 < maxSegments.toNat) →
      exec row s = .next s.heard) ∧
    (s.link.state = .up → good → s.link.peerIdentity = some identity → s.link.peerStart = some startNumber →
      exec row s = .next { s.heard with link := { s.link with pending := some .linkAgree } }) ∧
    (s.link.state = .starting → good → (∀ c, (s.circuit c).state = .dormant → (s.circuit c).send.peerReady = false) →
      ∃ t, exec row s = .next t ∧
      t = { s.heard with
        circuits := t.circuits, events := t.events, linkStale := t.linkStale
        link := { s.link with
          state := .up, timer := none, pending := some .linkAgree, agreed := some agreed
          peerIdentity := some identity, peerStart := some startNumber } } ∧
      Raised s t { kind := .linkUp, tag := some identity, count := some agreed, block := some 0 } ∧
      (∀ c, ¬ ((s.circuit c).kind = some .fixed ∧ (s.circuit c).state = .dormant) → t.circuit c = s.circuit c) ∧
      (∀ c maximum, (s.circuit c).kind = some .fixed → (s.circuit c).state = .dormant →
        (s.circuit c).fixedMaximum = some maximum →
        t.circuit c = { s.circuit c with
          state := .opened, timer := none, retryCount := 0, note := none
          maxSegments := some (min maximum agreed)
          transfer := if (s.circuit c).send.queue = [] then (s.circuit c).transfer else some .probe
          send := (s.circuit c).send.resumed }))

/-- A LINK-AGREE is taken in STARTING with a max segments value from 1 to 64, and discarded otherwise. The pending
link frame is emptied and the link reaches UP: each DORMANT fixed circuit enters OPEN with the lower of its fixed
maximum and the agreed max segments, its sender IDLE with nothing queued and HELD with PROBE pending with blocks
queued; and LINK-UP is raised. -/
def Obligations.LinkAgreeArrivalReachesUp : Prop :=
  ∀ (s : State) (maxSegments : Octet) (identity startNumber : Word), Hears s →
    let row := Instr.linkAgreeArrival maxSegments identity startNumber
    let agreed := min s.link.config.offered maxSegments.toNat
    (s.link.state ≠ .starting ∨ maxSegments.toNat = 0 ∨ 64 < maxSegments.toNat → exec row s = .next s.heard) ∧
    (s.link.state = .starting → 1 ≤ maxSegments.toNat → maxSegments.toNat ≤ 64 →
      (∀ c, (s.circuit c).state = .dormant → (s.circuit c).send.peerReady = false) → ∃ t, exec row s = .next t ∧
      t = { s.heard with
        circuits := t.circuits, events := t.events, linkStale := t.linkStale
        link := { s.link with
          state := .up, timer := none, pending := none, agreed := some agreed, peerIdentity := some identity
          peerStart := some startNumber } } ∧
      Raised s t
        { kind := .linkUp, tag := some identity, count := some agreed, block := some 0 } ∧
      (∀ c, ¬ ((s.circuit c).kind = some .fixed ∧ (s.circuit c).state = .dormant) →
        t.circuit c = s.circuit c) ∧
      (∀ c maximum, (s.circuit c).kind = some .fixed → (s.circuit c).state = .dormant →
        (s.circuit c).fixedMaximum = some maximum →
        t.circuit c = { s.circuit c with
          state := .opened, timer := none, retryCount := 0, note := none
          maxSegments := some (min maximum agreed)
          transfer := if (s.circuit c).send.queue = [] then (s.circuit c).transfer else some .probe
          send := (s.circuit c).send.resumed }))

/-- A LINK-START in UP with another identity or start number is a peer restart: the link stays UP with the new values
and LINK-AGREE pending, live dialled circuits close with cause LINK-RESET and their blocks are freed, fixed circuits are
rewound in OPEN, every other record stays but for the protocol class of a CLOSED one, which is emptied, and LINK-DOWN
and then LINK-UP are raised after the records' events, which come in rising circuit number. -/
def Obligations.PeerRestartMovesTheCircuits : Prop :=
  ∀ (s : State) (maxSegments : Octet) (identity startNumber : Word), Hears s → s.link.state = .up →
    identity ≠ s.link.config.identity → 1 ≤ maxSegments.toNat → maxSegments.toNat ≤ 64 →
    (s.link.peerIdentity ≠ some identity ∨ s.link.peerStart ≠ some startNumber) →
    let agreed := min s.link.config.offered maxSegments.toNat
    ∃ t, exec (.linkStartArrival 1 maxSegments identity startNumber) s = .next t ∧
      t = { s.heard with
        circuits := t.circuits, descriptors := t.descriptors, events := t.events, linkStale := t.linkStale
        loose := []
        link := { s.link with
          agreed := some agreed, peerIdentity := some identity, peerStart := some startNumber
          pending := some .linkAgree } } ∧
      (s.leftUpEvents 0x0E).length = s.liveDialledCount ∧
      (s.events.length ≤ 61 → t.events = s.events ++ s.leftUpEvents 0x0E ++
        [{ kind := .linkDown, cause := some 0x0E, count := some s.liveDialledCount, block := some 2 },
         { kind := .linkUp, tag := some identity, count := some agreed, block := some 1 }]) ∧
      DescriptorsLeftUp s t ∧
      (∀ c, ¬ ((s.circuit c).kind = some .fixed ∧
          ((s.circuit c).state = .opened ∨ (s.circuit c).state = .rewinding)) →
        t.circuit c = { leftUpRecord 0x0E (s.circuit c) with stale := (t.circuit c).stale }) ∧
      (∀ c maximum, (s.circuit c).kind = some .fixed →
        (s.circuit c).state = .opened ∨ (s.circuit c).state = .rewinding →
        (s.circuit c).fixedMaximum = some maximum →
        t.circuit c = { s.circuit c with
          stale := (t.circuit c).stale, state := .opened, timer := none, retryCount := 0, note := none
          protocol := none, transfer := resumedTransfer (s.circuit c).send.rewound, answer := none
          maxSegments := some (min maximum agreed)
          send := (s.circuit c).send.rewound.resumed, recv := (s.circuit c).recv.rewound })

/-- A LINK-STOP: discarded in DOWN; recorded as the last stop cause in STARTING; in UP the link leaves UP and
answers, stop kind ANSWERING with LINK-STOP NONE pending; in STOPPING it brings the link DOWN. The model's choice: in
STOPPING the agreed max segments, the peer identity and the peer start number stay as they were (log 11). -/
def Obligations.LinkStopArrivalFollowsTheLinkState : Prop :=
  ∀ (s : State) (cause : Octet), Hears s →
    (s.link.state = .down → exec (.linkStopArrival cause) s = .next s.heard) ∧
    (s.link.state = .starting →
      exec (.linkStopArrival cause) s = .next { s.heard with link := { s.link with lastStopCause := cause } }) ∧
    (s.link.state = .stopping → exec (.linkStopArrival cause) s =
      .next { s.heard with link := { s.link.downed with lastStopCause := cause } }) ∧
    (s.link.state = .up → ∃ t, exec (.linkStopArrival cause) s = .next t ∧ LeftUp 0x0D .stopping s.heard t ∧
      t.link = { s.link with
        state := .stopping, stopKind := some .answering, pending := some (.linkStop 0x00)
        timer := some { purpose := .stop, remaining := s.link.config.stopTimer }, lastStopCause := cause } ∧
      t.port = s.port)

/-! ### The Label Map's dispatch -/

/-- A circuit frame is discarded, with nothing changed but the receiver: while the link is not UP; an OPEN with a
destination label other than 0, and any other kind with destination label 0; an OPEN, ACCEPT or CLOSE with source label
0; a frame of the block transfer at a circuit that is not OPEN; and, at a FREE or RESTING label, every kind but OPEN,
ACCEPT and CLOSE. -/
def Obligations.FramesAreDiscardedAtDispatch : Prop :=
  ∀ (s : State) (row : Instr) (f : Frame), row.frame = some f → f.isCircuit = true → Hears s →
    let discarded : Prop := exec row s = .next s.heard
    (s.link.state ≠ .up → discarded) ∧
    (∀ dst src requested service data, f = .openFrame dst src requested service data → dst ≠ 0 → discarded) ∧
    ((∀ src requested service data, f ≠ .openFrame 0 src requested service data) → f.destination = 0 → discarded) ∧
    (f.askingSource = some 0 → discarded) ∧
    (∀ c fixed, f.isTransfer = true → s.label f.destination = .bound c fixed → (s.circuit c).state ≠ .opened →
      discarded) ∧
    (f.askingSource = none → (s.label f.destination = .free ∨ ∃ n, s.label f.destination = .resting n) → discarded)

/-! ### The arrivals the Circuit Controller takes -/

/-- An OPEN frame for a listened service, its source label held by no live record, creates an OPEN circuit with
ACCEPT pending for an AUTO entry and an OFFERED one with the OFFER timer for a REFER entry; every refusal requests a
loose REFUSE and creates nothing. Where a fixed record holds the source label the refusal has cause PROTOCOL; a
dialled one that holds it, the one that does by section 5.6, enters CLOSED with cause STALE and its event, and the OPEN
is then treated as if no record held the label. -/
def Obligations.OpenFrameArrivalMeetsTheListenTable : Prop :=
  ∀ (s : State) (src : Label) (requested : Octet) (service : Word) (data : List Octet), Hears s →
    s.link.state = .up → src ≠ 0 → data.length ≤ 16 →
    let row := Instr.openFrameArrival 0 src requested service data
    let terms : OpenTerms := { requested := requested.toNat, data }
    let refused (cause : Octet) : Prop := exec row s = .next { s.heard with
      loose := (s.requestLoose { body := .refuse cause 0, dst := src, src := 0 }).loose }
    let inRange : Prop := 1 ≤ requested.toNat ∧ requested.toNat ≤ 64
    (s.peerHolder src = none →
      (¬ inRange → refused 0x09) ∧
      (inRange → s.listenEntry service = none → refused 0x03) ∧
      (∀ e, inRange → s.listenEntry service = some e →
        (s.lowestFreeCircuit = none ∨ s.scanFreeLabel = none → refused 0x04) ∧
        (∀ c l, s.lowestFreeCircuit = some c → s.scanFreeLabel = some l →
          let agreed := min (min requested.toNat e.maxSegments) (codeOf id s.link.agreed)
          let created (q : CircuitRecord) (event : Event) : Prop := ∃ t, exec row s = .next t ∧
            t = { s.heard with
              circuits := s.circuits.set c.val { q with stale := (t.circuit c).stale }
              labels := s.labels.set (labelIndex l).val (.bound c false)
              allocPtr := if l = 255 then 1 else l + 1
              events := t.events } ∧
            Raised s t event
          (e.policy = .auto →
            created { CircuitRecord.free false with
                state := .opened, kind := some .dialled, role := some .responder, localLabel := l
                peerLabel := some src, service, maxSegments := some agreed
                roundLimit := e.roundLimit, policy := some e.giveUp, window := e.window, offer := some terms
                protocol := some .accept, send := SendContext.fresh .idle true }
              { kind := .opened, circuit := some c, originator := some .peer, tag := some service
                count := some agreed }) ∧
          (e.policy = .refer →
            created { CircuitRecord.free false with
                state := .offered, kind := some .dialled, role := some .responder, localLabel := l
                peerLabel := some src, service, roundLimit := e.roundLimit, policy := some e.giveUp
                window := e.window, offer := some terms
                timer := some { purpose := .offer, remaining := s.link.config.offerTimer }
                send := SendContext.fresh .stopped true }
              { kind := .offer, circuit := some c, tag := some service, count := some requested.toNat })))) ∧
    (∀ c, s.peerHolder src = some c →
      let r := s.circuit c
      (r.kind = some .fixed → refused 0x09) ∧
      (r.kind = some .dialled → PeersLaw s → ∃ u, EndedStale c s.heard u ∧ u.peerHolder src = none ∧ Hears u ∧
        u.link = s.link ∧ exec row s = exec row u))

/-- An ACCEPT at an OPENING record with a good value and a source label no live record holds opens it: OPENED is
raised, and every block at the head of the queue that is too large fails before the first that fits starts. A dialled
record that holds the source label, the one that does by section 5.6, first enters CLOSED with cause STALE. A bad
value, or a source label that a fixed record holds, closes the record with cause PROTOCOL and a loose CLOSE; where no
OPENING record is reached a loose CLOSE with cause STALE is requested and nothing else changes. A REFUSE at an OPENING
record closes it with the frame's cause and diagnostic, confirmed; elsewhere it is discarded. The model's choices: an
OPEN still pending when the ACCEPT opens the record is emptied (log 32), and an ACCEPT at an OFFERED record draws the
loose CLOSE too (log 33). -/
def Obligations.AcceptAndRefuseArrivalsEndTheOpening : Prop :=
  (∀ (s : State) (dst src : Label) (agreed : Octet), Hears s → s.link.state = .up → dst ≠ 0 → src ≠ 0 →
    let row := Instr.acceptArrival dst src agreed
    let stale : Prop := exec row s = .next { s.heard with
      loose := (s.requestLoose { body := .close 0x08 0, dst := src, src := dst }).loose }
    (s.label dst = .free → stale) ∧ (∀ n, s.label dst = .resting n → stale) ∧
    (∀ c fixed, s.label dst = .bound c fixed →
      let r := s.circuit c
      (r.state ≠ .opening → stale) ∧
      (∀ terms, r.state = .opening → r.openRequest = some terms →
        let good : Prop := 1 ≤ agreed.toNat ∧ agreed.toNat ≤ terms.requested
        let opened : CircuitRecord := { r with
          state := .opened, timer := none, retryCount := 0, note := none, peerLabel := some src
          maxSegments := some agreed.toNat, openRequest := none
          protocol := if r.protocol = some .openK then none else r.protocol
          send := { r.send with peerReady := true } }
        let event : Event := { kind := .opened, circuit := some c, originator := some .local, tag := some r.service
                               count := some agreed.toNat }
        (¬ good ∨ (∃ d, s.peerHolder src = some d ∧ (s.circuit d).kind = some .fixed) →
          ∃ t, exec row s = .next t ∧ EngineFrame c s.heard t ∧ Dropped r s t ∧
            t.circuit c = { closedRecord r 0x09 0 .part false none with stale := (t.circuit c).stale } ∧
            t.loose = (s.requestLoose { body := .close 0x09 0, dst := src, src := r.localLabel }).loose ∧
            Raised s t (openFailedOf c r 0x09 .part)) ∧
        (good → s.peerHolder src = none → r.role = some .initiator → r.send.queue.Nodup →
          ∃ t, exec row s = .next t ∧ EngineFrame c s.heard t ∧
            HeadStarted c agreed.toNat opened [event] s.heard t) ∧
        (∀ d, good → s.peerHolder src = some d → (s.circuit d).kind = some .dialled → PeersLaw s →
          ∃ u, EndedStale d s.heard u ∧ u.peerHolder src = none ∧ Hears u ∧ u.link = s.link ∧
            exec row s = exec row u)))) ∧
  (∀ (s : State) (dst src : Label) (cause diagnostic : Octet) (c : CircuitNo), Reaches s dst c →
    let r := s.circuit c
    let row := Instr.refuseArrival dst src cause diagnostic
    (r.state ≠ .opening → exec row s = .next s.heard) ∧
    (r.state = .opening → ∃ t, exec row s = .next t ∧ EngineFrame c s.heard t ∧ Dropped r s t ∧
      t.circuit c = { closedRecord r cause diagnostic .peer true none with stale := (t.circuit c).stale } ∧
      t.loose = s.loose ∧ Raised s t (openFailedOf c r cause .peer)))

/-- A CLOSE at a dialled circuit: OPEN and REWINDING enter CLOSED with CLOSE-DONE pending; CLOSING is a crossing;
CLOSED owes CLOSE-DONE in the record or loose; OPENING and OFFERED and a fixed circuit discard it, and a FREE or
RESTING label draws a loose CLOSE-DONE. A CLOSE-DONE moves a CLOSING record to CLOSED with confirmed yes, and is
discarded elsewhere. -/
def Obligations.CloseArrivalsEndTheCircuit : Prop :=
  (∀ (s : State) (dst src : Label) (cause diagnostic : Octet), Hears s → s.link.state = .up → dst ≠ 0 → src ≠ 0 →
    let row := Instr.closeFrameArrival dst src cause diagnostic
    let loose : Prop := exec row s = .next { s.heard with
      loose := (s.requestLoose { body := .closeDone, dst := src, src := dst }).loose }
    (s.label dst = .free → loose) ∧ (∀ n, s.label dst = .resting n → loose) ∧
    (∀ c fixed, s.label dst = .bound c fixed →
      let r := s.circuit c
      let closes (q : CircuitRecord) (event : Event) (t : State) : Prop := exec row s = .next t ∧
        EngineFrame c s.heard t ∧ t.circuit c = { q with stale := (t.circuit c).stale } ∧ t.loose = s.loose ∧
        Raised s t event
      (r.kind = some .fixed → exec row s = .next s.heard) ∧
      (r.kind = some .dialled →
        (r.state = .opened ∨ r.state = .rewinding → ∃ t, Dropped r s t ∧
          closes (closedRecord r cause diagnostic .peer true (some .closeDone))
            (closedOf c r cause .peer true r.send.blocks.length) t) ∧
        (∀ k, r.state = .closing → r.closeRecord = some k → ∃ t, t.descriptors = s.descriptors ∧
          closes (closedFromClosing r true (some .closeDone)) (closedOf c r k.cause k.originator true k.discarded) t) ∧
        (r.state = .closed → r.peerLabel = some src → exec row s = .next { s.heard with
          circuits := s.circuits.set c.val { r with protocol := some .closeDone } }) ∧
        (r.state = .closed → r.peerLabel ≠ some src → loose) ∧
        (r.state = .opening ∨ r.state = .offered → exec row s = .next s.heard)))) ∧
  (∀ (s : State) (dst src : Label) (c : CircuitNo), Reaches s dst c →
    let r := s.circuit c
    (r.state ≠ .closing → exec (.closeDoneArrival dst src) s = .next s.heard) ∧
    (∀ k, r.state = .closing → r.closeRecord = some k → ∃ t, exec (.closeDoneArrival dst src) s = .next t ∧
      EngineFrame c s.heard t ∧ t.circuit c = { closedFromClosing r true none with stale := (t.circuit c).stale } ∧
      t.descriptors = s.descriptors ∧ t.loose = s.loose ∧
      Raised s t (closedOf c r k.cause k.originator true k.discarded)))

/-- A REWIND frame rewinds an OPEN record in place with REWIND-DONE pending; at a REWINDING record it is a crossing
that reopens it with its own cause; elsewhere it is discarded. A REWIND-DONE returns a REWINDING record to OPEN: a
REWIND still pending is emptied, the timer stopped, REWOUND raised with the note's cause and originator, and the send
side resumed; elsewhere it is discarded. -/
def Obligations.RewindArrivalsResetTheTransfer : Prop :=
  ∀ (s : State) (dst : Label) (cause : Octet) (c : CircuitNo), Reaches s dst c →
    let r := s.circuit c
    let reopened (row : Instr) (note : RewindNote) (owed : Option ProtocolKind) : Prop :=
      ∃ t, exec row s = .next t ∧ EngineFrame c s.heard t ∧
        t.circuit c = { reopenedRecord r owed with stale := (t.circuit c).stale } ∧
        t.descriptors = s.descriptors ∧ t.loose = s.loose ∧
        Raised s t (rewoundOf c r note.cause note.originator r.send.queue.length)
    (r.state ≠ .opened → r.state ≠ .rewinding → exec (.rewindFrameArrival dst cause) s = .next s.heard) ∧
    (r.state = .opened → ∃ t, exec (.rewindFrameArrival dst cause) s = .next t ∧ EngineFrame c s.heard t ∧
      t.circuit c = { rewoundRecord r with stale := (t.circuit c).stale } ∧ Requeued r s t ∧ t.loose = s.loose ∧
      Raised s t (rewoundOf c r cause .peer r.send.blocks.length)) ∧
    (r.state ≠ .rewinding → exec (.rewindDoneArrival dst) s = .next s.heard) ∧
    (∀ note, r.state = .rewinding → r.note = some note → r.send.peerReady = false →
      reopened (.rewindFrameArrival dst cause) note (some .rewindDone) ∧
      reopened (.rewindDoneArrival dst) note (if r.protocol = some .rewind then none else r.protocol))

/-! ### The arrivals of the block transfer -/

/-- A SEG of the current block with a new index below max segments and no announced count: with an assembly present
it takes the lowest free page; with none, it begins one in the lowest FREE descriptor while the delivered count is
below the window. The page's first octets take the payload and no other octet changes. With the announced count
present, a SEG below it, and of 256 octets below its last index, is stored the same way, and the one that fills the
last missing slot completes the block: DELIVERED at the tail of the delivery queue, BLOCK-ARRIVED raised, E advanced and
BLOCK-STATUS pending. A previous block's, a duplicate, and one for which the window or the pools have no room change
nothing but the receiver. -/
def Obligations.SegArrivalIsStoredOrDropped : Prop :=
  ∀ (s : State) (dst : Label) (index : Octet) (payload : List Octet) (c : CircuitNo), Reaches s dst c →
    (s.circuit c).state = .opened → 1 ≤ payload.length → payload.length ≤ 256 →
    index.toNat < codeOf id (s.circuit c).maxSegments →
    let r := s.circuit c
    let row := Instr.segArrival dst r.recv.expected index payload
    let dropped : Prop := exec row s = .next s.heard
    (r.recv.lastOutcome ≠ .none →
      exec (.segArrival dst (r.recv.expected - 1) index payload) s = .next s.heard) ∧
    ((∀ n, r.recv.announced = some n → index.toNat < n ∧ (index.toNat + 1 < n → payload.length = 256)) →
      (∀ d, r.recv.assembly = some d → (∃ y ∈ (s.descriptor d).slots, y.index = index.toNat) → dropped) ∧
      (∀ d, r.recv.assembly = some d → s.lowestFreePage = none → dropped) ∧
      (r.recv.assembly = none → r.window ≤ r.recv.delivered.length ∨ s.lowestFreeDescriptor = none ∨
        s.lowestFreePage = none → dropped) ∧
      (∀ (d : DescNo) (page : Nat), s.lowestFreePage = some page → s.memory.wf = true →
        let slot : Slot := { index := index.toNat, page, octets := payload.length }
        let writes (memory : Memory) : Prop := ∀ a, memory.read a =
          if 256 * page ≤ a ∧ a < 256 * page + payload.length then payload.getD (a - 256 * page) 0
          else s.memory.read a
        let fills (x : Descriptor) : Prop :=
          ∃ n, r.recv.announced = some n ∧ ∀ i, i < n → ∃ y ∈ x.slots, y.index = i
        let stores (q : CircuitRecord) (x : Descriptor) : Prop := ∃ memory : Memory, writes memory ∧
          exec row s = .next { s.heard with
            memory, circuits := s.circuits.set c.val q, descriptors := s.descriptors.set d.val x }
        let completes (x : Descriptor) : Prop :=
          let length := (x.slots.map Slot.octets).sum
          ∃ t, exec row s = .next t ∧ writes t.memory ∧
            t = { s.heard with
              memory := t.memory, circuits := t.circuits, events := t.events
              descriptors := s.descriptors.set d.val { x with
                state := .delivered, pages := x.slots.map Slot.page, slots := [], byteLength := some length } } ∧
            (∀ e, e ≠ c → t.circuit e = s.circuit e) ∧
            t.circuit c = { r with
              stale := (t.circuit c).stale, answer := some .blockStatus
              recv := { r.recv with
                assembly := none, announced := none, delivered := r.recv.delivered ++ [d]
                expected := r.recv.expected + 1, lastOutcome := .complete } } ∧
            Raised s t
              { kind := .blockArrived, circuit := some c, block := some r.recv.expected, count := some length }
        (r.recv.assembly = some d → (∀ y ∈ (s.descriptor d).slots, y.index ≠ index.toNat) →
          let x : Descriptor := { s.descriptor d with slots := insertSlot slot (s.descriptor d).slots }
          (¬ fills x → stores r x) ∧ (fills x → completes x)) ∧
        (r.recv.assembly = none → r.recv.delivered.length < r.window → s.lowestFreeDescriptor = some d →
          let x : Descriptor :=
            { state := .assembling, circuit := some c, pages := [], slots := [slot], byteLength := none
              tag := some (r.recv.expected.setWidth 16), blockNumber := some r.recv.expected }
          (¬ fills x → stores { r with recv := { r.recv with assembly := some d } } x) ∧
          (fills x → completes x))))

/-- A frame that no correct sender could have sent begins a rewind with cause PROTOCOL and originator PART: a SEG
with an index not below max segments, a SEG, BLOCK-END or BLOCK-ABANDON of a block that is neither current nor
previous, a SEG at or beyond the announced count or short below its last index, and a BLOCK-END whose count is 0 or
above max segments, differs from the announced count, or does not agree with the slots stored. -/
def Obligations.ProtocolErrorBeginsARewind : Prop :=
  ∀ (s : State) (dst : Label) (number : BlockNumber) (index count : Octet) (payload : List Octet) (c : CircuitNo),
    Reaches s dst c → (s.circuit c).state = .opened → 1 ≤ payload.length → payload.length ≤ 256 →
    let r := s.circuit c
    let limit := codeOf id r.maxSegments
    let stranger : Prop := number ≠ r.recv.expected ∧ (number ≠ r.recv.expected - 1 ∨ r.recv.lastOutcome = .none)
    let beyond (n : Nat) : Prop := n ≤ index.toNat ∨ (index.toNat + 1 < n ∧ payload.length ≠ 256)
    let disagrees (n : Nat) : Prop := (∃ m, r.recv.announced = some m ∧ m ≠ n) ∨
      ∃ y ∈ s.assemblySlots c, n ≤ y.index ∨ (y.index + 1 < n ∧ y.octets < 256)
    let rewinds (row : Instr) : Prop := ∃ t, exec row s = .next t ∧ EngineFrame c s.heard t ∧
      t.circuit c = rewindingRecord r 0x09 .part s.link.config.rewindTimer ∧ Requeued r s t ∧ t.events = s.events ∧
      t.loose = s.loose
    (limit ≤ index.toNat ∨ stranger → rewinds (.segArrival dst number index payload)) ∧
    (∀ n, r.recv.announced = some n → beyond n → rewinds (.segArrival dst r.recv.expected index payload)) ∧
    (count.toNat = 0 ∨ limit < count.toNat ∨ stranger → rewinds (.blockEndArrival dst number count)) ∧
    (disagrees count.toNat → rewinds (.blockEndArrival dst r.recv.expected count)) ∧
    (stranger → rewinds (.blockAbandonArrival dst number))

/-- A BLOCK-END of the current block that agrees with the slots stored: when every index below its count is held, the
block is DELIVERED at the tail of the delivery queue, BLOCK-ARRIVED is raised, E advances and BLOCK-STATUS is
pending; when one is missing, the count is announced and BLOCK-STATUS is pending. A previous block's draws
BLOCK-STATUS. -/
def Obligations.BlockEndArrivalCompletesOrReports : Prop :=
  ∀ (s : State) (dst : Label) (count : Octet) (c : CircuitNo), Reaches s dst c → (s.circuit c).state = .opened →
    1 ≤ count.toNat → count.toNat ≤ codeOf id (s.circuit c).maxSegments →
    let r := s.circuit c
    let n := count.toNat
    let row := Instr.blockEndArrival dst r.recv.expected count
    let agreeing : Prop := (r.recv.announced = none ∨ r.recv.announced = some n) ∧
      ∀ y ∈ s.assemblySlots c, y.index < n ∧ (y.index + 1 < n → y.octets = 256)
    (∀ d, r.recv.assembly = some d → agreeing → (∀ i, i < n → ∃ y ∈ (s.descriptor d).slots, y.index = i) →
      let length := ((s.descriptor d).slots.map Slot.octets).sum
      ∃ t, exec row s = .next t ∧ EngineFrame c s.heard t ∧
        t.circuit c = { r with
          stale := (t.circuit c).stale, answer := some .blockStatus
          recv := { r.recv with
            assembly := none, announced := none, delivered := r.recv.delivered ++ [d]
            expected := r.recv.expected + 1, lastOutcome := .complete } } ∧
        t.descriptors = s.descriptors.set d.val { s.descriptor d with
          state := .delivered, pages := (s.descriptor d).slots.map Slot.page, slots := [], byteLength := some length } ∧
        t.loose = s.loose ∧
        Raised s t
          { kind := .blockArrived, circuit := some c, block := some r.recv.expected, count := some length }) ∧
    (agreeing → (∃ i, i < n ∧ ∀ y ∈ s.assemblySlots c, y.index ≠ i) → exec row s = .next { s.heard with
      circuits := s.circuits.set c.val
        { r with answer := some .blockStatus, recv := { r.recv with announced := some n } } }) ∧
    (r.recv.lastOutcome ≠ .none →
      exec (.blockEndArrival dst (r.recv.expected - 1) count) s = .next { s.heard with
        circuits := s.circuits.set c.val { r with answer := some .blockStatus } })

/-- A BLOCK-ABANDON of the current block discards its assembly, advances E with last outcome ABANDONED and makes
BLOCK-STATUS pending; a previous block's makes BLOCK-STATUS pending and nothing else changes. -/
def Obligations.BlockAbandonArrivalDiscardsTheAssembly : Prop :=
  ∀ (s : State) (dst : Label) (c : CircuitNo), Reaches s dst c → (s.circuit c).state = .opened →
    let r := s.circuit c
    (∃ descriptors, exec (.blockAbandonArrival dst r.recv.expected) s = .next { s.heard with
        descriptors
        circuits := s.circuits.set c.val { r with
          answer := some .blockStatus
          recv := { r.recv with
            assembly := none, announced := none, expected := r.recv.expected + 1, lastOutcome := .abandoned } } } ∧
      ∀ d : DescNo, descriptors[d.val] = if r.recv.assembly = some d then freed s d else s.descriptor d) ∧
    (r.recv.lastOutcome ≠ .none → exec (.blockAbandonArrival dst (r.recv.expected - 1)) s = .next { s.heard with
      circuits := s.circuits.set c.val { r with answer := some .blockStatus } })

/-- A PROBE at an OPEN circuit makes READY pending in the answer class and changes nothing else. -/
def Obligations.ProbeArrivalOwesReady : Prop :=
  ∀ (s : State) (dst : Label) (c : CircuitNo), Reaches s dst c → (s.circuit c).state = .opened →
    exec (.probeArrival dst) s = .next { s.heard with
      circuits := s.circuits.set c.val { s.circuit c with answer := some .ready } }

/-- A BLOCK-STATUS at an OPEN circuit in IDLE or SENDING, and one in POLLING or ABANDONING for a block other than the
active one, is discarded. One for the active block: in POLLING, MISSING with a good map below the round limit begins
a new round, a bad map or ABANDONED begins a rewind with cause PROTOCOL, and COMPLETE raises BLOCK-SENT, frees the block
and advances. In ABANDONING, COMPLETE does the same, ABANDONED raises BLOCK-FAILED with cause ROUNDS and advances,
and MISSING is ignored. An advance with the peer ready fails every block at the head of the queue that is too large
before the first that fits starts. -/
def Obligations.BlockStatusArrivalDecidesTheBlock : Prop :=
  (∀ (s : State) (dst : Label) (number : BlockNumber) (outcome : StatusOutcome) (ready : Bool) (c : CircuitNo),
    Reaches s dst c → (s.circuit c).state = .opened →
    let x := (s.circuit c).send
    x.sender = .idle ∨ x.sender = .sending ∨
      ((x.sender = .polling ∨ x.sender = .abandoning) ∧ ∀ a, x.active = some a → a.number ≠ number) →
    exec (.blockStatusArrival dst number outcome ready) s = .next s.heard) ∧
  ∀ (s : State) (dst : Label) (ready : Bool) (c : CircuitNo) (a : ActiveBlock), Reaches s dst c →
    (s.circuit c).state = .opened → (s.circuit c).send.active = some a → a.count ≤ 64 →
    let r := s.circuit c
    let row (outcome : StatusOutcome) := Instr.blockStatusArrival dst a.number outcome ready
    let goodMap (map : SegSet) : Prop :=
      map ≠ 0 ∧ ∀ i, map.getLsbD i = true → i < a.count ∧ a.acked.getLsbD i = false
    let rewinds (outcome : StatusOutcome) : Prop := ∃ t, exec (row outcome) s = .next t ∧ EngineFrame c s.heard t ∧
      t.circuit c = rewindingRecord r 0x09 .part s.link.config.rewindTimer ∧ Requeued r s t ∧ t.events = s.events ∧
      t.loose = s.loose
    let advances (outcome : StatusOutcome) (event : Event) : Prop :=
      (r.send.queue = [] → ∃ t, exec (row outcome) s = .next t ∧ EngineFrame c s.heard t ∧
        t.circuit c = { r with
          stale := (t.circuit c).stale, timer := none, transfer := none, send := r.send.advanced a ready } ∧
        t.descriptors = s.descriptors.set a.desc.val (freed s a.desc) ∧ t.loose = s.loose ∧ Raised s t event) ∧
      (r.send.queue ≠ [] → ready = false → ∃ t, exec (row outcome) s = .next t ∧ EngineFrame c s.heard t ∧
        t.circuit c = { r with
          stale := (t.circuit c).stale, transfer := none
          timer := some { purpose := .probe, remaining := s.link.config.probeInterval }
          send := { r.send.advanced a false with sender := .held } } ∧
        t.descriptors = s.descriptors.set a.desc.val (freed s a.desc) ∧ t.loose = s.loose ∧ Raised s t event) ∧
      (ready = true → r.send.queue.Nodup → a.desc ∉ r.send.queue →
        let decided : CircuitRecord := { r with timer := none, transfer := none, send := r.send.advanced a true }
        ∃ t, exec (row outcome) s = .next t ∧ EngineFrame c s.heard t ∧
          HeadStarted c (codeOf id r.maxSegments) decided [event]
            { s.heard with descriptors := s.descriptors.set a.desc.val (freed s a.desc) } t)
    (r.send.sender = .polling →
      (∀ map : SegSet, goodMap map → a.round < r.roundLimit → exec (row (.missing map)) s = .next { s.heard with
        circuits := s.circuits.set c.val { r with
          timer := none, transfer := none
          send := { r.send with
            sender := .sending, pollCount := 0
            active := some { a with
              acked := BitVec.ofNat 64 (2 ^ a.count - 1) &&& ~~~map, toSend := map, round := a.round + 1 } } } }) ∧
      (∀ map : SegSet, ¬ goodMap map → rewinds (.missing map)) ∧
      advances .complete (sentOf c a (s.descriptor a.desc).tag) ∧
      rewinds .abandoned) ∧
    (r.send.sender = .abandoning →
      (∀ map, exec (row (.missing map)) s = .next s.heard) ∧
      advances .complete (sentOf c a (s.descriptor a.desc).tag) ∧
      advances .abandoned (failedOf c a (s.descriptor a.desc).tag))

/-- The give-up policy of a block whose rounds are used up: ABANDON begins the abandon exchange; REWIND and CLOSE
raise BLOCK-FAILED with cause ROUNDS, free the block, and rewind or close the circuit. Under REWIND the assembly is
freed and the queued blocks stay; under CLOSE the queued blocks and the assembly are freed; no other descriptor
changes. -/
def Obligations.GiveUpAppliesThePolicy : Prop :=
  ∀ (s : State) (dst : Label) (ready : Bool) (map : SegSet) (c : CircuitNo) (a : ActiveBlock), Reaches s dst c →
    (s.circuit c).state = .opened → (s.circuit c).send.sender = .polling → (s.circuit c).send.active = some a →
    map ≠ 0 → (∀ i, map.getLsbD i = true → i < a.count ∧ a.acked.getLsbD i = false) → a.count ≤ 64 →
    (s.circuit c).roundLimit ≤ a.round →
    let r := s.circuit c
    let row := Instr.blockStatusArrival dst a.number (.missing map) ready
    let without : CircuitRecord := { r with send := { r.send with active := none } }
    let fails (q : CircuitRecord) (freeing : DescNo → Prop) : Prop := ∃ t, exec row s = .next t ∧
      EngineFrame c s.heard t ∧ t.circuit c = { q with stale := (t.circuit c).stale } ∧ t.loose = s.loose ∧
      (∀ d, (freeing d → t.descriptor d = freed s d) ∧ (¬ freeing d → t.descriptor d = s.descriptor d)) ∧
      Raised s t (failedOf c a (s.descriptor a.desc).tag)
    (r.policy = some .abandon → exec row s = .next { s.heard with
      circuits := s.circuits.set c.val { r with
        timer := none, transfer := some .blockAbandon
        send := { r.send with sender := .abandoning, pollCount := 1 } } }) ∧
    (r.policy = some .rewind → fails (rewindingRecord without 0x0A .part s.link.config.rewindTimer)
      (fun d => d = a.desc ∨ r.recv.assembly = some d)) ∧
    (r.policy = some .close → fails (closingRecord without 0x0A 0 .part s.link.config.closeTimer)
      (fun d => d = a.desc ∨ d ∈ r.send.queue ∨ r.recv.assembly = some d))

/-- A READY at an OPEN circuit: in IDLE it is recorded; in SENDING, POLLING and ABANDONING it is discarded; in HELD
with true it starts the head block, every block before the first that fits failing as too large; in HELD with false the
sender stays HELD and the PROBE timer starts again unless a PROBE is pending or in transmission. A BLOCK-STATUS in HELD
for the last block sent is such a report, unless its outcome is MISSING; for any other block it is discarded. The
model's choice: a PROBE in transmission counts while it is not detached (log 29). -/
def Obligations.ReadyArrivalStartsTheHeadBlock : Prop :=
  ∀ (s : State) (dst : Label) (ready : Bool) (c : CircuitNo), Reaches s dst c → (s.circuit c).state = .opened →
    let r := s.circuit c
    let replaced (q : CircuitRecord) : Host.Outcome State Fault Refusal :=
      .next { s.heard with circuits := s.circuits.set c.val q }
    let probing : Prop := r.transfer = some .probe ∨
      ∃ t label, s.tx = some t ∧ t.owner = .circuit c ∧ t.detached = false ∧ t.frame = .probe label
    (r.send.sender = .sending ∨ r.send.sender = .polling ∨ r.send.sender = .abandoning →
      exec (.readyArrival dst ready) s = .next s.heard) ∧
    (r.send.sender = .idle → exec (.readyArrival dst ready) s =
      replaced { r with send := { r.send with peerReady := ready } }) ∧
    (r.send.sender = .held →
      (¬ probing → exec (.readyArrival dst false) s = replaced { r with
        timer := some { purpose := .probe, remaining := s.link.config.probeInterval }
        send := { r.send with pollCount := 0, peerReady := false } }) ∧
      (probing → exec (.readyArrival dst false) s = replaced { r with
        timer := none, send := { r.send with pollCount := 0, peerReady := false } }) ∧
      (∀ d rest, r.send.queue = d :: rest → (s.descriptor d).pages.length ≤ codeOf id r.maxSegments →
        exec (.readyArrival dst true) s = .next { s.heard with
          circuits := s.circuits.set c.val { r with
            timer := none, transfer := none
            send := { r.send with peerReady := true }.started d rest (s.descriptor d).pages.length }
          descriptors := s.descriptors.set d.val
            { s.descriptor d with state := .active, blockNumber := some r.send.nextNumber } }) ∧
      (r.send.queue.Nodup →
        let told : CircuitRecord :=
          { r with timer := none, transfer := none, send := { r.send with pollCount := 0, peerReady := true } }
        ∃ t, exec (.readyArrival dst true) s = .next t ∧ EngineFrame c s.heard t ∧
          HeadStarted c (codeOf id r.maxSegments) told [] s.heard t) ∧
      (∀ number count outcome, r.send.lastSent = some (number, count) → outcome = .complete ∨ outcome = .abandoned →
        exec (.blockStatusArrival dst number outcome ready) s = exec (.readyArrival dst ready) s) ∧
      (∀ number outcome, (∀ count, r.send.lastSent ≠ some (number, count)) ∨ (∃ map, outcome = .missing map) →
        exec (.blockStatusArrival dst number outcome ready) s = .next s.heard))

/-! ### Expiries -/

/-- The OPEN expiry closes an OPENING record with cause TIMEOUT. The OFFER expiry requests a loose REFUSE with cause
NO-ANSWER, raises OPEN-FAILED, and frees the OFFERED record, its label at rest. The CLOSE expiry sends CLOSE again
while retries remain, and otherwise closes the record unconfirmed. The REWIND expiry sends REWIND again, on a fixed
record without limit, and on a dialled one with its retries used up enters CLOSING. The model's choices: an expiry row
acts whatever time the timer has left, and the row of a timer that does not run changes nothing (log 2). -/
def Obligations.ExchangeTimersExpire : Prop :=
  ∀ (s : State) (c : CircuitNo) (ms : Nat),
    let r := s.circuit c
    let again (k : ProtocolKind) (purpose : TimerPurpose) (time : Nat) : Host.Outcome State Fault Refusal :=
      .next { s with circuits := s.circuits.set c.val { r with
        protocol := some k, retryCount := min (r.retryCount + 1) 255
        timer := some { purpose, remaining := time } } }
    (r.timer = some { purpose := .openT, remaining := ms } → r.state = .opening →
      ∃ t, exec (.openTimerExpiry c) s = .next t ∧ EngineFrame c s t ∧ Dropped r s t ∧
        t.circuit c = { closedRecord r 0x06 0 .part false none with stale := (t.circuit c).stale } ∧
        t.loose = s.loose ∧ Raised s t (openFailedOf c r 0x06 .part)) ∧
    (∀ peer, r.timer = some { purpose := .offer, remaining := ms } → r.state = .offered → r.peerLabel = some peer →
      r.localLabel ≠ 0 → s.events.length ≤ 126 → exec (.offerTimerExpiry c) s = .next { s.withoutRecord c with
        loose := (s.requestLoose { body := .refuse 0x05 0, dst := peer, src := r.localLabel }).loose
        events := s.events ++
          [{ kind := .openFailed, circuit := some c, cause := some 0x05, originator := some .part
             tag := some r.service, count := some 0 }] }) ∧
    (r.timer = some { purpose := .close, remaining := ms } → r.state = .closing →
      (r.retryCount < s.link.config.closeRetries →
        exec (.closeTimerExpiry c) s = again .close .close s.link.config.closeTimer) ∧
      (∀ k, s.link.config.closeRetries ≤ r.retryCount → r.closeRecord = some k →
        ∃ t, exec (.closeTimerExpiry c) s = .next t ∧ EngineFrame c s t ∧
          t.circuit c = { closedFromClosing r false none with stale := (t.circuit c).stale } ∧
          t.descriptors = s.descriptors ∧ t.loose = s.loose ∧
          Raised s t (closedOf c r k.cause k.originator k.confirmed k.discarded))) ∧
    (r.timer = some { purpose := .rewind, remaining := ms } → r.state = .rewinding →
      (r.kind = some .fixed ∨ r.retryCount < s.link.config.rewindRetries →
        exec (.rewindTimerExpiry c) s = again .rewind .rewind s.link.config.rewindTimer) ∧
      (r.kind = some .dialled → s.link.config.rewindRetries ≤ r.retryCount →
        ∃ t, exec (.rewindTimerExpiry c) s = .next t ∧ EngineFrame c s t ∧ Dropped r s t ∧ t.events = s.events ∧
          t.loose = s.loose ∧ t.circuit c = closingRecord r 0x07 0 .part s.link.config.closeTimer)) ∧
    (∀ purpose, (∀ t, r.timer = some t → t.purpose ≠ purpose) → exec (expiryRow c purpose) s = .next s)

/-- The STATUS expiry resends BLOCK-END in POLLING and BLOCK-ABANDON in ABANDONING, and the PROBE expiry resends
PROBE in HELD, while the poll count is below the poll limit; at the limit a dialled circuit enters CLOSING and a
fixed one REWINDING, cause NO-RESPONSE. The model's choice: an expiry row acts whatever time the timer has left
(log 2). -/
def Obligations.PollTimersResendOrGiveUp : Prop :=
  ∀ (s : State) (c : CircuitNo) (ms : Nat), (s.circuit c).state = .opened →
    let r := s.circuit c
    let polled (row : Instr) (k : TransferKind) : Prop :=
      (r.send.pollCount < s.link.config.pollLimit → exec row s = .next { s with
        circuits := s.circuits.set c.val { r with
          timer := none, transfer := some k, send := { r.send with pollCount := r.send.pollCount + 1 } } }) ∧
      (s.link.config.pollLimit ≤ r.send.pollCount →
        (r.kind = some .dialled → ∃ t, exec row s = .next t ∧ EngineFrame c s t ∧ Dropped r s t ∧
          t.events = s.events ∧ t.loose = s.loose ∧
          t.circuit c = closingRecord r 0x07 0 .part s.link.config.closeTimer) ∧
        (r.kind = some .fixed → ∃ t, exec row s = .next t ∧ EngineFrame c s t ∧ Requeued r s t ∧
          t.events = s.events ∧ t.loose = s.loose ∧
          t.circuit c = rewindingRecord r 0x07 .part s.link.config.rewindTimer))
    (r.timer = some { purpose := .status, remaining := ms } →
      (r.send.sender = .polling → polled (.statusTimerExpiry c) .blockEnd) ∧
      (r.send.sender = .abandoning → polled (.statusTimerExpiry c) .blockAbandon)) ∧
    (r.timer = some { purpose := .probe, remaining := ms } → r.send.sender = .held →
      polled (.probeTimerExpiry c) .probe)

/-- The START expiry in STARTING makes LINK-START pending and starts the timer again; the STOP expiry in STOPPING
brings the link DOWN; the end of a rest time makes its label FREE. The model's choice: an expiry row acts whatever time
is left (log 2). -/
def Obligations.LinkTimersAndRestTimesExpire : Prop :=
  ∀ (s : State) (ms : Nat),
    (s.link.timer = some { purpose := .start, remaining := ms } → s.link.state = .starting →
      exec .startTimerExpiry s = .next { s with link := { s.link with
        pending := some .linkStart
        timer := some { purpose := .start, remaining := s.link.config.startInterval } } }) ∧
    (s.link.timer = some { purpose := .stop, remaining := ms } → s.link.state = .stopping →
      exec .stopTimerExpiry s = .next { s with link := s.link.downed }) ∧
    (∀ l : Label, l ≠ 0 → s.label l = .resting ms →
      exec (.restTimeExpiry l) s = .next { s with labels := s.labels.set (labelIndex l).val .free })

/-! ### The Transmit Scheduler -/

/-- The transmission start: the pending link frame first, then in UP the head of the loose-reply queue, then the next
record in turn with a pending class, its highest class first, then the next sending circuit's lowest segment; the
frame starts, its owner's entry is emptied, and a free transmitter without a claim stays idle. A segment's payload is
256 octets of its page below the last index of a block of n segments, and the L - (n - 1) * 256 octets left of its byte
length L at the last. -/
def Obligations.SchedulerServesItsStagesInOrder : Prop :=
  ∀ s : State, s.tx = none →
    let starts (owner : TxOwner) (frame : Frame) (pin : Option (Nat × DescNo)) (t : State) : Prop :=
      exec .transmissionStart s = .next { t with line := .frame, tx := some { owner, frame, detached := false, pin } }
    let claims (c : CircuitNo) : Prop :=
      (s.circuit c).protocol ≠ none ∨ (s.circuit c).answer ≠ none ∨ (s.circuit c).transfer ≠ none
    let sends (c : CircuitNo) : Prop :=
      (s.circuit c).send.sender = .sending ∧ ∃ a, (s.circuit c).send.active = some a ∧ a.toSend ≠ 0
    (∀ p, s.link.pending = some p →
      starts .link (s.linkFrame p) none { s with link := { s.link with pending := none } }) ∧
    (s.link.pending = none → s.link.state ≠ .up → exec .transmissionStart s = .next s) ∧
    (s.link.pending = none → s.link.state = .up →
      (∀ x rest, s.loose = x :: rest → starts .loose x.frame none { s with loose := rest }) ∧
      (s.loose = [] → ∀ c k : CircuitNo, c = s.controlPos + 1 + k →
        (∀ j : CircuitNo, j < k → ¬ claims (s.controlPos + 1 + j)) →
        let r := s.circuit c
        let serves (q : CircuitRecord) (f : Frame) : Prop :=
          starts (.circuit c) f none { s with circuits := s.circuits.set c.val q, controlPos := c }
        (∀ p, r.protocol = some p → serves { r with protocol := none } (r.protocolFrame p)) ∧
        (∀ p, r.protocol = none → r.answer = some p → serves { r with
          answer := none
          recv := { r.recv with heldReported := !decide (r.recv.delivered.length < r.window) } }
          (s.answerFrame c p)) ∧
        (∀ p, r.protocol = none → r.answer = none → r.transfer = some p →
          serves { r with transfer := none } (r.transferFrame p))) ∧
      (s.loose = [] → (∀ c, ¬ claims c) →
        (∀ c k : CircuitNo, c = s.dataPos + 1 + k → (∀ j : CircuitNo, j < k → ¬ sends (s.dataPos + 1 + j)) →
          ∀ (a : ActiveBlock) (i page : Nat), (s.circuit c).send.sender = .sending →
            (s.circuit c).send.active = some a → i < 64 → a.toSend.getLsbD i = true →
            (∀ j, j < i → a.toSend.getLsbD j = false) → (s.descriptor a.desc).pages[i]? = some page →
            let n := (s.descriptor a.desc).pages.length
            let left := codeOf id (s.descriptor a.desc).byteLength - (n - 1) * 256
            starts (.circuit c)
              (.seg (s.circuit c).destination a.number (BitVec.ofNat 8 i)
                ((List.range (if i + 1 < n then 256 else left)).map
                  (fun k => s.memory.read (256 * page + k))))
              (some (page, a.desc)) { s with dataPos := c }) ∧
        ((∀ c, ¬ sends c) → exec .transmissionStart s = .next s)))

/-- The frames built at a transmission start carry the owner's fields as they stand then. -/
def Obligations.FramesAreBuiltFromTheirOwners : Prop :=
  ∀ (s : State) (c : CircuitNo) (peer : Label), (s.circuit c).peerLabel = some peer →
    let r := s.circuit c
    let ready := decide (r.recv.delivered.length < r.window)
    s.linkFrame .linkStart =
      .linkStart 1 (BitVec.ofNat 8 s.link.config.offered) s.link.config.identity s.link.ownStart ∧
    s.linkFrame .linkAgree =
      .linkAgree (BitVec.ofNat 8 s.link.config.offered) s.link.config.identity s.link.ownStart ∧
    (∀ cause, s.linkFrame (.linkStop cause) = .linkStop cause) ∧
    (∀ (x : LooseReply) (cause diagnostic : Octet),
      (x.body = .refuse cause diagnostic → x.frame = .refuse x.dst x.src cause diagnostic) ∧
      (x.body = .close cause diagnostic → x.frame = .close x.dst x.src cause diagnostic) ∧
      (x.body = .closeDone → x.frame = .closeDone x.dst x.src)) ∧
    (∀ (q : CircuitRecord) (terms : OpenTerms), q.openRequest = some terms → q.protocolFrame .openK =
      .openFrame 0 q.localLabel (BitVec.ofNat 8 terms.requested) q.service terms.data) ∧
    (∀ n, r.maxSegments = some n → r.protocolFrame .accept = .accept peer r.localLabel (BitVec.ofNat 8 n)) ∧
    (∀ k, r.closeRecord = some k → r.protocolFrame .close = .close peer r.localLabel k.cause k.diagnostic) ∧
    r.protocolFrame .closeDone = .closeDone peer r.localLabel ∧
    (∀ note, r.note = some note → r.protocolFrame .rewind = .rewind peer note.cause) ∧
    r.protocolFrame .rewindDone = .rewindDone peer ∧
    (∀ a, r.send.active = some a →
      r.transferFrame .blockEnd = .blockEnd peer a.number (BitVec.ofNat 8 a.count) ∧
      r.transferFrame .blockAbandon = .blockAbandon peer a.number) ∧
    r.transferFrame .probe = .probe peer ∧ s.answerFrame c .ready = .ready peer ready ∧
    (r.recv.announced = none → r.recv.lastOutcome = .complete →
      s.answerFrame c .blockStatus = .blockStatus peer (r.recv.expected - 1) .complete ready) ∧
    (r.recv.announced = none → r.recv.lastOutcome = .abandoned →
      s.answerFrame c .blockStatus = .blockStatus peer (r.recv.expected - 1) .abandoned ready) ∧
    (∀ n, r.recv.announced = some n → n ≤ 64 → ∃ map : SegSet,
      s.answerFrame c .blockStatus = .blockStatus peer r.recv.expected (.missing map) ready ∧
      ∀ i, map.getLsbD i = true ↔ i < n ∧ ∀ y ∈ s.assemblySlots c, y.index ≠ i)

/-- The transmission end frees the transmitter and ends the pin of a SEG: a RETURNING descriptor becomes FREE, whatever
the send context. A SENDING block's segment leaves the to-send set, and its last one makes BLOCK-END pending; BLOCK-END
starts the STATUS timer in POLLING, BLOCK-ABANDON starts it in ABANDONING, and PROBE starts the PROBE timer in HELD. A
frame whose block or sender state no longer fits, a frame of any other kind, and a detached frame are reported to no
engine. The answering LINK-STOP brings the link DOWN. The model's choices: the answering one is the one that ends with
stop kind ANSWERING and no link frame pending (log 12), and the end of a PROBE in HELD starts the PROBE timer also where
a newer PROBE is pending (log 31). -/
def Obligations.TransmissionEndReportsToTheOwner : Prop :=
  ∀ (s : State) (x : TxFrame), s.tx = some x →
    let ends (t : State) : Prop := exec .transmissionEnd s = .next { t with tx := none, line := .idleFill }
    (x.owner = .loose → ends s) ∧
    (x.owner = .link → (∀ cause, x.frame ≠ .linkStop cause) → ends s) ∧
    (∀ cause, x.owner = .link → x.frame = .linkStop cause →
      (s.link.state = .stopping → s.link.stopKind = some .answering → s.link.pending = none →
        ends { s with link := s.link.downed }) ∧
      (s.link.state ≠ .stopping ∨ s.link.stopKind ≠ some .answering ∨ s.link.pending ≠ none → ends s)) ∧
    (∀ c, x.owner = .circuit c →
      let r := s.circuit c
      let released : Vector Descriptor 256 :=
        match x.pin with
        | none => s.descriptors
        | some (_, d) =>
          if (s.descriptor d).state = .returning then s.descriptors.set d.val Descriptor.free else s.descriptors
      let silent : Prop := ends { s with descriptors := released }
      let reports (q : CircuitRecord) : Prop :=
        ends { s with descriptors := released, circuits := s.circuits.set c.val q }
      (x.detached = true → silent) ∧
      (x.detached = false →
        (∀ label number index payload, x.frame = .seg label number index payload →
          let sent (a : ActiveBlock) : Prop := r.send.sender = .sending ∧ r.send.active = some a ∧
            a.number = number ∧ a.toSend.getLsbD index.toNat = true
          (∀ a, sent a →
            let left : SegSet := a.toSend &&& ~~~(BitVec.ofNat 64 (2 ^ index.toNat))
            (left ≠ 0 → reports { r with send := { r.send with active := some { a with toSend := left } } }) ∧
            (left = 0 → reports { r with
              transfer := some .blockEnd
              send := { r.send with pollCount := 1, active := some { a with toSend := left } } })) ∧
          ((∀ a, ¬ sent a) → silent)) ∧
        (∀ label number count, x.frame = .blockEnd label number count →
          let ended : Prop := ∃ a, r.send.active = some a ∧ a.number = number ∧
            ((r.send.sender = .sending ∧ a.toSend = 0) ∨ r.send.sender = .polling)
          (ended → reports { r with
            timer := some { purpose := .status, remaining := s.link.config.statusTimer }
            send := { r.send with sender := .polling } }) ∧
          (¬ ended → silent)) ∧
        (∀ label number, x.frame = .blockAbandon label number →
          let ended : Prop := ∃ a, r.send.active = some a ∧ a.number = number ∧ r.send.sender = .abandoning
          (ended → reports { r with
            timer := some { purpose := .status, remaining := s.link.config.statusTimer } }) ∧
          (¬ ended → silent)) ∧
        (∀ label, x.frame = .probe label →
          (r.send.sender = .held → reports { r with
            timer := some { purpose := .probe, remaining := s.link.config.probeInterval } }) ∧
          (r.send.sender ≠ .held → silent)) ∧
        ((∀ label number index payload, x.frame ≠ .seg label number index payload) →
          (∀ label number count, x.frame ≠ .blockEnd label number count) →
          (∀ label number, x.frame ≠ .blockAbandon label number) → (∀ label, x.frame ≠ .probe label) → silent)))

/-! ### The laws every step keeps -/

/-- The state after reset keeps every law of the part. The model's choices among the laws: an OPEN is pending in OPENING
alone (log 32), and a REFUSE in no record's protocol class (log 16). -/
def Obligations.ResetKeepsEveryLaw : Prop :=
  BoundsLaw State.reset ∧ RecordsLaw State.reset ∧ LinkLaw State.reset ∧ PagesLaw State.reset ∧
    LabelsLaw State.reset ∧ HoldingsLaw State.reset ∧ CollectionsLaw State.reset ∧ PeersLaw State.reset ∧
    ListenLaw State.reset

/-- Every step keeps the queues and buffers in their bounds and page memory in its canonical form. -/
def Obligations.BoundsAreKept : Prop := ∀ s t : State, BoundsLaw s → step s = .next t → BoundsLaw t

/-- Every step keeps every record as its state requires and in agreement with the link. The model's choices among what
a state requires: an OPEN is pending in OPENING alone (log 32), and a REFUSE in no record's protocol class (log 16). -/
def Obligations.RecordsAndLinkAreKept : Prop :=
  ∀ s t : State, RecordsLaw s → LinkLaw s → step s = .next t → RecordsLaw t ∧ LinkLaw t

/-- Every step keeps each page in the free pool or in one descriptor. -/
def Obligations.PagesAreKept : Prop := ∀ s t : State, PagesLaw s → step s = .next t → PagesLaw t

/-- Every step keeps the correspondence of records and labels. -/
def Obligations.LabelsAreKept : Prop := ∀ s t : State, LabelsLaw s → step s = .next t → LabelsLaw t

/-- Every step keeps what circuits hold inside their bounds. -/
def Obligations.HoldingsAreKept : Prop := ∀ s t : State, HoldingsLaw s → step s = .next t → HoldingsLaw t

/-- Every step keeps each descriptor's state in agreement with the one collection that holds it, and a descriptor
RETURNING only while it is pinned. -/
def Obligations.CollectionsAreKept : Prop :=
  ∀ s t : State, RecordsLaw s → CollectionsLaw s → step s = .next t → CollectionsLaw t

/-- Every step keeps one record at most in OFFERED, OPEN, REWINDING, CLOSING or DORMANT for each peer label, and one
listen entry at most for each service number. -/
def Obligations.PeerLabelsAndListenEntriesAreKept : Prop :=
  (∀ s t : State, RecordsLaw s → LinkLaw s → PeersLaw s → step s = .next t → PeersLaw t) ∧
  (∀ s t : State, ListenLaw s → step s = .next t → ListenLaw t)

end
end

