-- ==== Sys2Proof/Laws/Bits.lean ====
section
/-! SUPPORT. The order of bits on the line (R177): the bits of an octet, one by one, and the octet they make. -/

namespace Sys2Proof.Machine

@[simp] theorem octetBits_length (o : Octet) : (octetBits o).length = 8 := by simp [octetBits]

/-- The bit sent i-th is the octet's bit i. -/
theorem octetBits_getElem? (o : Octet) (i : Nat) (h : i < 8) : (octetBits o)[i]? = some (o.getLsbD i) := by
  simp [octetBits, h]

theorem octetBits_eq (o : Octet) : octetBits o =
    [o.getLsbD 0, o.getLsbD 1, o.getLsbD 2, o.getLsbD 3, o.getLsbD 4, o.getLsbD 5, o.getLsbD 6, o.getLsbD 7] := rfl

/-- The bits of an octet, received in the order they are sent, give the octet. -/
theorem octetOfBits_octetBits (o : Octet) : octetOfBits (octetBits o) = o := by
  have h : ∀ b0 b1 b2 b3 b4 b5 b6 b7 : Bool, ∀ i : Fin 8,
      (octetOfBits [b0, b1, b2, b3, b4, b5, b6, b7]).getLsbD i.val = [b0, b1, b2, b3, b4, b5, b6, b7][i.val] := by
    decide
  apply BitVec.eq_of_getLsbD_eq
  intro i hi
  rw [octetBits_eq, h _ _ _ _ _ _ _ _ ⟨i, hi⟩]
  match i, hi with
  | 0, _ | 1, _ | 2, _ | 3, _ | 4, _ | 5, _ | 6, _ | 7, _ => rfl

@[simp] theorem lineBits_nil : lineBits [] = [] := rfl

theorem lineBits_cons (o : Octet) (os : List Octet) : lineBits (o :: os) = octetBits o ++ lineBits os := rfl

end Sys2Proof.Machine
end

