-- ==== Sys2Proof/Laws/State.lean ====
section
/-! SUPPORT. What each update of the state does to each field: one lemma per field per update, true by rfl, so that no
later proof unfolds a record update. -/

namespace Sys2Proof.Machine

/-! ### State.setCircuit -/

@[simp] theorem setCircuit_listen (s : State) (c : CircuitNo) (r : CircuitRecord) : (s.setCircuit c r).listen = s.listen := (rfl)
@[simp] theorem setCircuit_labels (s : State) (c : CircuitNo) (r : CircuitRecord) : (s.setCircuit c r).labels = s.labels := (rfl)
@[simp] theorem setCircuit_allocPtr (s : State) (c : CircuitNo) (r : CircuitRecord) : (s.setCircuit c r).allocPtr = s.allocPtr := (rfl)
@[simp] theorem setCircuit_loose (s : State) (c : CircuitNo) (r : CircuitRecord) : (s.setCircuit c r).loose = s.loose := (rfl)
@[simp] theorem setCircuit_descriptors (s : State) (c : CircuitNo) (r : CircuitRecord) : (s.setCircuit c r).descriptors = s.descriptors := (rfl)
@[simp] theorem setCircuit_memory (s : State) (c : CircuitNo) (r : CircuitRecord) : (s.setCircuit c r).memory = s.memory := (rfl)
@[simp] theorem setCircuit_latch (s : State) (c : CircuitNo) (r : CircuitRecord) : (s.setCircuit c r).latch = s.latch := (rfl)
@[simp] theorem setCircuit_link (s : State) (c : CircuitNo) (r : CircuitRecord) : (s.setCircuit c r).link = s.link := (rfl)
@[simp] theorem setCircuit_lineReady (s : State) (c : CircuitNo) (r : CircuitRecord) : (s.setCircuit c r).lineReady = s.lineReady := (rfl)
@[simp] theorem setCircuit_receiver (s : State) (c : CircuitNo) (r : CircuitRecord) : (s.setCircuit c r).receiver = s.receiver := (rfl)
@[simp] theorem setCircuit_tx (s : State) (c : CircuitNo) (r : CircuitRecord) : (s.setCircuit c r).tx = s.tx := (rfl)
@[simp] theorem setCircuit_line (s : State) (c : CircuitNo) (r : CircuitRecord) : (s.setCircuit c r).line = s.line := (rfl)
@[simp] theorem setCircuit_controlPos (s : State) (c : CircuitNo) (r : CircuitRecord) : (s.setCircuit c r).controlPos = s.controlPos := (rfl)
@[simp] theorem setCircuit_dataPos (s : State) (c : CircuitNo) (r : CircuitRecord) : (s.setCircuit c r).dataPos = s.dataPos := (rfl)
@[simp] theorem setCircuit_port (s : State) (c : CircuitNo) (r : CircuitRecord) : (s.setCircuit c r).port = s.port := (rfl)
@[simp] theorem setCircuit_startUp (s : State) (c : CircuitNo) (r : CircuitRecord) : (s.setCircuit c r).startUp = s.startUp := (rfl)
@[simp] theorem setCircuit_msCount (s : State) (c : CircuitNo) (r : CircuitRecord) : (s.setCircuit c r).msCount = s.msCount := (rfl)
@[simp] theorem setCircuit_dataBus (s : State) (c : CircuitNo) (r : CircuitRecord) : (s.setCircuit c r).dataBus = s.dataBus := (rfl)
@[simp] theorem setCircuit_events (s : State) (c : CircuitNo) (r : CircuitRecord) : (s.setCircuit c r).events = s.events := (rfl)
@[simp] theorem setCircuit_linkStale (s : State) (c : CircuitNo) (r : CircuitRecord) : (s.setCircuit c r).linkStale = s.linkStale := (rfl)
@[simp] theorem setCircuit_intEnable (s : State) (c : CircuitNo) (r : CircuitRecord) : (s.setCircuit c r).intEnable = s.intEnable := (rfl)
@[simp] theorem setCircuit_freeCount (s : State) (c : CircuitNo) (r : CircuitRecord) : (s.setCircuit c r).freeCount = s.freeCount := (rfl)
@[simp] theorem setCircuit_pending (s : State) (c : CircuitNo) (r : CircuitRecord) : (s.setCircuit c r).pending = s.pending := (rfl)

/-! ### State.setDescriptor -/

@[simp] theorem setDescriptor_circuits (s : State) (d : DescNo) (x : Descriptor) : (s.setDescriptor d x).circuits = s.circuits := (rfl)
@[simp] theorem setDescriptor_listen (s : State) (d : DescNo) (x : Descriptor) : (s.setDescriptor d x).listen = s.listen := (rfl)
@[simp] theorem setDescriptor_labels (s : State) (d : DescNo) (x : Descriptor) : (s.setDescriptor d x).labels = s.labels := (rfl)
@[simp] theorem setDescriptor_allocPtr (s : State) (d : DescNo) (x : Descriptor) : (s.setDescriptor d x).allocPtr = s.allocPtr := (rfl)
@[simp] theorem setDescriptor_loose (s : State) (d : DescNo) (x : Descriptor) : (s.setDescriptor d x).loose = s.loose := (rfl)
@[simp] theorem setDescriptor_memory (s : State) (d : DescNo) (x : Descriptor) : (s.setDescriptor d x).memory = s.memory := (rfl)
@[simp] theorem setDescriptor_latch (s : State) (d : DescNo) (x : Descriptor) : (s.setDescriptor d x).latch = s.latch := (rfl)
@[simp] theorem setDescriptor_link (s : State) (d : DescNo) (x : Descriptor) : (s.setDescriptor d x).link = s.link := (rfl)
@[simp] theorem setDescriptor_lineReady (s : State) (d : DescNo) (x : Descriptor) : (s.setDescriptor d x).lineReady = s.lineReady := (rfl)
@[simp] theorem setDescriptor_receiver (s : State) (d : DescNo) (x : Descriptor) : (s.setDescriptor d x).receiver = s.receiver := (rfl)
@[simp] theorem setDescriptor_tx (s : State) (d : DescNo) (x : Descriptor) : (s.setDescriptor d x).tx = s.tx := (rfl)
@[simp] theorem setDescriptor_line (s : State) (d : DescNo) (x : Descriptor) : (s.setDescriptor d x).line = s.line := (rfl)
@[simp] theorem setDescriptor_controlPos (s : State) (d : DescNo) (x : Descriptor) : (s.setDescriptor d x).controlPos = s.controlPos := (rfl)
@[simp] theorem setDescriptor_dataPos (s : State) (d : DescNo) (x : Descriptor) : (s.setDescriptor d x).dataPos = s.dataPos := (rfl)
@[simp] theorem setDescriptor_port (s : State) (d : DescNo) (x : Descriptor) : (s.setDescriptor d x).port = s.port := (rfl)
@[simp] theorem setDescriptor_startUp (s : State) (d : DescNo) (x : Descriptor) : (s.setDescriptor d x).startUp = s.startUp := (rfl)
@[simp] theorem setDescriptor_msCount (s : State) (d : DescNo) (x : Descriptor) : (s.setDescriptor d x).msCount = s.msCount := (rfl)
@[simp] theorem setDescriptor_dataBus (s : State) (d : DescNo) (x : Descriptor) : (s.setDescriptor d x).dataBus = s.dataBus := (rfl)
@[simp] theorem setDescriptor_events (s : State) (d : DescNo) (x : Descriptor) : (s.setDescriptor d x).events = s.events := (rfl)
@[simp] theorem setDescriptor_linkStale (s : State) (d : DescNo) (x : Descriptor) : (s.setDescriptor d x).linkStale = s.linkStale := (rfl)
@[simp] theorem setDescriptor_intEnable (s : State) (d : DescNo) (x : Descriptor) : (s.setDescriptor d x).intEnable = s.intEnable := (rfl)
@[simp] theorem setDescriptor_freeCount (s : State) (d : DescNo) (x : Descriptor) : (s.setDescriptor d x).freeCount = s.freeCount := (rfl)
@[simp] theorem setDescriptor_pending (s : State) (d : DescNo) (x : Descriptor) : (s.setDescriptor d x).pending = s.pending := (rfl)

/-! ### State.onLink -/

@[simp] theorem onLink_circuits (s : State) (f : Link → Link) : (s.onLink f).circuits = s.circuits := (rfl)
@[simp] theorem onLink_listen (s : State) (f : Link → Link) : (s.onLink f).listen = s.listen := (rfl)
@[simp] theorem onLink_labels (s : State) (f : Link → Link) : (s.onLink f).labels = s.labels := (rfl)
@[simp] theorem onLink_allocPtr (s : State) (f : Link → Link) : (s.onLink f).allocPtr = s.allocPtr := (rfl)
@[simp] theorem onLink_loose (s : State) (f : Link → Link) : (s.onLink f).loose = s.loose := (rfl)
@[simp] theorem onLink_descriptors (s : State) (f : Link → Link) : (s.onLink f).descriptors = s.descriptors := (rfl)
@[simp] theorem onLink_memory (s : State) (f : Link → Link) : (s.onLink f).memory = s.memory := (rfl)
@[simp] theorem onLink_latch (s : State) (f : Link → Link) : (s.onLink f).latch = s.latch := (rfl)
@[simp] theorem onLink_lineReady (s : State) (f : Link → Link) : (s.onLink f).lineReady = s.lineReady := (rfl)
@[simp] theorem onLink_receiver (s : State) (f : Link → Link) : (s.onLink f).receiver = s.receiver := (rfl)
@[simp] theorem onLink_tx (s : State) (f : Link → Link) : (s.onLink f).tx = s.tx := (rfl)
@[simp] theorem onLink_line (s : State) (f : Link → Link) : (s.onLink f).line = s.line := (rfl)
@[simp] theorem onLink_controlPos (s : State) (f : Link → Link) : (s.onLink f).controlPos = s.controlPos := (rfl)
@[simp] theorem onLink_dataPos (s : State) (f : Link → Link) : (s.onLink f).dataPos = s.dataPos := (rfl)
@[simp] theorem onLink_port (s : State) (f : Link → Link) : (s.onLink f).port = s.port := (rfl)
@[simp] theorem onLink_startUp (s : State) (f : Link → Link) : (s.onLink f).startUp = s.startUp := (rfl)
@[simp] theorem onLink_msCount (s : State) (f : Link → Link) : (s.onLink f).msCount = s.msCount := (rfl)
@[simp] theorem onLink_dataBus (s : State) (f : Link → Link) : (s.onLink f).dataBus = s.dataBus := (rfl)
@[simp] theorem onLink_events (s : State) (f : Link → Link) : (s.onLink f).events = s.events := (rfl)
@[simp] theorem onLink_linkStale (s : State) (f : Link → Link) : (s.onLink f).linkStale = s.linkStale := (rfl)
@[simp] theorem onLink_intEnable (s : State) (f : Link → Link) : (s.onLink f).intEnable = s.intEnable := (rfl)
@[simp] theorem onLink_freeCount (s : State) (f : Link → Link) : (s.onLink f).freeCount = s.freeCount := (rfl)
@[simp] theorem onLink_pending (s : State) (f : Link → Link) : (s.onLink f).pending = s.pending := (rfl)

/-! ### State.finish -/

@[simp] theorem finish_circuits (s : State) (code : ResultCode) (values : List Nat) : (s.finish code values).circuits = s.circuits := (rfl)
@[simp] theorem finish_listen (s : State) (code : ResultCode) (values : List Nat) : (s.finish code values).listen = s.listen := (rfl)
@[simp] theorem finish_labels (s : State) (code : ResultCode) (values : List Nat) : (s.finish code values).labels = s.labels := (rfl)
@[simp] theorem finish_allocPtr (s : State) (code : ResultCode) (values : List Nat) : (s.finish code values).allocPtr = s.allocPtr := (rfl)
@[simp] theorem finish_loose (s : State) (code : ResultCode) (values : List Nat) : (s.finish code values).loose = s.loose := (rfl)
@[simp] theorem finish_descriptors (s : State) (code : ResultCode) (values : List Nat) : (s.finish code values).descriptors = s.descriptors := (rfl)
@[simp] theorem finish_memory (s : State) (code : ResultCode) (values : List Nat) : (s.finish code values).memory = s.memory := (rfl)
@[simp] theorem finish_latch (s : State) (code : ResultCode) (values : List Nat) : (s.finish code values).latch = s.latch := (rfl)
@[simp] theorem finish_link (s : State) (code : ResultCode) (values : List Nat) : (s.finish code values).link = s.link := (rfl)
@[simp] theorem finish_lineReady (s : State) (code : ResultCode) (values : List Nat) : (s.finish code values).lineReady = s.lineReady := (rfl)
@[simp] theorem finish_receiver (s : State) (code : ResultCode) (values : List Nat) : (s.finish code values).receiver = s.receiver := (rfl)
@[simp] theorem finish_tx (s : State) (code : ResultCode) (values : List Nat) : (s.finish code values).tx = s.tx := (rfl)
@[simp] theorem finish_line (s : State) (code : ResultCode) (values : List Nat) : (s.finish code values).line = s.line := (rfl)
@[simp] theorem finish_controlPos (s : State) (code : ResultCode) (values : List Nat) : (s.finish code values).controlPos = s.controlPos := (rfl)
@[simp] theorem finish_dataPos (s : State) (code : ResultCode) (values : List Nat) : (s.finish code values).dataPos = s.dataPos := (rfl)
@[simp] theorem finish_startUp (s : State) (code : ResultCode) (values : List Nat) : (s.finish code values).startUp = s.startUp := (rfl)
@[simp] theorem finish_msCount (s : State) (code : ResultCode) (values : List Nat) : (s.finish code values).msCount = s.msCount := (rfl)
@[simp] theorem finish_dataBus (s : State) (code : ResultCode) (values : List Nat) : (s.finish code values).dataBus = s.dataBus := (rfl)
@[simp] theorem finish_events (s : State) (code : ResultCode) (values : List Nat) : (s.finish code values).events = s.events := (rfl)
@[simp] theorem finish_linkStale (s : State) (code : ResultCode) (values : List Nat) : (s.finish code values).linkStale = s.linkStale := (rfl)
@[simp] theorem finish_intEnable (s : State) (code : ResultCode) (values : List Nat) : (s.finish code values).intEnable = s.intEnable := (rfl)
@[simp] theorem finish_freeCount (s : State) (code : ResultCode) (values : List Nat) : (s.finish code values).freeCount = s.freeCount := (rfl)
@[simp] theorem finish_pending (s : State) (code : ResultCode) (values : List Nat) : (s.finish code values).pending = s.pending := (rfl)

/-! ### State.setLabel -/

@[simp] theorem setLabel_circuits (s : State) (l : Label) (e : LabelEntry) : (s.setLabel l e).circuits = s.circuits := by
  unfold State.setLabel; split <;> rfl
@[simp] theorem setLabel_listen (s : State) (l : Label) (e : LabelEntry) : (s.setLabel l e).listen = s.listen := by
  unfold State.setLabel; split <;> rfl
@[simp] theorem setLabel_allocPtr (s : State) (l : Label) (e : LabelEntry) : (s.setLabel l e).allocPtr = s.allocPtr := by
  unfold State.setLabel; split <;> rfl
@[simp] theorem setLabel_loose (s : State) (l : Label) (e : LabelEntry) : (s.setLabel l e).loose = s.loose := by
  unfold State.setLabel; split <;> rfl
@[simp] theorem setLabel_descriptors (s : State) (l : Label) (e : LabelEntry) : (s.setLabel l e).descriptors = s.descriptors := by
  unfold State.setLabel; split <;> rfl
@[simp] theorem setLabel_memory (s : State) (l : Label) (e : LabelEntry) : (s.setLabel l e).memory = s.memory := by
  unfold State.setLabel; split <;> rfl
@[simp] theorem setLabel_latch (s : State) (l : Label) (e : LabelEntry) : (s.setLabel l e).latch = s.latch := by
  unfold State.setLabel; split <;> rfl
@[simp] theorem setLabel_link (s : State) (l : Label) (e : LabelEntry) : (s.setLabel l e).link = s.link := by
  unfold State.setLabel; split <;> rfl
@[simp] theorem setLabel_lineReady (s : State) (l : Label) (e : LabelEntry) : (s.setLabel l e).lineReady = s.lineReady := by
  unfold State.setLabel; split <;> rfl
@[simp] theorem setLabel_receiver (s : State) (l : Label) (e : LabelEntry) : (s.setLabel l e).receiver = s.receiver := by
  unfold State.setLabel; split <;> rfl
@[simp] theorem setLabel_tx (s : State) (l : Label) (e : LabelEntry) : (s.setLabel l e).tx = s.tx := by
  unfold State.setLabel; split <;> rfl
@[simp] theorem setLabel_line (s : State) (l : Label) (e : LabelEntry) : (s.setLabel l e).line = s.line := by
  unfold State.setLabel; split <;> rfl
@[simp] theorem setLabel_controlPos (s : State) (l : Label) (e : LabelEntry) : (s.setLabel l e).controlPos = s.controlPos := by
  unfold State.setLabel; split <;> rfl
@[simp] theorem setLabel_dataPos (s : State) (l : Label) (e : LabelEntry) : (s.setLabel l e).dataPos = s.dataPos := by
  unfold State.setLabel; split <;> rfl
@[simp] theorem setLabel_port (s : State) (l : Label) (e : LabelEntry) : (s.setLabel l e).port = s.port := by
  unfold State.setLabel; split <;> rfl
@[simp] theorem setLabel_startUp (s : State) (l : Label) (e : LabelEntry) : (s.setLabel l e).startUp = s.startUp := by
  unfold State.setLabel; split <;> rfl
@[simp] theorem setLabel_msCount (s : State) (l : Label) (e : LabelEntry) : (s.setLabel l e).msCount = s.msCount := by
  unfold State.setLabel; split <;> rfl
@[simp] theorem setLabel_dataBus (s : State) (l : Label) (e : LabelEntry) : (s.setLabel l e).dataBus = s.dataBus := by
  unfold State.setLabel; split <;> rfl
@[simp] theorem setLabel_events (s : State) (l : Label) (e : LabelEntry) : (s.setLabel l e).events = s.events := by
  unfold State.setLabel; split <;> rfl
@[simp] theorem setLabel_linkStale (s : State) (l : Label) (e : LabelEntry) : (s.setLabel l e).linkStale = s.linkStale := by
  unfold State.setLabel; split <;> rfl
@[simp] theorem setLabel_intEnable (s : State) (l : Label) (e : LabelEntry) : (s.setLabel l e).intEnable = s.intEnable := by
  unfold State.setLabel; split <;> rfl
@[simp] theorem setLabel_freeCount (s : State) (l : Label) (e : LabelEntry) : (s.setLabel l e).freeCount = s.freeCount := by
  unfold State.setLabel; split <;> rfl
@[simp] theorem setLabel_pending (s : State) (l : Label) (e : LabelEntry) : (s.setLabel l e).pending = s.pending := by
  unfold State.setLabel; split <;> rfl

/-! ### State.requestLoose and State.countFree -/

@[simp] theorem requestLoose_circuits (s : State) (x : LooseReply) : (s.requestLoose x).circuits = s.circuits := by
  unfold State.requestLoose; repeat' split
  all_goals rfl
@[simp] theorem requestLoose_listen (s : State) (x : LooseReply) : (s.requestLoose x).listen = s.listen := by
  unfold State.requestLoose; repeat' split
  all_goals rfl
@[simp] theorem requestLoose_labels (s : State) (x : LooseReply) : (s.requestLoose x).labels = s.labels := by
  unfold State.requestLoose; repeat' split
  all_goals rfl
@[simp] theorem requestLoose_allocPtr (s : State) (x : LooseReply) : (s.requestLoose x).allocPtr = s.allocPtr := by
  unfold State.requestLoose; repeat' split
  all_goals rfl
@[simp] theorem requestLoose_descriptors (s : State) (x : LooseReply) : (s.requestLoose x).descriptors = s.descriptors := by
  unfold State.requestLoose; repeat' split
  all_goals rfl
@[simp] theorem requestLoose_memory (s : State) (x : LooseReply) : (s.requestLoose x).memory = s.memory := by
  unfold State.requestLoose; repeat' split
  all_goals rfl
@[simp] theorem requestLoose_latch (s : State) (x : LooseReply) : (s.requestLoose x).latch = s.latch := by
  unfold State.requestLoose; repeat' split
  all_goals rfl
@[simp] theorem requestLoose_link (s : State) (x : LooseReply) : (s.requestLoose x).link = s.link := by
  unfold State.requestLoose; repeat' split
  all_goals rfl
@[simp] theorem requestLoose_lineReady (s : State) (x : LooseReply) : (s.requestLoose x).lineReady = s.lineReady := by
  unfold State.requestLoose; repeat' split
  all_goals rfl
@[simp] theorem requestLoose_receiver (s : State) (x : LooseReply) : (s.requestLoose x).receiver = s.receiver := by
  unfold State.requestLoose; repeat' split
  all_goals rfl
@[simp] theorem requestLoose_tx (s : State) (x : LooseReply) : (s.requestLoose x).tx = s.tx := by
  unfold State.requestLoose; repeat' split
  all_goals rfl
@[simp] theorem requestLoose_line (s : State) (x : LooseReply) : (s.requestLoose x).line = s.line := by
  unfold State.requestLoose; repeat' split
  all_goals rfl
@[simp] theorem requestLoose_controlPos (s : State) (x : LooseReply) : (s.requestLoose x).controlPos = s.controlPos := by
  unfold State.requestLoose; repeat' split
  all_goals rfl
@[simp] theorem requestLoose_dataPos (s : State) (x : LooseReply) : (s.requestLoose x).dataPos = s.dataPos := by
  unfold State.requestLoose; repeat' split
  all_goals rfl
@[simp] theorem requestLoose_port (s : State) (x : LooseReply) : (s.requestLoose x).port = s.port := by
  unfold State.requestLoose; repeat' split
  all_goals rfl
@[simp] theorem requestLoose_startUp (s : State) (x : LooseReply) : (s.requestLoose x).startUp = s.startUp := by
  unfold State.requestLoose; repeat' split
  all_goals rfl
@[simp] theorem requestLoose_msCount (s : State) (x : LooseReply) : (s.requestLoose x).msCount = s.msCount := by
  unfold State.requestLoose; repeat' split
  all_goals rfl
@[simp] theorem requestLoose_dataBus (s : State) (x : LooseReply) : (s.requestLoose x).dataBus = s.dataBus := by
  unfold State.requestLoose; repeat' split
  all_goals rfl
@[simp] theorem requestLoose_events (s : State) (x : LooseReply) : (s.requestLoose x).events = s.events := by
  unfold State.requestLoose; repeat' split
  all_goals rfl
@[simp] theorem requestLoose_linkStale (s : State) (x : LooseReply) : (s.requestLoose x).linkStale = s.linkStale := by
  unfold State.requestLoose; repeat' split
  all_goals rfl
@[simp] theorem requestLoose_intEnable (s : State) (x : LooseReply) : (s.requestLoose x).intEnable = s.intEnable := by
  unfold State.requestLoose; repeat' split
  all_goals rfl
@[simp] theorem requestLoose_freeCount (s : State) (x : LooseReply) : (s.requestLoose x).freeCount = s.freeCount := by
  unfold State.requestLoose; repeat' split
  all_goals rfl
@[simp] theorem requestLoose_pending (s : State) (x : LooseReply) : (s.requestLoose x).pending = s.pending := by
  unfold State.requestLoose; repeat' split
  all_goals rfl
@[simp] theorem countFree_circuits (s : State) (b : Bool) : (s.countFree b).circuits = s.circuits := by
  cases b <;> rfl
@[simp] theorem countFree_listen (s : State) (b : Bool) : (s.countFree b).listen = s.listen := by
  cases b <;> rfl
@[simp] theorem countFree_labels (s : State) (b : Bool) : (s.countFree b).labels = s.labels := by
  cases b <;> rfl
@[simp] theorem countFree_allocPtr (s : State) (b : Bool) : (s.countFree b).allocPtr = s.allocPtr := by
  cases b <;> rfl
@[simp] theorem countFree_loose (s : State) (b : Bool) : (s.countFree b).loose = s.loose := by
  cases b <;> rfl
@[simp] theorem countFree_descriptors (s : State) (b : Bool) : (s.countFree b).descriptors = s.descriptors := by
  cases b <;> rfl
@[simp] theorem countFree_memory (s : State) (b : Bool) : (s.countFree b).memory = s.memory := by
  cases b <;> rfl
@[simp] theorem countFree_latch (s : State) (b : Bool) : (s.countFree b).latch = s.latch := by
  cases b <;> rfl
@[simp] theorem countFree_link (s : State) (b : Bool) : (s.countFree b).link = s.link := by
  cases b <;> rfl
@[simp] theorem countFree_lineReady (s : State) (b : Bool) : (s.countFree b).lineReady = s.lineReady := by
  cases b <;> rfl
@[simp] theorem countFree_receiver (s : State) (b : Bool) : (s.countFree b).receiver = s.receiver := by
  cases b <;> rfl
@[simp] theorem countFree_tx (s : State) (b : Bool) : (s.countFree b).tx = s.tx := by
  cases b <;> rfl
@[simp] theorem countFree_line (s : State) (b : Bool) : (s.countFree b).line = s.line := by
  cases b <;> rfl
@[simp] theorem countFree_controlPos (s : State) (b : Bool) : (s.countFree b).controlPos = s.controlPos := by
  cases b <;> rfl
@[simp] theorem countFree_dataPos (s : State) (b : Bool) : (s.countFree b).dataPos = s.dataPos := by
  cases b <;> rfl
@[simp] theorem countFree_port (s : State) (b : Bool) : (s.countFree b).port = s.port := by
  cases b <;> rfl
@[simp] theorem countFree_startUp (s : State) (b : Bool) : (s.countFree b).startUp = s.startUp := by
  cases b <;> rfl
@[simp] theorem countFree_msCount (s : State) (b : Bool) : (s.countFree b).msCount = s.msCount := by
  cases b <;> rfl
@[simp] theorem countFree_dataBus (s : State) (b : Bool) : (s.countFree b).dataBus = s.dataBus := by
  cases b <;> rfl
@[simp] theorem countFree_events (s : State) (b : Bool) : (s.countFree b).events = s.events := by
  cases b <;> rfl
@[simp] theorem countFree_linkStale (s : State) (b : Bool) : (s.countFree b).linkStale = s.linkStale := by
  cases b <;> rfl
@[simp] theorem countFree_intEnable (s : State) (b : Bool) : (s.countFree b).intEnable = s.intEnable := by
  cases b <;> rfl
@[simp] theorem countFree_pending (s : State) (b : Bool) : (s.countFree b).pending = s.pending := by
  cases b <;> rfl

/-! ### State.raise: an event touches the queue and the stale flags alone (R204) -/

@[simp] theorem markStale_listen (s : State) (e : Event) : (s.markStale e).listen = s.listen := by
  unfold State.markStale; split <;> rfl
@[simp] theorem markStale_labels (s : State) (e : Event) : (s.markStale e).labels = s.labels := by
  unfold State.markStale; split <;> rfl
@[simp] theorem markStale_allocPtr (s : State) (e : Event) : (s.markStale e).allocPtr = s.allocPtr := by
  unfold State.markStale; split <;> rfl
@[simp] theorem markStale_loose (s : State) (e : Event) : (s.markStale e).loose = s.loose := by
  unfold State.markStale; split <;> rfl
@[simp] theorem markStale_descriptors (s : State) (e : Event) : (s.markStale e).descriptors = s.descriptors := by
  unfold State.markStale; split <;> rfl
@[simp] theorem markStale_memory (s : State) (e : Event) : (s.markStale e).memory = s.memory := by
  unfold State.markStale; split <;> rfl
@[simp] theorem markStale_latch (s : State) (e : Event) : (s.markStale e).latch = s.latch := by
  unfold State.markStale; split <;> rfl
@[simp] theorem markStale_link (s : State) (e : Event) : (s.markStale e).link = s.link := by
  unfold State.markStale; split <;> rfl
@[simp] theorem markStale_lineReady (s : State) (e : Event) : (s.markStale e).lineReady = s.lineReady := by
  unfold State.markStale; split <;> rfl
@[simp] theorem markStale_receiver (s : State) (e : Event) : (s.markStale e).receiver = s.receiver := by
  unfold State.markStale; split <;> rfl
@[simp] theorem markStale_tx (s : State) (e : Event) : (s.markStale e).tx = s.tx := by
  unfold State.markStale; split <;> rfl
@[simp] theorem markStale_line (s : State) (e : Event) : (s.markStale e).line = s.line := by
  unfold State.markStale; split <;> rfl
@[simp] theorem markStale_controlPos (s : State) (e : Event) : (s.markStale e).controlPos = s.controlPos := by
  unfold State.markStale; split <;> rfl
@[simp] theorem markStale_dataPos (s : State) (e : Event) : (s.markStale e).dataPos = s.dataPos := by
  unfold State.markStale; split <;> rfl
@[simp] theorem markStale_port (s : State) (e : Event) : (s.markStale e).port = s.port := by
  unfold State.markStale; split <;> rfl
@[simp] theorem markStale_startUp (s : State) (e : Event) : (s.markStale e).startUp = s.startUp := by
  unfold State.markStale; split <;> rfl
@[simp] theorem markStale_msCount (s : State) (e : Event) : (s.markStale e).msCount = s.msCount := by
  unfold State.markStale; split <;> rfl
@[simp] theorem markStale_dataBus (s : State) (e : Event) : (s.markStale e).dataBus = s.dataBus := by
  unfold State.markStale; split <;> rfl
@[simp] theorem markStale_intEnable (s : State) (e : Event) : (s.markStale e).intEnable = s.intEnable := by
  unfold State.markStale; split <;> rfl
@[simp] theorem markStale_freeCount (s : State) (e : Event) : (s.markStale e).freeCount = s.freeCount := by
  unfold State.markStale; split <;> rfl
@[simp] theorem markStale_pending (s : State) (e : Event) : (s.markStale e).pending = s.pending := by
  unfold State.markStale; split <;> rfl
@[simp] theorem raise_listen (s : State) (e : Event) : (s.raise e).listen = s.listen := by
  unfold State.raise; repeat' split
  all_goals simp
@[simp] theorem raise_labels (s : State) (e : Event) : (s.raise e).labels = s.labels := by
  unfold State.raise; repeat' split
  all_goals simp
@[simp] theorem raise_allocPtr (s : State) (e : Event) : (s.raise e).allocPtr = s.allocPtr := by
  unfold State.raise; repeat' split
  all_goals simp
@[simp] theorem raise_loose (s : State) (e : Event) : (s.raise e).loose = s.loose := by
  unfold State.raise; repeat' split
  all_goals simp
@[simp] theorem raise_descriptors (s : State) (e : Event) : (s.raise e).descriptors = s.descriptors := by
  unfold State.raise; repeat' split
  all_goals simp
@[simp] theorem raise_memory (s : State) (e : Event) : (s.raise e).memory = s.memory := by
  unfold State.raise; repeat' split
  all_goals simp
@[simp] theorem raise_latch (s : State) (e : Event) : (s.raise e).latch = s.latch := by
  unfold State.raise; repeat' split
  all_goals simp
@[simp] theorem raise_link (s : State) (e : Event) : (s.raise e).link = s.link := by
  unfold State.raise; repeat' split
  all_goals simp
@[simp] theorem raise_lineReady (s : State) (e : Event) : (s.raise e).lineReady = s.lineReady := by
  unfold State.raise; repeat' split
  all_goals simp
@[simp] theorem raise_receiver (s : State) (e : Event) : (s.raise e).receiver = s.receiver := by
  unfold State.raise; repeat' split
  all_goals simp
@[simp] theorem raise_tx (s : State) (e : Event) : (s.raise e).tx = s.tx := by
  unfold State.raise; repeat' split
  all_goals simp
@[simp] theorem raise_line (s : State) (e : Event) : (s.raise e).line = s.line := by
  unfold State.raise; repeat' split
  all_goals simp
@[simp] theorem raise_controlPos (s : State) (e : Event) : (s.raise e).controlPos = s.controlPos := by
  unfold State.raise; repeat' split
  all_goals simp
@[simp] theorem raise_dataPos (s : State) (e : Event) : (s.raise e).dataPos = s.dataPos := by
  unfold State.raise; repeat' split
  all_goals simp
@[simp] theorem raise_port (s : State) (e : Event) : (s.raise e).port = s.port := by
  unfold State.raise; repeat' split
  all_goals simp
@[simp] theorem raise_startUp (s : State) (e : Event) : (s.raise e).startUp = s.startUp := by
  unfold State.raise; repeat' split
  all_goals simp
@[simp] theorem raise_msCount (s : State) (e : Event) : (s.raise e).msCount = s.msCount := by
  unfold State.raise; repeat' split
  all_goals simp
@[simp] theorem raise_dataBus (s : State) (e : Event) : (s.raise e).dataBus = s.dataBus := by
  unfold State.raise; repeat' split
  all_goals simp
@[simp] theorem raise_intEnable (s : State) (e : Event) : (s.raise e).intEnable = s.intEnable := by
  unfold State.raise; repeat' split
  all_goals simp
@[simp] theorem raise_freeCount (s : State) (e : Event) : (s.raise e).freeCount = s.freeCount := by
  unfold State.raise; repeat' split
  all_goals simp
@[simp] theorem raise_pending (s : State) (e : Event) : (s.raise e).pending = s.pending := by
  unfold State.raise; repeat' split
  all_goals simp

/-! ### Reading what was written -/

@[simp] theorem circuit_setCircuit_self (s : State) (c : CircuitNo) (r : CircuitRecord) :
    (s.setCircuit c r).circuit c = r := by simp [State.circuit, State.setCircuit]

theorem circuit_setCircuit_ne (s : State) {c d : CircuitNo} (r : CircuitRecord) (h : d ≠ c) :
    (s.setCircuit c r).circuit d = s.circuit d := by
  have h' : c.val ≠ d.val := fun e => h (Fin.ext e.symm)
  simp [State.circuit, State.setCircuit, Vector.getElem_set_ne _ _ h']

theorem circuit_setCircuit (s : State) (c d : CircuitNo) (r : CircuitRecord) :
    (s.setCircuit c r).circuit d = if d = c then r else s.circuit d := by
  split
  · next h => subst h; exact circuit_setCircuit_self ..
  · next h => exact circuit_setCircuit_ne s r h

@[simp] theorem circuit_onCircuit_self (s : State) (c : CircuitNo) (f : CircuitRecord → CircuitRecord) :
    (s.onCircuit c f).circuit c = f (s.circuit c) := by simp [State.onCircuit]

theorem circuit_onCircuit_ne (s : State) {c d : CircuitNo} (f : CircuitRecord → CircuitRecord) (h : d ≠ c) :
    (s.onCircuit c f).circuit d = s.circuit d := circuit_setCircuit_ne s _ h

theorem circuit_onCircuit (s : State) (c d : CircuitNo) (f : CircuitRecord → CircuitRecord) :
    (s.onCircuit c f).circuit d = if d = c then f (s.circuit c) else s.circuit d := circuit_setCircuit ..

@[simp] theorem setCircuit_setCircuit (s : State) (c : CircuitNo) (r q : CircuitRecord) :
    (s.setCircuit c r).setCircuit c q = s.setCircuit c q := by simp [State.setCircuit]

@[simp] theorem onCircuit_onCircuit (s : State) (c : CircuitNo) (f g : CircuitRecord → CircuitRecord) :
    (s.onCircuit c f).onCircuit c g = s.onCircuit c (fun r => g (f r)) := by simp [State.onCircuit]

@[simp] theorem descriptor_setDescriptor_self (s : State) (d : DescNo) (x : Descriptor) :
    (s.setDescriptor d x).descriptor d = x := by simp [State.descriptor, State.setDescriptor]

theorem descriptor_setDescriptor_ne (s : State) {d e : DescNo} (x : Descriptor) (h : e ≠ d) :
    (s.setDescriptor d x).descriptor e = s.descriptor e := by
  have h' : d.val ≠ e.val := fun q => h (Fin.ext q.symm)
  simp [State.descriptor, State.setDescriptor, Vector.getElem_set_ne _ _ h']

theorem descriptor_setDescriptor (s : State) (d e : DescNo) (x : Descriptor) :
    (s.setDescriptor d x).descriptor e = if e = d then x else s.descriptor e := by
  split
  · next h => subst h; exact descriptor_setDescriptor_self ..
  · next h => exact descriptor_setDescriptor_ne s x h

@[simp] theorem circuit_setDescriptor (s : State) (d : DescNo) (x : Descriptor) (c : CircuitNo) :
    (s.setDescriptor d x).circuit c = s.circuit c := rfl

@[simp] theorem descriptor_setCircuit (s : State) (c : CircuitNo) (r : CircuitRecord) (d : DescNo) :
    (s.setCircuit c r).descriptor d = s.descriptor d := rfl

/-- Two states with the same records have the same record of every circuit. -/
theorem circuit_of_circuits {s t : State} (h : t.circuits = s.circuits) (c : CircuitNo) : t.circuit c = s.circuit c := by
  simp [State.circuit, h]

/-- Two states with the same descriptors have the same descriptor of every number. -/
theorem descriptor_of_descriptors {s t : State} (h : t.descriptors = s.descriptors) (d : DescNo) :
    t.descriptor d = s.descriptor d := by simp [State.descriptor, h]

/-- Two states with the same labels have the same entry of every label. -/
theorem label_of_labels {s t : State} (h : t.labels = s.labels) (l : Label) : t.label l = s.label l := by
  simp [State.label, h]

theorem label_setLabel_self (s : State) {l : Label} (e : LabelEntry) (h : l ≠ 0) : (s.setLabel l e).label l = e := by
  unfold State.label State.setLabel
  rw [if_neg h]
  simp

theorem labelIndex_inj {l m : Label} (hl : l ≠ 0) (hm : m ≠ 0) (h : labelIndex l = labelIndex m) : l = m := by
  have hl' : l.toNat ≠ 0 := fun e => hl (BitVec.eq_of_toNat_eq (by simpa using e))
  have hm' : m.toNat ≠ 0 := fun e => hm (BitVec.eq_of_toNat_eq (by simpa using e))
  have e : l.toNat - 1 = m.toNat - 1 := congrArg Fin.val h
  exact BitVec.eq_of_toNat_eq (by omega)

theorem label_setLabel_ne (s : State) {l m : Label} (e : LabelEntry) (hm : m ≠ 0) (h : m ≠ l) :
    (s.setLabel l e).label m = s.label m := by
  unfold State.setLabel
  split
  · rfl
  · next hl =>
    have : (labelIndex l).val ≠ (labelIndex m).val := fun q => h (labelIndex_inj hm hl (Fin.ext q.symm))
    simp [State.label, Vector.getElem_set_ne _ _ this]

end Sys2Proof.Machine
end

