-- ==== Sys2Proof/Laws/Ops.lean ====
section
/-! SUPPORT. The shared operations over events, loose replies, descriptors, pages and labels: for each, what it can do,
said once. -/

namespace Sys2Proof.Machine

/-! ### Events (R204) -/

/-- Below 127 entries the event is appended and nothing else changes (R204). -/
theorem raise_of_room (s : State) (e : Event) (h : s.events.length < 127) :
    s.raise e = { s with events := s.events ++ [e] } := by
  unfold State.raise
  rw [if_pos (by simp only [Config.eventCapacity]; omega)]

/-- At 127 entries OVERFLOW takes the last place and the stale flag is set (R204). -/
theorem raise_of_last (s : State) (e : Event) (h : s.events.length = 127) :
    s.raise e = { s.markStale e with events := s.events ++ [{ kind := .overflow }] } := by
  unfold State.raise
  rw [if_neg (by simp [Config.eventCapacity, h]), if_pos (by simp [Config.eventCapacity, h])]

/-- At 128 entries the event is dropped and the stale flag is set (R204). -/
theorem raise_of_full (s : State) (e : Event) (h : 128 ≤ s.events.length) : s.raise e = s.markStale e := by
  unfold State.raise
  rw [if_neg (by simp [Config.eventCapacity]; omega), if_neg (by simp [Config.eventCapacity]; omega)]

@[simp] theorem markStale_events (s : State) (e : Event) : (s.markStale e).events = s.events := by
  unfold State.markStale; split <;> rfl

/-- The queue never passes 128 entries (R203). -/
theorem raise_events_length (s : State) (e : Event) (h : s.events.length ≤ 128) :
    (s.raise e).events.length ≤ 128 := by
  unfold State.raise
  split
  · next h1 => simp [Config.eventCapacity] at h1 ⊢; omega
  · split
    · next h2 => simp [Config.eventCapacity] at h2 ⊢; omega
    · simpa using h

/-- Raising an event leaves every record as it is but the stale flag of the circuit it names (R204). -/
theorem markStale_circuit (s : State) (e : Event) (c : CircuitNo) :
    ∃ b, (s.markStale e).circuit c = { s.circuit c with stale := b } := by
  unfold State.markStale
  split
  · next d _ =>
    rw [circuit_onCircuit]
    split
    · next h => subst h; exact ⟨true, rfl⟩
    · exact ⟨_, rfl⟩
  · exact ⟨_, rfl⟩

theorem raise_circuit (s : State) (e : Event) (c : CircuitNo) :
    ∃ b, (s.raise e).circuit c = { s.circuit c with stale := b } := by
  unfold State.raise
  split
  · exact ⟨_, rfl⟩
  · split
    · exact markStale_circuit s e c
    · exact markStale_circuit s e c

/-- An event that names circuit c leaves every other record as it is (R204). -/
theorem raise_circuit_ne (s : State) (e : Event) {c d : CircuitNo} (hc : e.circuit = some c) (h : d ≠ c) :
    (s.raise e).circuit d = s.circuit d := by
  have hm : (s.markStale e).circuit d = s.circuit d := by
    unfold State.markStale; rw [hc]; exact circuit_onCircuit_ne s _ h
  unfold State.raise
  split
  · rfl
  · split <;> exact hm

/-- An event that names a circuit does not touch the link stale flag (R204, R206). -/
theorem raise_linkStale (s : State) (e : Event) {c : CircuitNo} (hc : e.circuit = some c) :
    (s.raise e).linkStale = s.linkStale := by
  have hm : (s.markStale e).linkStale = s.linkStale := by unfold State.markStale; rw [hc]; rfl
  unfold State.raise
  split
  · rfl
  · split <;> exact hm

/-- An event that names no circuit leaves every record as it is (R204, R206). -/
theorem raise_circuits (s : State) (e : Event) (hc : e.circuit = none) : (s.raise e).circuits = s.circuits := by
  have hm : (s.markStale e).circuits = s.circuits := by unfold State.markStale; rw [hc]
  unfold State.raise
  split
  · rfl
  · split <;> exact hm

/-! ### Loose replies (R105) -/

/-- The loose-reply queue never passes four entries (R105). -/
theorem requestLoose_length (s : State) (x : LooseReply) (h : s.loose.length ≤ 4) :
    (s.requestLoose x).loose.length ≤ 4 := by
  unfold State.requestLoose
  split
  · exact h
  · split
    · next h1 => simp [Config.looseCapacity] at h1 ⊢; omega
    · exact h

/-- A reply that no entry merges joins the tail of a queue with room (R105). -/
theorem requestLoose_of_room (s : State) (x : LooseReply) (hm : s.loose.any (x.merges ·) = false)
    (h : s.loose.length < 4) : s.requestLoose x = { s with loose := s.loose ++ [x] } := by
  unfold State.requestLoose
  rw [if_neg (by simp [hm]), if_pos (by simpa [Config.looseCapacity] using h)]

/-- A request touches the loose-reply queue alone, and reads nothing else (R105). -/
theorem requestLoose_eq (s t : State) (x : LooseReply) (h : t.loose = s.loose) :
    t.requestLoose x = { t with loose := (s.requestLoose x).loose } := by
  unfold State.requestLoose
  rw [h]
  split
  · rw [← h]
  · split
    · rfl
    · rw [← h]

/-! ### Descriptors and pages (R77 to R89) -/

/-- Freeing changes the named descriptor alone, to FREE or RETURNING (R81). -/
theorem freeDescriptor_eq (s : State) (d : DescNo) : s.freeDescriptor d = s.setDescriptor d (freed s d) := by
  unfold State.freeDescriptor freed
  split <;> rfl

theorem freed_setDescriptor (s : State) (d e : DescNo) (x : Descriptor) (h : e ≠ d) :
    freed (s.setDescriptor d x) e = freed s e := by
  unfold freed
  rw [descriptor_setDescriptor_ne s x h]
  rfl

/-- Freeing a freed descriptor again makes no difference (R81). -/
theorem freed_freed {s t : State} {d : DescNo} (hp : t.pinnedDescriptor = s.pinnedDescriptor)
    (hd : t.descriptor d = freed s d) : freed t d = freed s d := by
  unfold freed at *
  rw [hp, hd]
  by_cases q : s.pinnedDescriptor = some d
  · simp [q]
  · simp [q]

/-- Freeing a list of descriptors frees each of them and no other (R50, R81). -/
theorem foldl_freeDescriptor (l : List DescNo) (s : State) :
    ∀ e, (l.foldl State.freeDescriptor s).descriptor e = if e ∈ l then freed s e else s.descriptor e := by
  induction l generalizing s with
  | nil => intro e; simp
  | cons d l ih =>
    intro e
    rw [List.foldl_cons, ih, freeDescriptor_eq]
    by_cases hed : e = d
    · subst hed
      rw [descriptor_setDescriptor_self]
      have : freed (s.setDescriptor e (freed s e)) e = freed s e := by
        unfold freed
        rw [descriptor_setDescriptor_self]
        by_cases hp : s.pinnedDescriptor = some e
        · have hp' : (s.setDescriptor e (if s.pinnedDescriptor = some e then
              { s.descriptor e with state := .returning } else Descriptor.free)).pinnedDescriptor = some e := hp
          rw [if_pos hp', if_pos hp]
        · have hp' : ¬ (s.setDescriptor e (if s.pinnedDescriptor = some e then
              { s.descriptor e with state := .returning } else Descriptor.free)).pinnedDescriptor = some e := hp
          rw [if_neg hp', if_neg hp]
      simp [this]
    · rw [freed_setDescriptor s d e _ hed, descriptor_setDescriptor_ne s _ hed]
      simp [hed]

/-- Freeing descriptors touches nothing but the descriptors (R81). -/
theorem foldl_freeDescriptor_eq (l : List DescNo) (s : State) :
    l.foldl State.freeDescriptor s = { s with descriptors := (l.foldl State.freeDescriptor s).descriptors } := by
  induction l generalizing s with
  | nil => rfl
  | cons d l ih => rw [List.foldl_cons, ih, freeDescriptor_eq]; rfl

/-- The lowest FREE descriptor is FREE (R79). -/
theorem lowestFreeDescriptor_state {s : State} {d : DescNo} (h : s.lowestFreeDescriptor = some d) :
    (s.descriptor d).state = .free := by
  have := List.find?_some h
  simpa using this

/-- The lowest FREE record is FREE (R1). -/
theorem lowestFreeCircuit_state {s : State} {c : CircuitNo} (h : s.lowestFreeCircuit = some c) :
    (s.circuit c).state = .free := by
  have := List.find?_some h
  simpa using this

/-- A page in the free pool exists and is in no descriptor's list (R77). -/
theorem pageFree_iff (s : State) (p : Nat) :
    s.pageFree p = true ↔ p < Config.pageCount ∧ p ∉ s.heldPages := by
  simp [State.pageFree]

theorem lowestFreePage_free {s : State} {p : Nat} (h : s.lowestFreePage = some p) : s.pageFree p = true :=
  List.find?_some h

theorem mem_freePages (s : State) (p : Nat) : p ∈ s.freePages ↔ s.pageFree p = true := by
  simp only [State.freePages, List.mem_filter, List.mem_range]
  constructor
  · exact fun h => h.2
  · exact fun h => ⟨((pageFree_iff s p).1 h).1, h⟩

/-- Every page ALLOC chooses is free (R83). -/
theorem choosePages_free (s : State) (n p : Nat) (h : p ∈ s.choosePages n) : s.pageFree p = true := by
  unfold State.choosePages at h
  split at h
  · next q hq =>
    have := List.find?_some hq
    simp only [List.all_eq_true, List.mem_range] at this
    obtain ⟨k, hk, rfl⟩ := List.mem_map.1 h
    exact this k (List.mem_range.1 hk)
  · exact (mem_freePages s p).1 (List.mem_of_mem_take h)

/-- ALLOC chooses no page twice (R83). -/
theorem choosePages_nodup (s : State) (n : Nat) : (s.choosePages n).Nodup := by
  unfold State.choosePages
  split
  · next q hq =>
    exact List.pairwise_map.2 (List.nodup_range.imp (fun h e => h (Nat.add_left_cancel e)))
  · exact (List.nodup_range.filter _).sublist (List.take_sublist _ _)

/-- ALLOC chooses n pages when n are free (R82, R83). -/
theorem choosePages_length (s : State) (n : Nat) (h : n ≤ s.freePages.length) : (s.choosePages n).length = n := by
  unfold State.choosePages
  split
  · simp
  · simp [h]

/-! ### Labels (R96 to R99) -/

/-- The allocation scan examines no label 0 (R98). -/
theorem scanLabel_ne_zero (pointer : Label) (k : Nat) : scanLabel pointer k ≠ 0 := by
  intro h
  have := congrArg BitVec.toNat h
  simp only [scanLabel, BitVec.toNat_ofNat] at this
  have hlt : (pointer.toNat - 1 + k) % 255 < 255 := Nat.mod_lt _ (by decide)
  simp at this
  omega

/-- The label the scan gives is not 0 and is FREE (R98). -/
theorem scanFreeLabel_spec {s : State} {l : Label} (h : s.scanFreeLabel = some l) : l ≠ 0 ∧ s.label l = .free := by
  refine ⟨?_, by simpa using List.find?_some h⟩
  have hm := List.mem_of_find?_eq_some h
  obtain ⟨k, _, rfl⟩ := List.mem_map.1 hm
  exact scanLabel_ne_zero _ k

/-- The allocation pointer after a label is taken is not 0 (R98). -/
theorem pointerAfter_ne_zero (l : Label) : pointerAfter l ≠ 0 := by
  unfold pointerAfter
  split
  · decide
  · next h =>
    intro h0
    have h1 := congrArg BitVec.toNat h0
    have h2 : l.toNat ≠ 255 := fun e => h (BitVec.eq_of_toNat_eq (by simpa using e))
    have h3 := l.isLt
    simp [BitVec.toNat_add] at h1
    omega

/-- Creation writes the label's entry, the pointer and the record, and nothing else (R3, R98). -/
theorem createDialled_eq (s : State) (c : CircuitNo) (l : Label) (r : CircuitRecord) (hl : l ≠ 0) :
    s.createDialled c l r = { s with
      circuits := s.circuits.set c.val { r with stale := (s.circuit c).stale, localLabel := l }
      labels := s.labels.set (labelIndex l).val (.bound c false)
      allocPtr := pointerAfter l } := by
  simp only [State.createDialled, State.allocateLabel, State.setLabel]
  rw [if_neg hl]
  rfl

end Sys2Proof.Machine
end

