-- ==== Sys2Proof/Laws/Circuits.lean ====
section
/-! SUPPORT. The shared operations of one circuit: each leaves the frame of that circuit, and what it makes of the record
and of the descriptors is said once. -/

namespace Sys2Proof.Machine

/-! ### The frame of a circuit -/

theorem CircuitFrame.refl (c : CircuitNo) (s : State) : CircuitFrame c s s := by constructor <;> intros <;> rfl

theorem CircuitFrame.trans {c : CircuitNo} {s t u : State} (h : CircuitFrame c s t) (k : CircuitFrame c t u) :
    CircuitFrame c s u where
  others d hd     := (k.others d hd).trans (h.others d hd)
  listen          := k.listen.trans h.listen
  labels          := k.labels.trans h.labels
  allocPtr        := k.allocPtr.trans h.allocPtr
  memory          := k.memory.trans h.memory
  latch           := k.latch.trans h.latch
  link            := k.link.trans h.link
  lineReady       := k.lineReady.trans h.lineReady
  tx              := k.tx.trans h.tx
  line            := k.line.trans h.line
  controlPos      := k.controlPos.trans h.controlPos
  dataPos         := k.dataPos.trans h.dataPos
  startUp         := k.startUp.trans h.startUp
  msCount         := k.msCount.trans h.msCount
  dataBus         := k.dataBus.trans h.dataBus
  linkStale       := k.linkStale.trans h.linkStale
  intEnable       := k.intEnable.trans h.intEnable
  pending         := k.pending.trans h.pending

theorem EngineFrame.refl (c : CircuitNo) (s : State) : EngineFrame c s s := ⟨CircuitFrame.refl c s, rfl, rfl, rfl⟩

theorem EngineFrame.trans {c : CircuitNo} {s t u : State} (h : EngineFrame c s t) (k : EngineFrame c t u) :
    EngineFrame c s u where
  toCircuitFrame := h.toCircuitFrame.trans k.toCircuitFrame
  receiver       := k.receiver.trans h.receiver
  port           := k.port.trans h.port
  freeCount      := k.freeCount.trans h.freeCount

theorem frame_setCircuit (s : State) (c : CircuitNo) (r : CircuitRecord) : EngineFrame c s (s.setCircuit c r) where
  others _ hd := circuit_setCircuit_ne s r hd
  listen     := rfl
  labels     := rfl
  allocPtr   := rfl
  memory     := rfl
  latch      := rfl
  link       := rfl
  lineReady  := rfl
  tx         := rfl
  line       := rfl
  controlPos := rfl
  dataPos    := rfl
  startUp    := rfl
  msCount    := rfl
  dataBus    := rfl
  linkStale  := rfl
  intEnable  := rfl
  pending    := rfl
  receiver   := rfl
  port       := rfl
  freeCount  := rfl

theorem frame_onCircuit (s : State) (c : CircuitNo) (f : CircuitRecord → CircuitRecord) :
    EngineFrame c s (s.onCircuit c f) := frame_setCircuit ..

theorem frame_onSend (s : State) (c : CircuitNo) (f : SendContext → SendContext) : EngineFrame c s (s.onSend c f) :=
  frame_setCircuit ..

theorem frame_onRecv (s : State) (c : CircuitNo) (f : RecvContext → RecvContext) : EngineFrame c s (s.onRecv c f) :=
  frame_setCircuit ..

theorem frame_setDescriptor (s : State) (c : CircuitNo) (d : DescNo) (x : Descriptor) :
    EngineFrame c s (s.setDescriptor d x) := by
  refine ⟨?_, rfl, rfl, rfl⟩
  constructor <;> intros <;> rfl

theorem frame_onDescriptor (s : State) (c : CircuitNo) (d : DescNo) (f : Descriptor → Descriptor) :
    EngineFrame c s (s.onDescriptor d f) := frame_setDescriptor ..

theorem frame_startTimer (s : State) (c : CircuitNo) (purpose : TimerPurpose) (ms : Nat) :
    EngineFrame c s (s.startTimer c purpose ms) := frame_onCircuit ..

theorem frame_finish (s : State) (c : CircuitNo) (code : ResultCode) (values : List Nat) :
    CircuitFrame c s (s.finish code values) := by constructor <;> intros <;> rfl

theorem frame_countFree (s : State) (c : CircuitNo) (b : Bool) : CircuitFrame c s (s.countFree b) := by
  cases b <;> constructor <;> intros <;> rfl

theorem frame_requestLoose (s : State) (c : CircuitNo) (x : LooseReply) : EngineFrame c s (s.requestLoose x) := by
  refine ⟨?_, by simp, by simp, ?_⟩
  · constructor <;> intros <;> simp [State.circuit]
  · unfold State.requestLoose; split <;> (try split) <;> rfl

theorem frame_raise (s : State) {c : CircuitNo} {e : Event} (h : e.circuit = some c) : EngineFrame c s (s.raise e) where
  others _ hd := raise_circuit_ne s e h hd
  listen     := by simp
  labels     := by simp
  allocPtr   := by simp
  memory     := by simp
  latch      := by simp
  link       := by simp
  lineReady  := by simp
  tx         := by simp
  line       := by simp
  controlPos := by simp
  dataPos    := by simp
  startUp    := by simp
  msCount    := by simp
  dataBus    := by simp
  linkStale  := raise_linkStale s e h
  intEnable  := by simp
  pending    := by simp
  receiver   := by simp
  port       := by simp
  freeCount  := by simp

theorem frame_freeDescriptor (s : State) (c : CircuitNo) (d : DescNo) : EngineFrame c s (s.freeDescriptor d) := by
  rw [freeDescriptor_eq]; exact frame_setDescriptor ..

theorem frame_foldl_free (l : List DescNo) (s : State) (c : CircuitNo) :
    EngineFrame c s (l.foldl State.freeDescriptor s) := by
  rw [foldl_freeDescriptor_eq]
  refine ⟨?_, rfl, rfl, rfl⟩
  constructor <;> intros <;> rfl

theorem circuit_foldl_free (l : List DescNo) (s : State) (c : CircuitNo) :
    (l.foldl State.freeDescriptor s).circuit c = s.circuit c := by rw [foldl_freeDescriptor_eq]; rfl

/-! ### Closing both sides (R50, R74) -/

/-- The receive context after its assembly is dropped (R73, R74). -/
def RecvContext.dropped (x : RecvContext) : RecvContext := { x with assembly := none, announced := none }

theorem frame_closeSend (s : State) (c : CircuitNo) : EngineFrame c s (s.closeSend c) :=
  (frame_foldl_free ..).trans (frame_onSend ..)

theorem closeSend_circuit (s : State) (c : CircuitNo) :
    (s.closeSend c).circuit c = { s.circuit c with send := (s.circuit c).send.closed } := by
  unfold State.closeSend State.onSend
  rw [circuit_onCircuit_self, circuit_foldl_free]
  rfl

theorem closeSend_descriptor (s : State) (c : CircuitNo) (d : DescNo) :
    (s.closeSend c).descriptor d = if d ∈ (s.circuit c).send.blocks then freed s d else s.descriptor d :=
  foldl_freeDescriptor (s.circuit c).send.blocks s d

theorem frame_dropAssembly (s : State) (c : CircuitNo) : EngineFrame c s (s.dropAssembly c) := by
  unfold State.dropAssembly
  split
  · exact frame_onRecv ..
  · exact (frame_freeDescriptor ..).trans (frame_onRecv ..)

theorem dropAssembly_circuit (s : State) (c : CircuitNo) :
    (s.dropAssembly c).circuit c = { s.circuit c with recv := (s.circuit c).recv.dropped } := by
  unfold State.dropAssembly State.onRecv
  rw [circuit_onCircuit_self]
  split
  · rfl
  · rw [freeDescriptor_eq]; rfl

theorem dropAssembly_descriptor (s : State) (c : CircuitNo) (d : DescNo) :
    (s.dropAssembly c).descriptor d =
      if (s.circuit c).recv.assembly = some d then freed s d else s.descriptor d := by
  have h : ∀ t : State, ∀ f, (t.onRecv c f).descriptor d = t.descriptor d := fun _ _ => rfl
  unfold State.dropAssembly
  rw [h]
  split
  · next ha => rw [ha, if_neg (by simp)]
  · next e ha =>
    rw [ha, freeDescriptor_eq, descriptor_setDescriptor]
    by_cases hd : d = e
    · subst hd; simp
    · rw [if_neg hd, if_neg (by simpa using fun q => hd q.symm)]

theorem frame_closeRecv (s : State) (c : CircuitNo) : EngineFrame c s (s.closeRecv c) :=
  (frame_dropAssembly ..).trans (frame_onRecv ..)

theorem closeRecv_circuit (s : State) (c : CircuitNo) :
    (s.closeRecv c).circuit c =
      { s.circuit c with recv := { (s.circuit c).recv.dropped with heldReported := false } } := by
  unfold State.closeRecv
  rw [State.onRecv, circuit_onCircuit_self, dropAssembly_circuit]

theorem closeRecv_descriptor (s : State) (c : CircuitNo) (d : DescNo) :
    (s.closeRecv c).descriptor d =
      if (s.circuit c).recv.assembly = some d then freed s d else s.descriptor d := dropAssembly_descriptor s c d

theorem freed_closeSend (s : State) (c : CircuitNo) (d : DescNo) : freed (s.closeSend c) d =
    if d ∈ (s.circuit c).send.blocks then freed s d else freed s d := by
  have hp : (s.closeSend c).pinnedDescriptor = s.pinnedDescriptor := by
    simp [State.pinnedDescriptor, (frame_closeSend s c).tx]
  unfold freed
  rw [hp, closeSend_descriptor]
  by_cases h : d ∈ (s.circuit c).send.blocks
  · rw [if_pos h, if_pos h]
    by_cases q : s.pinnedDescriptor = some d
    · simp [freed, q]
    · simp [q]
  · rw [if_neg h, if_neg h]

/-- The close of both sides frees the send blocks and the assembly, and no other descriptor (R50, R74). -/
theorem closeBoth_descriptor (s : State) (c : CircuitNo) (d : DescNo) :
    ((s.closeSend c).closeRecv c).descriptor d =
      if d ∈ (s.circuit c).send.blocks ∨ (s.circuit c).recv.assembly = some d then freed s d else s.descriptor d := by
  rw [closeRecv_descriptor, closeSend_circuit, freed_closeSend, closeSend_descriptor]
  by_cases h : d ∈ (s.circuit c).send.blocks <;> by_cases q : (s.circuit c).recv.assembly = some d <;> simp [h, q]

/-! ### Entering CLOSED and CLOSING (R9, R12, R135) -/

theorem frame_toClosed (s : State) (c : CircuitNo) (cause diagnostic : Octet) (originator : Originator)
    (confirmed : Bool) (owed : Option ProtocolKind) :
    EngineFrame c s (s.toClosed c cause diagnostic originator confirmed owed) :=
  ((frame_closeSend ..).trans (frame_closeRecv ..)).trans (frame_onCircuit ..)

theorem toClosed_circuit (s : State) (c : CircuitNo) (cause diagnostic : Octet) (originator : Originator)
    (confirmed : Bool) (owed : Option ProtocolKind) :
    (s.toClosed c cause diagnostic originator confirmed owed).circuit c =
      closedRecord (s.circuit c) cause diagnostic originator confirmed owed := by
  unfold State.toClosed
  rw [circuit_onCircuit_self, closeRecv_circuit, closeSend_circuit]
  rfl

theorem toClosed_descriptor (s : State) (c : CircuitNo) (cause diagnostic : Octet) (originator : Originator)
    (confirmed : Bool) (owed : Option ProtocolKind) (d : DescNo) :
    (s.toClosed c cause diagnostic originator confirmed owed).descriptor d =
      if d ∈ (s.circuit c).send.blocks ∨ (s.circuit c).recv.assembly = some d then freed s d else s.descriptor d :=
  closeBoth_descriptor s c d

theorem frame_enterClosed (s : State) (c : CircuitNo) (cause diagnostic : Octet) (originator : Originator)
    (confirmed : Bool) (owed : Option ProtocolKind) :
    EngineFrame c s (s.enterClosed c cause diagnostic originator confirmed owed) := by
  refine (frame_toClosed s c cause diagnostic originator confirmed owed).trans ?_
  unfold State.enterClosed
  dsimp only
  split <;> exact frame_raise _ rfl

theorem frame_finishClosing (s : State) (c : CircuitNo) (confirmed : Bool) (owed : Option ProtocolKind) :
    EngineFrame c s (s.finishClosing c confirmed owed) :=
  (frame_onCircuit ..).trans (frame_raise _ rfl)

theorem frame_endCircuit (s : State) (c : CircuitNo) (cause : Octet) : EngineFrame c s (s.endCircuit c cause) := by
  unfold State.endCircuit
  split
  · exact frame_finishClosing ..
  · exact frame_enterClosed ..

theorem frame_enterClosing (s : State) (c : CircuitNo) (cause diagnostic : Octet) (originator : Originator) :
    EngineFrame c s (s.enterClosing c cause diagnostic originator) :=
  (((frame_closeSend ..).trans (frame_closeRecv ..)).trans (frame_onCircuit ..)).trans (frame_startTimer ..)

theorem enterClosing_circuit (s : State) (c : CircuitNo) (cause diagnostic : Octet) (originator : Originator) :
    (s.enterClosing c cause diagnostic originator).circuit c =
      closingRecord (s.circuit c) cause diagnostic originator s.link.config.closeTimer := by
  unfold State.enterClosing State.startTimer
  rw [circuit_onCircuit_self, circuit_onCircuit_self, closeRecv_circuit, closeSend_circuit]
  rfl

theorem enterClosing_descriptor (s : State) (c : CircuitNo) (cause diagnostic : Octet) (originator : Originator)
    (d : DescNo) : (s.enterClosing c cause diagnostic originator).descriptor d =
      if d ∈ (s.circuit c).send.blocks ∨ (s.circuit c).recv.assembly = some d then freed s d else s.descriptor d :=
  closeBoth_descriptor s c d

/-- The close of both sides touches the record and the descriptors alone (R50, R74). -/
theorem closeBoth_eq (s : State) (c : CircuitNo) :
    (s.closeSend c).closeRecv c = { s with
      circuits := s.circuits.set c.val (((s.closeSend c).closeRecv c).circuit c)
      descriptors := ((s.closeSend c).closeRecv c).descriptors } := by
  have h1 : s.closeSend c = { s with
      circuits := s.circuits.set c.val ((s.closeSend c).circuit c), descriptors := (s.closeSend c).descriptors } := by
    unfold State.closeSend
    rw [foldl_freeDescriptor_eq]
    simp [State.onSend, State.onCircuit, State.setCircuit, State.circuit]
  have h2 : ∀ t : State, t.closeRecv c = { t with
      circuits := t.circuits.set c.val ((t.closeRecv c).circuit c), descriptors := (t.closeRecv c).descriptors } := by
    intro t
    unfold State.closeRecv State.dropAssembly
    split
    · simp [State.onRecv, State.onCircuit, State.setCircuit, State.circuit]
    · rw [freeDescriptor_eq]
      simp [State.onRecv, State.onCircuit, State.setCircuit, State.circuit, State.setDescriptor]
  have h3 := h2 (s.closeSend c)
  generalize (s.closeSend c).closeRecv c = u at h3 ⊢
  rw [h3]
  generalize u.circuit c = r
  generalize u.descriptors = ds
  rw [h1]
  simp [State.circuit]

/-- A record that enters CLOSED with no event touches its record and the descriptors alone (R9, R12). -/
theorem toClosed_eq (s : State) (c : CircuitNo) (cause diagnostic : Octet) (originator : Originator)
    (confirmed : Bool) (owed : Option ProtocolKind) :
    s.toClosed c cause diagnostic originator confirmed owed = { s with
      circuits := s.circuits.set c.val (closedRecord (s.circuit c) cause diagnostic originator confirmed owed)
      descriptors := ((s.closeSend c).closeRecv c).descriptors } := by
  have h := toClosed_circuit s c cause diagnostic originator confirmed owed
  rw [← h]
  unfold State.toClosed
  rw [circuit_onCircuit_self]
  have e := closeBoth_eq s c
  generalize (s.closeSend c).closeRecv c = u at e ⊢
  rw [e]
  simp [State.onCircuit, State.setCircuit, State.circuit]

/-- A record that enters CLOSING touches its record and the descriptors alone (R135). -/
theorem enterClosing_eq (s : State) (c : CircuitNo) (cause diagnostic : Octet) (originator : Originator) :
    s.enterClosing c cause diagnostic originator = { s with
      circuits := s.circuits.set c.val
        (closingRecord (s.circuit c) cause diagnostic originator s.link.config.closeTimer)
      descriptors := ((s.closeSend c).closeRecv c).descriptors } := by
  have h := enterClosing_circuit s c cause diagnostic originator
  rw [← h]
  unfold State.enterClosing State.startTimer
  rw [circuit_onCircuit_self, circuit_onCircuit_self]
  have e := closeBoth_eq s c
  generalize (s.closeSend c).closeRecv c = u at e ⊢
  rw [e]
  simp [State.onCircuit, State.setCircuit, State.circuit]

/-! ### The start decision (R29, R30) -/

theorem frame_failTooLarge (s : State) (c : CircuitNo) (d : DescNo) : EngineFrame c s (s.failTooLarge c d) :=
  (frame_raise _ rfl).trans (frame_freeDescriptor ..)

theorem frame_startBlock (s : State) (c : CircuitNo) (d : DescNo) (rest : List DescNo) :
    EngineFrame c s (s.startBlock c d rest) := by
  unfold State.startBlock
  exact (frame_onDescriptor ..).trans (frame_onSend ..)

theorem frame_startHead (l : List DescNo) (s : State) (c : CircuitNo) : EngineFrame c s (s.startHead c l) := by
  induction l generalizing s with
  | nil => exact frame_onSend ..
  | cons d l ih =>
    unfold State.startHead
    split
    · exact (frame_failTooLarge ..).trans (ih _)
    · exact frame_startBlock ..

theorem frame_startDecision (s : State) (c : CircuitNo) (b : Bool) : EngineFrame c s (s.startDecision c b) := by
  unfold State.startDecision
  split
  · exact frame_onSend ..
  · split
    · exact frame_startHead ..
    · split
      · exact (frame_onSend ..).trans (frame_onCircuit ..)
      · exact (frame_onSend ..).trans (frame_onCircuit ..)

/-! ### Rewinding (R48, R73, R143 to R148) -/

theorem frame_returnActive (s : State) (c : CircuitNo) : EngineFrame c s (s.returnActive c) := by
  unfold State.returnActive
  split
  · exact EngineFrame.refl ..
  · exact (frame_setDescriptor ..).trans (frame_onSend ..)

theorem frame_rewindSend (s : State) (c : CircuitNo) : EngineFrame c s (s.rewindSend c) :=
  (frame_returnActive ..).trans (frame_onCircuit ..)

theorem frame_rewindRecv (s : State) (c : CircuitNo) : EngineFrame c s (s.rewindRecv c) :=
  (frame_dropAssembly ..).trans (frame_onCircuit ..)

theorem frame_enterRewinding (s : State) (c : CircuitNo) (cause : Octet) (originator : Originator) :
    EngineFrame c s (s.enterRewinding c cause originator) :=
  (((frame_rewindSend ..).trans (frame_rewindRecv ..)).trans (frame_onCircuit ..)).trans (frame_startTimer ..)

theorem frame_finishRewinding (s : State) (c : CircuitNo) (k : Option ProtocolKind) :
    EngineFrame c s (s.finishRewinding c k) :=
  ((frame_onCircuit ..).trans (frame_startDecision ..)).trans (frame_raise _ rfl)

theorem frame_rewindInOpen (s : State) (c : CircuitNo) (cause : Octet) : EngineFrame c s (s.rewindInOpen c cause) :=
  ((((frame_rewindSend ..).trans (frame_rewindRecv ..)).trans (frame_onCircuit ..)).trans
    (frame_startDecision ..)).trans (frame_raise _ rfl)

/-- The record a REWIND frame leaves, by the operation that stops its STATUS or PROBE timer (R48). -/
theorem rewoundRecord_eq (r : CircuitRecord) :
    rewoundRecord r = { r.stopSendTimer with
      protocol := some .rewindDone, transfer := resumedTransfer r.send.rewound, answer := none
      send := r.send.rewound.resumed, recv := r.recv.rewound } := by
  unfold rewoundRecord CircuitRecord.stopSendTimer
  cases h : r.timer with
  | none => simp [h]
  | some x => rcases x with ⟨purpose, remaining⟩; cases purpose <;> simp [h]

theorem rewindSend_circuit (s : State) (c : CircuitNo) :
    (s.rewindSend c).circuit c =
      { (s.circuit c).stopSendTimer with transfer := none, send := (s.circuit c).send.rewound } := by
  unfold State.rewindSend
  rw [circuit_onCircuit_self]
  unfold State.returnActive
  split
  · next h =>
    unfold CircuitRecord.stopSendTimer SendContext.rewound SendContext.blocks
    rw [h]
    split <;> simp [h]
  · next a h =>
    have hs : ((s.onDescriptor a.desc (fun x => { x with state := .queued, blockNumber := none })).onSend c (fun x =>
        { x with active := none, queue := a.desc :: x.queue })).circuit c =
        { s.circuit c with
          send := { (s.circuit c).send with active := none, queue := a.desc :: (s.circuit c).send.queue } } := by
      unfold State.onSend; rw [circuit_onCircuit_self]; rfl
    rw [hs]
    unfold CircuitRecord.stopSendTimer SendContext.rewound SendContext.blocks
    rw [h]
    dsimp only
    split <;> simp

theorem rewindRecv_circuit (s : State) (c : CircuitNo) :
    (s.rewindRecv c).circuit c = { s.circuit c with answer := none, recv := (s.circuit c).recv.rewound } := by
  unfold State.rewindRecv
  rw [circuit_onCircuit_self, dropAssembly_circuit]
  rfl

theorem enterRewinding_circuit (s : State) (c : CircuitNo) (cause : Octet) (originator : Originator) :
    (s.enterRewinding c cause originator).circuit c =
      rewindingRecord (s.circuit c) cause originator s.link.config.rewindTimer := by
  unfold State.enterRewinding State.startTimer
  rw [circuit_onCircuit_self, circuit_onCircuit_self, rewindRecv_circuit, rewindSend_circuit]
  unfold CircuitRecord.stopSendTimer
  split <;> rfl

end Sys2Proof.Machine
end

