-- ==== Sys2Proof/Laws/Commands.lean ====
section
/-! SUPPORT. The taking of a host command and the arrival of a frame: what each comes to where its conditions hold, said
once, so that no proof about a row unfolds them. -/

namespace Sys2Proof.Machine

/-! ### Takings (R195, R196) -/

theorem Started.running {c : Instr} {s : State} (h : Started c s) : s.running = true := by
  simp [State.running, h.1, h.2.1]

/-- A started command's block acts (R196). -/
theorem taking_of_started {c : Instr} {s : State} (h : Started c s) (body : State → State) :
    s.taking c body = body s := by
  unfold State.taking
  rw [if_pos (by simp [h.running, h.2.2])]

/-- A code that is not the started command's does not act (R196, log 3). -/
theorem taking_of_not {c : Instr} {s : State} (body : State → State) (h : commandCode c ≠ some s.port.command) :
    s.taking c body = s := by
  unfold State.taking
  rw [if_neg (by simp [h])]

theorem succeed_eq (s : State) (values : List Nat) :
    s.succeed values = { s with port := donePort s.port .ok values } := rfl

theorem reject_eq (s : State) (code : ResultCode) : s.reject code = { s with port := donePort s.port code [] } := rfl

theorem next_succeed (s : State) (values : List Nat) :
    (Host.Outcome.next (s.succeed values) : Host.Outcome State Fault Refusal) = answers s values := rfl

theorem next_reject (s : State) (code : ResultCode) :
    (Host.Outcome.next (s.reject code) : Host.Outcome State Fault Refusal) = refusedWith s code := rfl

/-- A command that names a circuit in use acts on it (R2). -/
theorem withCircuit_of_named {s : State} {k : Nat} {c : CircuitNo} (h : NamesCircuit s k c) (body : CircuitNo → State) :
    s.withCircuit (s.param k) body = body c := by
  have hc : (s.circuit ⟨s.param k, by rw [h.1]; exact c.isLt⟩) = s.circuit c := by congr 1; exact Fin.ext h.1
  unfold State.withCircuit State.namedCircuit
  rw [dif_pos (show s.param k < 64 by rw [h.1]; exact c.isLt), if_neg (by rw [hc]; exact h.2)]
  dsimp only
  congr 1
  exact Fin.ext h.1

/-- A command that names no circuit in use is refused (R2). -/
theorem withCircuit_of_not {s : State} {k : Nat} (h : ∀ c, ¬ NamesCircuit s k c) (body : CircuitNo → State) :
    s.withCircuit (s.param k) body = s.reject .badCircuit := by
  unfold State.withCircuit State.namedCircuit
  by_cases hk : s.param k < 64
  · rw [dif_pos hk, if_pos (Classical.byContradiction fun hn => h ⟨s.param k, hk⟩ ⟨rfl, hn⟩)]
  · rw [dif_neg hk]

/-! ### Arrivals (R102 to R104, R180) -/

theorem Hears.lineHeard {s : State} (h : Hears s) : s.lineHeard = true := by
  simp [State.lineHeard, h.1, h.2]

/-- A good frame that is heard goes to its owner (R185). -/
theorem arrive_of_hears {s : State} (h : Hears s) {f : Frame} (hf : f.wellFormed = true) (owner : State → State) :
    s.arrive f owner = owner s.heard := by
  unfold State.arrive
  rw [if_pos h.lineHeard, if_pos hf]
  rfl

@[simp] theorem heard_circuit (s : State) (c : CircuitNo) : s.heard.circuit c = s.circuit c := (rfl)
@[simp] theorem heard_label (s : State) (l : Label) : s.heard.label l = s.label l := (rfl)
@[simp] theorem heard_descriptor (s : State) (d : DescNo) : s.heard.descriptor d = s.descriptor d := (rfl)
@[simp] theorem heard_link (s : State) : s.heard.link = s.link := (rfl)

/-- A frame to a bound label goes to its circuit (R103). -/
theorem dispatch_of_bound {s : State} {dst : Label} {c : CircuitNo} {fixed : Bool} (hu : s.link.state = .up)
    (hd : dst ≠ 0) (hl : s.label dst = .bound c fixed) (bound : CircuitNo → State → State) (unbound : State → State) :
    s.dispatch dst bound unbound = bound c s := by
  unfold State.dispatch
  rw [if_pos ⟨hu, hd⟩, hl]

/-- A frame to a FREE label has the treatment of R104. -/
theorem dispatch_of_free {s : State} {dst : Label} (hu : s.link.state = .up) (hd : dst ≠ 0)
    (hl : s.label dst = .free) (bound : CircuitNo → State → State) (unbound : State → State) :
    s.dispatch dst bound unbound = unbound s := by
  unfold State.dispatch
  rw [if_pos ⟨hu, hd⟩, hl]

/-- A frame to a RESTING label has the treatment of R104. -/
theorem dispatch_of_resting {s : State} {dst : Label} {n : Nat} (hu : s.link.state = .up) (hd : dst ≠ 0)
    (hl : s.label dst = .resting n) (bound : CircuitNo → State → State) (unbound : State → State) :
    s.dispatch dst bound unbound = unbound s := by
  unfold State.dispatch
  rw [if_pos ⟨hu, hd⟩, hl]

theorem Reaches.dispatch {s : State} {dst : Label} {c : CircuitNo} (h : Reaches s dst c)
    (bound : CircuitNo → State → State) (unbound : State → State) :
    s.heard.dispatch dst bound unbound = bound c s.heard := by
  obtain ⟨_, hu, hd, _, hl⟩ := h
  exact dispatch_of_bound (s := s.heard) hu hd hl bound unbound

/-- A frame that reaches an OPEN circuit is taken there (R103). -/
theorem Reaches.dispatchOpen {s : State} {dst : Label} {c : CircuitNo} (h : Reaches s dst c)
    (ho : (s.circuit c).state = .opened) (taken : CircuitNo → State → State) :
    s.heard.dispatchOpen dst taken = taken c s.heard := by
  unfold State.dispatchOpen
  rw [h.dispatch, if_pos (show (s.heard.circuit c).state = .opened from ho)]

end Sys2Proof.Machine
end

