-- ==== Sys2Proof/Laws/Transfer.lean ====
section
/-! SUPPORT. The receive and the send side of one circuit: the class of a block number, the received set, and what the
start decision, an advance and a rewind come to. -/

namespace Sys2Proof.Machine

/-! ### Block numbers (R54) -/

theorem number_ne_pred (b : BlockNumber) : b - 1 ≠ b := by
  bv_omega

theorem classOf_expected (x : RecvContext) : x.classOf x.expected = .current := by simp [RecvContext.classOf]

theorem classOf_previous (x : RecvContext) (h : x.lastOutcome ≠ .none) : x.classOf (x.expected - 1) = .previous := by
  unfold RecvContext.classOf
  rw [if_neg (number_ne_pred _), if_pos ⟨rfl, h⟩]

theorem classOf_stranger (x : RecvContext) (b : BlockNumber) (h : b ≠ x.expected)
    (k : b ≠ x.expected - 1 ∨ x.lastOutcome = .none) : x.classOf b = .error := by
  unfold RecvContext.classOf
  rw [if_neg h, if_neg]
  rintro ⟨h1, h2⟩
  rcases k with k | k
  · exact k h1
  · exact h2 k

/-! ### The received set (section 3.1) -/

theorem hasSegment_iff (s : State) (c : CircuitNo) (i : Nat) :
    s.hasSegment c i = true ↔ ∃ y ∈ s.assemblySlots c, y.index = i := by
  simp [State.hasSegment]

theorem hasAll_iff (s : State) (c : CircuitNo) (n : Nat) :
    s.hasAll c n = true ↔ ∀ i, i < n → ∃ y ∈ s.assemblySlots c, y.index = i := by
  simp only [State.hasAll, List.all_eq_true, List.mem_range, hasSegment_iff]

/-- The ready flag in the words of R66. -/
theorem readyFlag_iff (r : CircuitRecord) : r.readyFlag = true ↔ r.recv.delivered.length < r.window := by
  unfold CircuitRecord.readyFlag
  rw [decide_eq_true_eq]
  rfl

theorem readyFlag_eq (r : CircuitRecord) : r.readyFlag = decide (r.recv.delivered.length < r.window) := rfl

/-- The check of R59 on the stored block, in its own words. -/
theorem countAgrees_iff (s : State) (c : CircuitNo) (n : Nat) :
    s.countAgrees c n = true ↔
      ((s.circuit c).recv.announced = none ∨ (s.circuit c).recv.announced = some n) ∧
      ∀ y ∈ s.assemblySlots c, y.index < n ∧ (n ≤ y.index + 1 ∨ 256 ≤ y.octets) := by
  unfold State.countAgrees
  rw [Bool.and_eq_true, List.all_eq_true]
  refine and_congr ?_ ?_
  · cases (s.circuit c).recv.announced <;> simp
  · simp

/-! ### Raising an event among other changes (R204) -/

/-- An event raised on a state with the queue and stale flags of s is an event raised on s. -/
theorem raised_of_raise {s u : State} {e : Event} (he : u.events = s.events) (hl : u.linkStale = s.linkStale)
    (hs : ∀ c, (u.circuit c).stale = (s.circuit c).stale) : Raised s (u.raise e) e := by
  intro hr
  rw [raise_of_room u e (by rw [he]; omega)]
  exact ⟨by rw [← he], hl, hs⟩

/-- Changes after an event leave it raised where they touch no event and no stale flag. -/
theorem Raised.then {s t u : State} {e : Event} (h : Raised s t e) (he : u.events = t.events)
    (hl : u.linkStale = t.linkStale) (hs : ∀ c, (u.circuit c).stale = (t.circuit c).stale) : Raised s u e := by
  intro hr
  obtain ⟨h1, h2, h3⟩ := h hr
  exact ⟨he.trans h1, hl.trans h2, fun c => (hs c).trans (h3 c)⟩

/-- A change of one record keeps every stale flag where it keeps its own. -/
theorem stale_setCircuit (s : State) (c : CircuitNo) (r : CircuitRecord) (h : r.stale = (s.circuit c).stale)
    (d : CircuitNo) : ((s.setCircuit c r).circuit d).stale = (s.circuit d).stale := by
  rw [circuit_setCircuit]
  split
  · next hd => subst hd; exact h
  · rfl

theorem stale_onCircuit (s : State) (c : CircuitNo) (f : CircuitRecord → CircuitRecord)
    (h : (f (s.circuit c)).stale = (s.circuit c).stale) (d : CircuitNo) :
    ((s.onCircuit c f).circuit d).stale = (s.circuit d).stale := stale_setCircuit s c _ h d

/-- A change of one record after an event leaves it raised where it keeps the stale flag. -/
theorem Raised.onCircuit {s t : State} {e : Event} (h : Raised s t e) (c : CircuitNo)
    (f : CircuitRecord → CircuitRecord) (hf : (f (t.circuit c)).stale = (t.circuit c).stale) :
    Raised s (t.onCircuit c f) e := h.then rfl rfl (stale_onCircuit t c f hf)

theorem Raised.onSend {s t : State} {e : Event} (h : Raised s t e) (c : CircuitNo) (f : SendContext → SendContext) :
    Raised s (t.onSend c f) e := h.onCircuit c _ rfl

theorem Raised.startTimer {s t : State} {e : Event} (h : Raised s t e) (c : CircuitNo) (purpose : TimerPurpose)
    (ms : Nat) : Raised s (t.startTimer c purpose ms) e := h.onCircuit c _ rfl

theorem Raised.startBlock {s t : State} {e : Event} (h : Raised s t e) (c : CircuitNo) (d : DescNo)
    (rest : List DescNo) : Raised s (t.startBlock c d rest) e :=
  (h.then (u := t.onDescriptor d _) rfl rfl fun _ => rfl).onSend c _

/-- Completion of a block (R61, R87). -/
theorem complete_spec {s : State} {c : CircuitNo} {d : DescNo} (ha : (s.circuit c).recv.assembly = some d) :
    EngineFrame c s (s.complete c) ∧
    (s.complete c).circuit c = { s.circuit c with
      stale := ((s.complete c).circuit c).stale, answer := some .blockStatus
      recv := { (s.circuit c).recv with
        assembly := none, announced := none, delivered := (s.circuit c).recv.delivered ++ [d]
        expected := (s.circuit c).recv.expected + 1, lastOutcome := .complete } } ∧
    (s.complete c).descriptors = s.descriptors.set d.val { s.descriptor d with
      state := .delivered, pages := (s.descriptor d).slots.map Slot.page, slots := []
      byteLength := some ((s.descriptor d).slots.map Slot.octets).sum } ∧
    (s.complete c).loose = s.loose ∧
    Raised s (s.complete c)
      { kind := .blockArrived, circuit := some c, block := some (s.circuit c).recv.expected
        count := some ((s.descriptor d).slots.map Slot.octets).sum } := by
  unfold State.complete
  rw [ha]
  dsimp only
  simp only [State.onRecv, State.setAnswer, onCircuit_onCircuit]
  generalize hu : State.onCircuit _ c (fun r => { r with recv := { r.recv with
    assembly := none, announced := none, delivered := r.recv.delivered ++ [d] } }) = u
  have hf : EngineFrame c s u := by rw [← hu]; exact (frame_onDescriptor ..).trans (frame_onCircuit ..)
  have hc : u.circuit c = { s.circuit c with recv := { (s.circuit c).recv with
      assembly := none, announced := none, delivered := (s.circuit c).recv.delivered ++ [d] } } := by
    rw [← hu, circuit_onCircuit_self]; rfl
  generalize he : Event.mk .blockArrived _ _ _ _ _ _ _ = e
  have hec : e.circuit = some c := by rw [← he]
  obtain ⟨b, hb⟩ := raise_circuit u e c
  refine ⟨(hf.trans (frame_raise u hec)).trans (frame_onCircuit ..), ?_, ?_, ?_, ?_⟩
  · rw [circuit_onCircuit_self, hb, hc]
  · show (u.raise e).descriptors = _
    rw [raise_descriptors, ← hu]
    rfl
  · show (u.raise e).loose = _
    rw [raise_loose, ← hu]
    rfl
  · rw [show e = _ from he.symm]
    refine Raised.then (raised_of_raise (u := u) ?_ ?_ ?_) rfl rfl ?_
    · rw [← hu]; rfl
    · rw [← hu]; rfl
    · intro k
      rw [← hu]
      exact stale_onCircuit _ c _ rfl k
    · intro k
      exact stale_onCircuit _ c _ rfl k

/-! ### Assemblies (R73, R74) -/

/-- Dropping an assembly touches the record and the descriptors alone. -/
theorem dropAssembly_eq (s : State) (c : CircuitNo) :
    s.dropAssembly c = { s with
      circuits := s.circuits.set c.val { s.circuit c with recv := (s.circuit c).recv.dropped }
      descriptors := (s.dropAssembly c).descriptors } := by
  unfold State.dropAssembly
  split
  · rfl
  · rw [freeDescriptor_eq]; rfl

/-! ### The start decision (R29, R30) -/

/-- A block starts: the record and its descriptor, and nothing else (R30). -/
theorem startBlock_eq (s : State) (c : CircuitNo) (d : DescNo) (rest : List DescNo) :
    s.startBlock c d rest = { s with
      circuits := s.circuits.set c.val { s.circuit c with
        send := (s.circuit c).send.started d rest (s.descriptor d).pages.length }
      descriptors := s.descriptors.set d.val
        { s.descriptor d with state := .active, blockNumber := some (s.circuit c).send.nextNumber } } := rfl

/-- With nothing queued the sender is IDLE (R29). -/
theorem startDecision_empty {s : State} {c : CircuitNo} (h : (s.circuit c).send.queue = []) (b : Bool) :
    s.startDecision c b = s.onSend c (fun x => { x with sender := .idle }) := by
  unfold State.startDecision; rw [h]

/-- With the peer ready and a head that fits, the head starts (R29, R30). -/
theorem startDecision_ready {s : State} {c : CircuitNo} {d : DescNo} {rest : List DescNo}
    (h : (s.circuit c).send.queue = d :: rest) (hr : (s.circuit c).send.peerReady = true)
    (hm : (s.descriptor d).pages.length ≤ (s.circuit c).maxSegments.getD 0) (b : Bool) :
    s.startDecision c b = s.startBlock c d rest := by
  unfold State.startDecision
  rw [h]
  dsimp only
  rw [if_pos hr, State.startHead, if_neg (by omega)]

/-- With blocks queued and the peer not ready, the sender is HELD with PROBE pending (R29). -/
theorem startDecision_held {s : State} {c : CircuitNo} (h : (s.circuit c).send.queue ≠ [])
    (hr : (s.circuit c).send.peerReady = false) :
    s.startDecision c false =
      (s.onSend c (fun x => { x with sender := .held, pollCount := 1 })).setTransfer c (some .probe) := by
  unfold State.startDecision
  cases hq : (s.circuit c).send.queue with
  | nil => exact absurd hq h
  | cons d rest => simp [hr]

/-- After an advance the first PROBE of a HELD sender waits one probe interval (R29). -/
theorem startDecision_waiting {s : State} {c : CircuitNo} (h : (s.circuit c).send.queue ≠ [])
    (hr : (s.circuit c).send.peerReady = false) :
    s.startDecision c true =
      (s.onSend c (fun x => { x with sender := .held, pollCount := 0 })).startTimer c .probe
        s.link.config.probeInterval := by
  unfold State.startDecision
  cases hq : (s.circuit c).send.queue with
  | nil => exact absurd hq h
  | cons d rest => simp [hr]

/-- A start decision with peer-ready false changes the record alone, and raises nothing (R29, R49). -/
theorem resume_eq {s : State} {c : CircuitNo} (hr : (s.circuit c).send.peerReady = false) :
    s.resumeSend c = s.setCircuit c { s.circuit c with
      transfer := if (s.circuit c).send.queue = [] then (s.circuit c).transfer else some .probe
      send := (s.circuit c).send.resumed } := by
  unfold State.resumeSend
  by_cases hq : (s.circuit c).send.queue = []
  · rw [startDecision_empty hq, if_pos hq]
    unfold SendContext.resumed
    rw [if_pos hq]
    rfl
  · rw [startDecision_held hq hr, if_neg hq]
    unfold SendContext.resumed State.setTransfer State.onSend
    rw [if_neg hq, onCircuit_onCircuit]
    rfl

/-! ### The rewind of both sides (R48, R73) -/

/-- The rewind of both sides touches the record and the descriptors alone. -/
theorem rewindBoth_eq (s : State) (c : CircuitNo) :
    (s.rewindSend c).rewindRecv c = { s with
      circuits := s.circuits.set c.val
        { (s.circuit c).stopSendTimer with
          transfer := none, answer := none, send := (s.circuit c).send.rewound, recv := (s.circuit c).recv.rewound }
      descriptors := ((s.rewindSend c).rewindRecv c).descriptors } := by
  have h1 : s.rewindSend c = { s with
      circuits := s.circuits.set c.val ((s.rewindSend c).circuit c), descriptors := (s.rewindSend c).descriptors } := by
    rw [State.rewindSend, circuit_onCircuit_self]
    unfold State.returnActive
    split
    · rfl
    · simp [State.onCircuit, State.setCircuit, State.onSend, State.onDescriptor, State.setDescriptor, State.circuit]
  have h2 : (s.rewindSend c).rewindRecv c = { s.rewindSend c with
      circuits := (s.rewindSend c).circuits.set c.val (((s.rewindSend c).rewindRecv c).circuit c)
      descriptors := ((s.rewindSend c).rewindRecv c).descriptors } := by
    rw [State.rewindRecv, circuit_onCircuit_self, dropAssembly_eq]
    simp [State.onCircuit, State.setCircuit, State.circuit]
  rw [rewindRecv_circuit, rewindSend_circuit] at h2
  rw [h2]
  generalize ((s.rewindSend c).rewindRecv c).descriptors = ds
  rw [h1]
  simp [CircuitRecord.stopSendTimer]
  split <;> rfl

theorem returnActive_descriptor (s : State) (c : CircuitNo) (d : DescNo) :
    (s.rewindSend c).descriptor d =
      if (s.circuit c).send.active.any (fun a => decide (a.desc = d)) = true
      then { s.descriptor d with state := .queued, blockNumber := none } else s.descriptor d := by
  have h : ∀ t : State, ∀ f, (t.onCircuit c f).descriptor d = t.descriptor d := fun _ _ => rfl
  unfold State.rewindSend
  rw [h]
  unfold State.returnActive
  split
  · next ha => simp [ha]
  · next a ha =>
    have h' : ∀ t : State, ∀ f, (t.onSend c f).descriptor d = t.descriptor d := fun _ _ => rfl
    rw [h', State.onDescriptor, descriptor_setDescriptor, ha]
    by_cases q : d = a.desc
    · subst q; simp
    · rw [if_neg q, if_neg (by simpa using fun e => q e.symm)]

/-- The rewind of both sides requeues the active block and frees the assembly, and no other descriptor changes. -/
theorem rewindBoth_requeued (s : State) (c : CircuitNo) :
    Requeued (s.circuit c) s ((s.rewindSend c).rewindRecv c) := by
  have hr : ∀ d, ((s.rewindSend c).rewindRecv c).descriptor d =
      if (s.circuit c).recv.assembly = some d then freed (s.rewindSend c) d else (s.rewindSend c).descriptor d := by
    intro d
    have h : ∀ t : State, ∀ f, (t.onCircuit c f).descriptor d = t.descriptor d := fun _ _ => rfl
    unfold State.rewindRecv
    have ha : (s.circuit c).stopSendTimer.recv = (s.circuit c).recv := by
      unfold CircuitRecord.stopSendTimer; split <;> rfl
    rw [h, dropAssembly_descriptor, rewindSend_circuit]
    dsimp only
    rw [ha]
  intro d
  have hp : (s.rewindSend c).pinnedDescriptor = s.pinnedDescriptor := by
    simp [State.pinnedDescriptor, (frame_rewindSend s c).tx]
  have any_iff : (s.circuit c).send.active.any (fun a => decide (a.desc = d)) = true ↔
      ∃ a, (s.circuit c).send.active = some a ∧ a.desc = d := by
    cases (s.circuit c).send.active <;> simp
  refine ⟨fun h k => ?_, fun a ha hd k => ?_, fun h k => ?_⟩
  · rw [hr, if_neg k, returnActive_descriptor, if_neg]
    rw [any_iff]; rintro ⟨a, ha, hd⟩; exact h a ha hd
  · rw [hr, if_neg k, returnActive_descriptor, if_pos (any_iff.2 ⟨a, ha, hd⟩)]
  · rw [hr, if_pos k]
    have : (s.rewindSend c).descriptor d = s.descriptor d := by
      rw [returnActive_descriptor, if_neg]
      rw [any_iff]; rintro ⟨a, ha, hd⟩; exact h a ha hd
    unfold freed
    rw [hp, this]

/-- A circuit that enters REWINDING has both sides rewound, and nothing else of the part changes but the descriptors
(R143). -/
theorem enterRewinding_eq (s : State) (c : CircuitNo) (cause : Octet) (originator : Originator) :
    s.enterRewinding c cause originator = { s with
      circuits := s.circuits.set c.val (rewindingRecord (s.circuit c) cause originator s.link.config.rewindTimer)
      descriptors := ((s.rewindSend c).rewindRecv c).descriptors } := by
  unfold State.enterRewinding
  have h := rewindBoth_eq s c
  generalize hd : ((s.rewindSend c).rewindRecv c).descriptors = ds at h
  rw [h]
  simp only [State.startTimer, State.onCircuit, State.setCircuit, State.circuit,
    Vector.getElem_set_self, Vector.set_set]
  unfold CircuitRecord.stopSendTimer
  split <;> rfl

theorem enterRewinding_requeued (s : State) (c : CircuitNo) (cause : Octet) (originator : Originator) :
    Requeued (s.circuit c) s (s.enterRewinding c cause originator) := by
  rw [enterRewinding_eq]
  exact rewindBoth_requeued s c

/-! ### Answers (R36 to R43) -/

/-- An answer taken stops the STATUS timer and empties the transfer class (R36). -/
theorem takeAnswer_eq (s : State) (c : CircuitNo) :
    s.takeAnswer c = s.setCircuit c { s.circuit c with timer := none, transfer := none } := by
  simp [State.takeAnswer, State.stopTimer, State.setTransfer, State.onCircuit]

/-- What an answer that decides the block leaves to the start decision (R36, R37). -/
theorem advance_spec (s : State) (c : CircuitNo) (a : ActiveBlock) (ready : Bool) (e : Event)
    (he : e.circuit = some c) :
    ∃ v, ((s.takeAnswer c).raise e).advance c a ready = v.startDecision c true ∧ EngineFrame c s v ∧
      v.circuit c = { s.circuit c with
        stale := (v.circuit c).stale, timer := none, transfer := none, send := (s.circuit c).send.advanced a ready } ∧
      v.descriptors = s.descriptors.set a.desc.val (freed s a.desc) ∧ v.loose = s.loose ∧ Raised s v e := by
  refine ⟨_, rfl, ?_, ?_, ?_, ?_, ?_⟩
  · rw [takeAnswer_eq]
    exact (((frame_setCircuit ..).trans (frame_raise _ he)).trans (frame_freeDescriptor ..)).trans (frame_onSend ..)
  · obtain ⟨b, hb⟩ := raise_circuit (s.takeAnswer c) e c
    simp only [State.onSend, circuit_onCircuit_self, freeDescriptor_eq, circuit_setDescriptor]
    rw [hb, takeAnswer_eq, circuit_setCircuit_self]
    rfl
  · rw [freeDescriptor_eq]
    show ((s.takeAnswer c).raise e).descriptors.set _ (freed ((s.takeAnswer c).raise e) a.desc) = _
    rw [raise_descriptors]
    have : freed ((s.takeAnswer c).raise e) a.desc = freed s a.desc := by
      unfold freed State.pinnedDescriptor State.descriptor
      rw [raise_tx, raise_descriptors]
      rfl
    rw [this]
    rfl
  · rw [freeDescriptor_eq]
    show ((s.takeAnswer c).raise e).loose = _
    rw [raise_loose]; rfl
  · rw [freeDescriptor_eq]
    have h0 : Raised s ((s.takeAnswer c).raise e) e := by
      rw [takeAnswer_eq]
      exact raised_of_raise rfl rfl (fun k => by apply stale_setCircuit; rfl)
    generalize (s.takeAnswer c).raise e = u at h0 ⊢
    have h1 : Raised s (u.setDescriptor a.desc (freed u a.desc)) e := h0.then rfl rfl (fun _ => rfl)
    generalize (u.setDescriptor a.desc (freed u a.desc)) = w at h1 ⊢
    exact h1.onSend c _

/-- The check of a missing map, in the words of R38. -/
theorem mapGood_iff (a : ActiveBlock) (map : SegSet) (h : a.count ≤ 64) :
    a.mapGood map = true ↔ map ≠ 0 ∧ ∀ i, map.getLsbD i = true → i < a.count ∧ a.acked.getLsbD i = false := by
  have hf : ∀ i, (firstSegments a.count).getLsbD i = decide (i < a.count) := by
    intro i
    unfold firstSegments
    rw [BitVec.getLsbD_ofNat, Nat.testBit_two_pow_sub_one]
    by_cases q : i < a.count
    · simp [q]; omega
    · simp [q]
  unfold ActiveBlock.mapGood
  rw [Bool.and_eq_true, Bool.and_eq_true, bne_iff_ne, beq_iff_eq, beq_iff_eq, and_assoc]
  refine and_congr Iff.rfl ?_
  constructor
  · rintro ⟨h1, h2⟩ i hi
    have e1 := congrArg (fun x : SegSet => x.getLsbD i) h1
    have e2 := congrArg (fun x : SegSet => x.getLsbD i) h2
    have hlt : i < 64 := BitVec.lt_of_getLsbD hi
    simp only [BitVec.getLsbD_and, BitVec.getLsbD_not, hf, hi, hlt] at e1 e2
    simpa using And.intro e1 e2
  · intro hh
    constructor
    · apply BitVec.eq_of_getLsbD_eq
      intro i hi
      cases hb : map.getLsbD i with
      | false => simp [hb]
      | true => simp [hb, hf, (hh i hb).1]
    · apply BitVec.eq_of_getLsbD_eq
      intro i hi
      cases hb : map.getLsbD i with
      | false => simp [hb]
      | true => simp [hb, (hh i hb).2]

end Sys2Proof.Machine
end

