-- ==== Sys2Proof/Laws/Exchanges.lean ====
section
/-! SUPPORT. The close and rewind exchanges of one circuit: what each shared operation makes of the record, the
descriptors and the event queue, said once. -/

namespace Sys2Proof.Machine

/-- A record that enters CLOSED without CLOSING: its blocks are freed and its event is raised (R9, R132, R151). -/
theorem enterClosed_spec (s : State) (c : CircuitNo) (cause diagnostic : Octet) (originator : Originator)
    (confirmed : Bool) (owed : Option ProtocolKind) :
    let t := s.enterClosed c cause diagnostic originator confirmed owed
    let r := s.circuit c
    EngineFrame c s t ∧ Dropped r s t ∧
      t.circuit c = { closedRecord r cause diagnostic originator confirmed owed with stale := (t.circuit c).stale } ∧
      t.loose = s.loose ∧
      Raised s t (if r.state = .opening then openFailedOf c r cause originator
        else closedOf c r cause originator confirmed r.send.blocks.length) := by
  intro t r
  have ht : t = (s.toClosed c cause diagnostic originator confirmed owed).raise
      (if r.state = .opening then openFailedOf c r cause originator
        else closedOf c r cause originator confirmed r.send.blocks.length) := by
    show s.enterClosed c cause diagnostic originator confirmed owed = _
    unfold State.enterClosed
    dsimp only
    rw [toClosed_circuit]
    split
    · rfl
    · rfl
  generalize he : (if r.state = .opening then openFailedOf c r cause originator
        else closedOf c r cause originator confirmed r.send.blocks.length) = e at ht
  have hec : e.circuit = some c := by rw [← he]; split <;> rfl
  refine ⟨frame_enterClosed .., ?_, ?_, ?_, ?_⟩
  · intro d
    have : t.descriptor d = (s.toClosed c cause diagnostic originator confirmed owed).descriptor d := by
      rw [ht]; unfold State.descriptor; rw [raise_descriptors]
    rw [this, toClosed_descriptor]
    exact ⟨fun h => if_pos h, fun h => if_neg h⟩
  · obtain ⟨b, hb⟩ := raise_circuit (s.toClosed c cause diagnostic originator confirmed owed) e c
    rw [ht, hb, toClosed_circuit]
  · rw [ht, raise_loose, toClosed_eq]
  · rw [ht, toClosed_eq]
    exact raised_of_raise rfl rfl (fun k => by apply stale_setCircuit s; rfl)

/-- A CLOSING record enters CLOSED and CLOSED is raised (R10, R151). -/
theorem finishClosing_spec (s : State) (c : CircuitNo) (confirmed : Bool) (owed : Option ProtocolKind) (k : CloseRecord)
    (hk : (s.circuit c).closeRecord = some k) :
    let t := s.finishClosing c confirmed owed
    let r := s.circuit c
    EngineFrame c s t ∧ t.circuit c = { closedFromClosing r confirmed owed with stale := (t.circuit c).stale } ∧
      t.descriptors = s.descriptors ∧ t.loose = s.loose ∧
      Raised s t (closedOf c r k.cause k.originator (k.confirmed || confirmed) k.discarded) := by
  intro t r
  have ht : t = (s.setCircuit c (closedFromClosing r confirmed owed)).raise
      (closedOf c r k.cause k.originator (k.confirmed || confirmed) k.discarded) := by
    show s.finishClosing c confirmed owed = _
    unfold State.finishClosing
    dsimp only
    rw [circuit_onCircuit_self]
    unfold CircuitRecord.closedEvent
    dsimp only
    rw [hk]
    rfl
  refine ⟨frame_finishClosing .., ?_, ?_, ?_, ?_⟩
  · obtain ⟨b, hb⟩ := raise_circuit (s.setCircuit c (closedFromClosing r confirmed owed)) (closedOf c r k.cause k.originator (k.confirmed || confirmed) k.discarded) c
    rw [ht, hb, circuit_setCircuit_self]
  · rw [ht, raise_descriptors]; rfl
  · rw [ht, raise_loose]; rfl
  · rw [ht]
    exact raised_of_raise rfl rfl (fun k => by apply stale_setCircuit s; rfl)

/-- A REWINDING record that returns to OPEN: REWOUND is raised with the note's cause and originator (R147, R148). -/
theorem finishRewinding_spec (s : State) (c : CircuitNo) (owed : Option ProtocolKind) (note : RewindNote)
    (hn : (s.circuit c).note = some note) (hp : (s.circuit c).send.peerReady = false) :
    let t := s.finishRewinding c owed
    let r := s.circuit c
    EngineFrame c s t ∧ t.circuit c = { reopenedRecord r owed with stale := (t.circuit c).stale } ∧
      t.descriptors = s.descriptors ∧ t.loose = s.loose ∧
      Raised s t (rewoundOf c r note.cause note.originator r.send.queue.length) := by
  intro t r
  have ht : t = (s.setCircuit c (reopenedRecord r owed)).raise
      (rewoundOf c r note.cause note.originator r.send.queue.length) := by
    show s.finishRewinding c owed = _
    unfold State.finishRewinding
    dsimp only
    rw [resume_eq (by rw [circuit_onCircuit_self]; exact hp)]
    simp only [circuit_setCircuit_self, State.onCircuit, setCircuit_setCircuit]
    have e : ∀ x : SendContext, x.resumed.queue = x.queue := by
      intro x; unfold SendContext.resumed; split <;> rfl
    unfold CircuitRecord.rewoundEvent
    dsimp only
    rw [hn, e]
    rfl
  generalize he : rewoundOf c r note.cause note.originator r.send.queue.length = e at ht
  refine ⟨frame_finishRewinding .., ?_, ?_, ?_, ?_⟩
  · obtain ⟨b, hb⟩ := raise_circuit (s.setCircuit c (reopenedRecord r owed)) e c
    rw [ht, hb, circuit_setCircuit_self]
  · rw [ht, raise_descriptors]; rfl
  · rw [ht, raise_loose]; rfl
  · rw [ht]
    exact raised_of_raise rfl rfl (fun k => by apply stale_setCircuit s; rfl)

/-- An OPEN record rewound by a REWIND frame: REWOUND is raised with the frame's cause (R146). -/
theorem rewindInOpen_spec (s : State) (c : CircuitNo) (cause : Octet) :
    let t := s.rewindInOpen c cause
    let r := s.circuit c
    EngineFrame c s t ∧ t.circuit c = { rewoundRecord r with stale := (t.circuit c).stale } ∧ Requeued r s t ∧
      t.loose = s.loose ∧ Raised s t (rewoundOf c r cause .peer r.send.blocks.length) := by
  intro t r
  have ht : ∃ u, t = u.raise (rewoundOf c r cause .peer r.send.blocks.length) ∧ u = { s with
      circuits := s.circuits.set c.val (rewoundRecord r)
      descriptors := ((s.rewindSend c).rewindRecv c).descriptors } := by
    refine ⟨_, ?_, rfl⟩
    show s.rewindInOpen c cause = _
    unfold State.rewindInOpen
    have e := rewindBoth_eq s c
    generalize ((s.rewindSend c).rewindRecv c).descriptors = ds at e ⊢
    rw [e]
    dsimp only
    unfold State.setProtocol
    rw [resume_eq (by rw [circuit_onCircuit_self]; simp [State.circuit, SendContext.rewound])]
    simp only [circuit_setCircuit_self, State.onCircuit, setCircuit_setCircuit]
    have e : ∀ x : SendContext, x.resumed.queue = x.queue := by
      intro x; unfold SendContext.resumed; split <;> rfl
    have eq : ∀ q : CircuitRecord, State.circuit { s with circuits := s.circuits.set c.val q, descriptors := ds } c = q := by
      intro q; simp [State.circuit]
    have hserv : r.stopSendTimer.service = r.service := by
      unfold CircuitRecord.stopSendTimer; split <;> rfl
    unfold CircuitRecord.rewoundEvent
    dsimp only
    rw [e]
    simp only [State.setCircuit, eq, Vector.set_set]
    rw [rewoundRecord_eq]
    exact congrArg (State.raise _) (congrArg (fun x => Event.mk .rewound (some c) (some cause) (some .peer) (some x)
      none (some r.send.blocks.length) none) hserv)
  obtain ⟨u, ht, hu⟩ := ht
  have hst : (rewoundRecord r).stale = r.stale := by
    rfl
  generalize he : rewoundOf c r cause .peer r.send.blocks.length = e at ht
  refine ⟨frame_rewindInOpen .., ?_, ?_, ?_, ?_⟩
  · obtain ⟨b, hb⟩ := raise_circuit u e c
    rw [ht, hb, hu]
    simp [State.circuit]
  · have hd : ∀ d, t.descriptor d = ((s.rewindSend c).rewindRecv c).descriptor d := by
      intro d
      rw [ht]
      unfold State.descriptor
      rw [raise_descriptors, hu]
    have := rewindBoth_requeued s c
    unfold Requeued at this ⊢
    simpa only [hd] using this
  · rw [ht, raise_loose, hu]
  · rw [ht, hu]
    exact raised_of_raise rfl rfl (fun k => by
      have := stale_setCircuit s c (rewoundRecord r) hst k
      exact this)

end Sys2Proof.Machine
end

