-- ==== Sys2Proof/Laws/Memory.lean ====
section
/-! SUPPORT. Page memory: what a read gives after a write, and that every operation keeps the canonical form. -/

namespace Sys2Proof.Machine

theorem Memory.wfFrom_weaken {m : Memory} {a b : Nat} (h : b ≤ a) (hm : Memory.wfFrom (some a) m = true) :
    Memory.wfFrom (some b) m = true := by
  cases m with
  | nil => rfl
  | cons x m =>
    obtain ⟨k, w⟩ := x
    simp only [Memory.wfFrom, Bool.and_eq_true, decide_eq_true_eq] at hm ⊢
    exact ⟨⟨⟨by omega, hm.1.1.2⟩, hm.1.2⟩, hm.2⟩

theorem Memory.wf_of_wfFrom {m : Memory} {low : Option Nat} (hm : Memory.wfFrom low m = true) :
    Memory.wf m = true := by
  cases m with
  | nil => rfl
  | cons x m =>
    obtain ⟨k, w⟩ := x
    simp only [Memory.wf, Memory.wfFrom, Bool.and_eq_true, decide_eq_true_eq] at hm ⊢
    exact ⟨⟨⟨trivial, hm.1.1.2⟩, hm.1.2⟩, hm.2⟩

/-- An address at or below the lower end of the entries is unlisted. -/
theorem Memory.read_below {m : Memory} {a b : Nat} (hm : Memory.wfFrom (some b) m = true) (h : a ≤ b) :
    Memory.read m a = Memory.unlisted := by
  induction m generalizing b with
  | nil => rfl
  | cons x m ih =>
    obtain ⟨k, w⟩ := x
    simp only [Memory.wfFrom, Bool.and_eq_true, decide_eq_true_eq] at hm
    have hk := hm.1.1.1
    rw [Memory.read, if_neg (by omega)]
    exact ih hm.2 (by omega)

theorem Memory.read_write_from {m : Memory} {low : Option Nat} (hm : Memory.wfFrom low m = true) (a b : Nat)
    (v : Octet) : Memory.read (Memory.write m a v) b = if b = a then v else Memory.read m b := by
  induction m generalizing low with
  | nil =>
    by_cases hv : v = Memory.unlisted
    · simp [Memory.write, Memory.read, hv]
    · simp only [Memory.write, if_neg hv, Memory.read]
      by_cases h : b = a
      · simp [h]
      · rw [if_neg (fun e => h e.symm), if_neg h]
  | cons x m ih =>
    obtain ⟨k, w⟩ := x
    simp only [Memory.wfFrom, Bool.and_eq_true] at hm
    have hrest := hm.2
    unfold Memory.write
    split
    · next hak =>
      split
      · next hv =>
        by_cases h : b = a
        · subst h
          rw [if_pos rfl, Memory.read, if_neg (by omega), hv]
          exact Memory.read_below hrest (by omega)
        · rw [if_neg h]
      · by_cases h : b = a
        · subst h; simp [Memory.read]
        · rw [Memory.read, if_neg (fun e => h e.symm), if_neg h]
    · split
      · next hak =>
        subst hak
        split
        · next hv =>
          by_cases h : b = a
          · subst h; rw [if_pos rfl, hv]; exact Memory.read_below hrest (Nat.le_refl _)
          · rw [if_neg h]
            conv => rhs; rw [Memory.read, if_neg (fun e => h e.symm)]
        · by_cases h : b = a
          · subst h; simp [Memory.read]
          · rw [Memory.read, if_neg (fun e => h e.symm), if_neg h]
            conv => rhs; rw [Memory.read, if_neg (fun e => h e.symm)]
      · next hle hne =>
        rw [Memory.read, Memory.read, ih hrest]
        by_cases h : k = b
        · rw [if_pos h, if_pos h, if_neg (by omega)]
        · rw [if_neg h, if_neg h]

/-- What a read gives after a write. -/
theorem Memory.read_write {m : Memory} (hm : m.wf = true) (a b : Nat) (v : Octet) :
    Memory.read (Memory.write m a v) b = if b = a then v else Memory.read m b := Memory.read_write_from hm a b v

theorem Memory.wfFrom_write {m : Memory} {low : Option Nat} (hm : Memory.wfFrom low m = true) {a : Nat} (v : Octet)
    (ha : a < Memory.size) (hlow : ∀ b, low = some b → b < a) : Memory.wfFrom low (Memory.write m a v) = true := by
  have here : ∀ rest : Memory, v ≠ Memory.unlisted → Memory.wfFrom (some a) rest = true →
      Memory.wfFrom low ((a, v) :: rest) = true := by
    intro rest hv hr
    simp only [Memory.wfFrom, Bool.and_eq_true, decide_eq_true_eq]
    refine ⟨⟨⟨?_, ha⟩, by simpa using hv⟩, hr⟩
    cases low with
    | none => rfl
    | some b => simpa using hlow b rfl
  induction m generalizing low with
  | nil =>
    unfold Memory.write
    split
    · rfl
    · next hv => exact here [] hv rfl
  | cons x m ih =>
    obtain ⟨k, w⟩ := x
    have hm' := hm
    simp only [Memory.wfFrom, Bool.and_eq_true, decide_eq_true_eq] at hm
    unfold Memory.write
    split
    · next hak =>
      split
      · exact hm'
      · next hv =>
        apply here _ hv
        simp only [Memory.wfFrom, Bool.and_eq_true, decide_eq_true_eq]
        exact ⟨⟨⟨hak, hm.1.1.2⟩, hm.1.2⟩, hm.2⟩
    · split
      · next hak =>
        subst hak
        split
        · cases low with
          | none => exact Memory.wf_of_wfFrom hm.2
          | some b =>
            have := hlow b rfl
            exact Memory.wfFrom_weaken (by omega) hm.2
        · next hv => exact here _ hv hm.2
      · next hle hne =>
        simp only [Memory.wfFrom, Bool.and_eq_true, decide_eq_true_eq]
        refine ⟨hm.1, ih hm.2 ?_ ?_⟩
        · intro b hb; cases hb; omega
        · intro rest hv hr
          simp only [Memory.wfFrom, Bool.and_eq_true, decide_eq_true_eq]
          exact ⟨⟨⟨by omega, ha⟩, by simpa using hv⟩, hr⟩

/-- A write inside the window keeps the canonical form. -/
theorem Memory.wf_write {m : Memory} (hm : m.wf = true) {a : Nat} (v : Octet) (ha : a < Memory.size) :
    (Memory.write m a v).wf = true := Memory.wfFrom_write hm v ha (by simp)

/-- A run of writes inside the window keeps the canonical form. -/
theorem Memory.wf_writeAll {m : Memory} (hm : m.wf = true) (a : Nat) (vs : List Octet)
    (ha : a + vs.length ≤ Memory.size) : (Memory.writeAll m a vs).wf = true := by
  induction vs generalizing m a with
  | nil => exact hm
  | cons v vs ih =>
    have : (v :: vs).length = vs.length + 1 := rfl
    exact ih (Memory.wf_write hm v (by omega)) (a + 1) (by omega)

/-- What a read gives after a run of writes: the octet written there, or what it gave before. -/
theorem Memory.read_writeAll {m : Memory} (hm : m.wf = true) (a : Nat) (vs : List Octet)
    (ha : a + vs.length ≤ Memory.size) (b : Nat) :
    Memory.read (Memory.writeAll m a vs) b =
      if a ≤ b ∧ b < a + vs.length then vs.getD (b - a) 0 else Memory.read m b := by
  induction vs generalizing m a with
  | nil => rw [if_neg (by simp only [List.length_nil]; omega), Memory.writeAll]
  | cons v vs ih =>
    have hl : (v :: vs).length = vs.length + 1 := rfl
    rw [Memory.writeAll, ih (Memory.wf_write hm v (by omega)) (a + 1) (by omega), Memory.read_write hm]
    by_cases h : b = a
    · subst h
      rw [if_neg (by omega), if_pos rfl, if_pos (by omega)]
      simp
    · by_cases h2 : a ≤ b ∧ b < a + (v :: vs).length
      · rw [if_pos (by omega), if_pos h2]
        obtain ⟨k, hk⟩ : ∃ k, b - a = k + 1 := ⟨b - a - 1, by omega⟩
        rw [hk, show b - (a + 1) = k by omega]
        simp
      · rw [if_neg (by omega), if_neg h2, if_neg h]

/-- Two memories in canonical form that read alike are equal data. -/
theorem Memory.ext_from {m n : Memory} {low : Option Nat} (hm : Memory.wfFrom low m = true)
    (hn : Memory.wfFrom low n = true) (h : ∀ a, Memory.read m a = Memory.read n a) : m = n := by
  induction m generalizing n low with
  | nil =>
    cases n with
    | nil => rfl
    | cons y n =>
      obtain ⟨k, w⟩ := y
      simp only [Memory.wfFrom, Bool.and_eq_true] at hn
      have := h k
      simp only [Memory.read, if_pos] at this
      simp [← this] at hn
  | cons x m ih =>
    obtain ⟨j, u⟩ := x
    simp only [Memory.wfFrom, Bool.and_eq_true, decide_eq_true_eq] at hm
    have hu : u ≠ Memory.unlisted := by simpa using hm.1.2
    cases n with
    | nil => exact absurd (by simpa [Memory.read] using h j) hu
    | cons y n =>
      obtain ⟨k, w⟩ := y
      simp only [Memory.wfFrom, Bool.and_eq_true, decide_eq_true_eq] at hn
      have hw : w ≠ Memory.unlisted := by simpa using hn.1.2
      have hjk : j = k := by
        rcases Nat.lt_trichotomy j k with hlt | heq | hgt
        · have e := h j
          rw [Memory.read, if_pos rfl, Memory.read, if_neg (by omega), Memory.read_below hn.2 (by omega)] at e
          exact absurd e hu
        · exact heq
        · have e := h k
          rw [Memory.read, if_neg (by omega), Memory.read_below hm.2 (by omega), Memory.read, if_pos rfl] at e
          exact absurd e.symm hw
      subst hjk
      have huw : u = w := by simpa [Memory.read] using h j
      subst huw
      congr 1
      refine ih hm.2 hn.2 (fun a => ?_)
      have e := h a
      by_cases hja : j = a
      · subst hja
        rw [Memory.read_below hm.2 (Nat.le_refl _), Memory.read_below hn.2 (Nat.le_refl _)]
      · rwa [Memory.read, if_neg hja, Memory.read, if_neg hja] at e

end Sys2Proof.Machine
end

