-- ==== Sys2Proof/Laws/PerInstr.lean ====
section
/-! SUPPORT. The family CommandCodes, a statement about every row as syntax: a host command's code lies in the table of
R213 and the command is no frame, and an arrival row is well formed exactly when its frame is a good one (R182). -/

namespace Sys2Proof.Laws.CommandCodes

open Sys2Proof.Machine

/-- A row with a command code has one from 0001h to 0018h and carries no frame; a row with a frame is well formed
exactly when the frame is. -/
def Statement (i : Instr) : Prop :=
  (∀ w, commandCode i = some w → 1 ≤ w.toNat ∧ w.toNat ≤ 0x18 ∧ i.frame = none) ∧
    ∀ f, i.frame = some f → i.wellFormed = f.wellFormed

/-- The statement of a host command. -/
theorem of_code {i : Instr} {w : Word} (hc : commandCode i = some w) (hw : 1 ≤ w.toNat ∧ w.toNat ≤ 0x18)
    (hf : i.frame = none) : Statement i := by
  refine ⟨fun v hv => ?_, fun f h => ?_⟩
  · rw [hc] at hv
    cases hv
    exact ⟨hw.1, hw.2, hf⟩
  · rw [hf] at h
    cases h

/-- The statement of an arrival row. -/
theorem of_frame {i : Instr} {f : Frame} (hc : commandCode i = none) (hf : i.frame = some f)
    (hw : i.wellFormed = f.wellFormed) : Statement i := by
  refine ⟨fun v hv => ?_, fun g h => ?_⟩
  · rw [hc] at hv
    cases hv
  · rw [hf] at h
    cases h
    exact hw

/-- The statement of a row that is neither. -/
theorem of_neither {i : Instr} (hc : commandCode i = none) (hf : i.frame = none) : Statement i := by
  refine ⟨fun v hv => ?_, fun g h => ?_⟩
  · rw [hc] at hv
    cases hv
  · rw [hf] at h
    cases h

theorem setLink : Statement .setLink := of_code rfl (by decide) rfl
theorem readLink : Statement .readLink := of_code rfl (by decide) rfl
theorem startLink : Statement .startLink := of_code rfl (by decide) rfl
theorem stopLink : Statement .stopLink := of_code rfl (by decide) rfl
theorem listen : Statement .listen := of_code rfl (by decide) rfl
theorem unlisten : Statement .unlisten := of_code rfl (by decide) rfl
theorem readListen : Statement .readListen := of_code rfl (by decide) rfl
theorem openCommand : Statement .openCommand := of_code rfl (by decide) rfl
theorem answer : Statement .answer := of_code rfl (by decide) rfl
theorem closeCommand : Statement .closeCommand := of_code rfl (by decide) rfl
theorem rewindCommand : Statement .rewindCommand := of_code rfl (by decide) rfl
theorem retire : Statement .retire := of_code rfl (by decide) rfl
theorem fix : Statement .fix := of_code rfl (by decide) rfl
theorem unfix : Statement .unfix := of_code rfl (by decide) rfl
theorem readCircuit : Statement .readCircuit := of_code rfl (by decide) rfl
theorem setCircuit : Statement .setCircuit := of_code rfl (by decide) rfl
theorem alloc : Statement .alloc := of_code rfl (by decide) rfl
theorem freeCommand : Statement .freeCommand := of_code rfl (by decide) rfl
theorem submit : Statement .submit := of_code rfl (by decide) rfl
theorem take : Statement .take := of_code rfl (by decide) rfl
theorem readDescriptor : Statement .readDescriptor := of_code rfl (by decide) rfl
theorem readPool : Statement .readPool := of_code rfl (by decide) rfl
theorem initialise : Statement .initialise := of_code rfl (by decide) rfl
theorem readLabel : Statement .readLabel := of_code rfl (by decide) rfl
theorem unknownCommand : Statement .unknownCommand := of_neither rfl rfl
theorem registerWrite (address : WordAddress) (value : Word) :
    Statement (.registerWrite address value) := of_neither rfl rfl
theorem portControlWrite (value : Word) : Statement (.portControlWrite value) := of_neither rfl rfl
theorem eventPop : Statement .eventPop := of_neither rfl rfl
theorem packetMemoryRead (address : WordAddress) : Statement (.packetMemoryRead address) := of_neither rfl rfl
theorem packetMemoryWrite (address : WordAddress) (value : Word) :
    Statement (.packetMemoryWrite address value) := of_neither rfl rfl
theorem hardwareReset : Statement .hardwareReset := of_neither rfl rfl
theorem startUpEnd : Statement .startUpEnd := of_neither rfl rfl
theorem lineReadyFall : Statement .lineReadyFall := of_neither rfl rfl
theorem lineReadyRise : Statement .lineReadyRise := of_neither rfl rfl
theorem candidateDiscard (octets : List Octet) : Statement (.candidateDiscard octets) := of_neither rfl rfl
theorem linkStartArrival (version maxSegments : Octet) (identity startNumber : Word) :
    Statement (.linkStartArrival version maxSegments identity startNumber) := of_frame rfl rfl rfl
theorem linkAgreeArrival (maxSegments : Octet) (identity startNumber : Word) :
    Statement (.linkAgreeArrival maxSegments identity startNumber) := of_frame rfl rfl rfl
theorem linkStopArrival (cause : Octet) : Statement (.linkStopArrival cause) := of_frame rfl rfl rfl
theorem openFrameArrival (dst src : Label) (requested : Octet) (service : Word) (data : List Octet) :
    Statement (.openFrameArrival dst src requested service data) := of_frame rfl rfl rfl
theorem acceptArrival (dst src : Label) (agreed : Octet) :
    Statement (.acceptArrival dst src agreed) := of_frame rfl rfl rfl
theorem refuseArrival (dst src : Label) (cause diagnostic : Octet) :
    Statement (.refuseArrival dst src cause diagnostic) := of_frame rfl rfl rfl
theorem closeFrameArrival (dst src : Label) (cause diagnostic : Octet) :
    Statement (.closeFrameArrival dst src cause diagnostic) := of_frame rfl rfl rfl
theorem closeDoneArrival (dst src : Label) : Statement (.closeDoneArrival dst src) := of_frame rfl rfl rfl
theorem rewindFrameArrival (dst : Label) (cause : Octet) :
    Statement (.rewindFrameArrival dst cause) := of_frame rfl rfl rfl
theorem rewindDoneArrival (dst : Label) : Statement (.rewindDoneArrival dst) := of_frame rfl rfl rfl
theorem segArrival (dst : Label) (number : BlockNumber) (index : Octet) (payload : List Octet) :
    Statement (.segArrival dst number index payload) := of_frame rfl rfl rfl
theorem blockEndArrival (dst : Label) (number : BlockNumber) (count : Octet) :
    Statement (.blockEndArrival dst number count) := of_frame rfl rfl rfl
theorem blockAbandonArrival (dst : Label) (number : BlockNumber) :
    Statement (.blockAbandonArrival dst number) := of_frame rfl rfl rfl
theorem blockStatusArrival (dst : Label) (number : BlockNumber) (outcome : StatusOutcome) (ready : Bool) :
    Statement (.blockStatusArrival dst number outcome ready) := of_frame rfl rfl rfl
theorem probeArrival (dst : Label) : Statement (.probeArrival dst) := of_frame rfl rfl rfl
theorem readyArrival (dst : Label) (ready : Bool) : Statement (.readyArrival dst ready) := of_frame rfl rfl rfl
theorem openTimerExpiry (circuit : CircuitNo) : Statement (.openTimerExpiry circuit) := of_neither rfl rfl
theorem offerTimerExpiry (circuit : CircuitNo) : Statement (.offerTimerExpiry circuit) := of_neither rfl rfl
theorem statusTimerExpiry (circuit : CircuitNo) : Statement (.statusTimerExpiry circuit) := of_neither rfl rfl
theorem probeTimerExpiry (circuit : CircuitNo) : Statement (.probeTimerExpiry circuit) := of_neither rfl rfl
theorem closeTimerExpiry (circuit : CircuitNo) : Statement (.closeTimerExpiry circuit) := of_neither rfl rfl
theorem rewindTimerExpiry (circuit : CircuitNo) : Statement (.rewindTimerExpiry circuit) := of_neither rfl rfl
theorem startTimerExpiry : Statement .startTimerExpiry := of_neither rfl rfl
theorem stopTimerExpiry : Statement .stopTimerExpiry := of_neither rfl rfl
theorem restTimeExpiry (label : Label) : Statement (.restTimeExpiry label) := of_neither rfl rfl
theorem transmissionStart : Statement .transmissionStart := of_neither rfl rfl
theorem transmissionEnd : Statement .transmissionEnd := of_neither rfl rfl
theorem huntDelimiterReceived : Statement .huntDelimiterReceived := of_neither rfl rfl

end Sys2Proof.Laws.CommandCodes
end

