-- ==== Sys2Proof/Laws/Starts.lean ====
section
/-! SUPPORT. A start with the peer ready (R29, R30): which blocks fail as too large, which one starts, and what the
events are; and a record ended where its peer label is used again (R107). -/

namespace Sys2Proof.Machine

/-! ### The blocks a start fails -/

@[simp] theorem failing_nil (s : State) (limit : Nat) : s.failing limit [] = [] := rfl

@[simp] theorem fitting_nil (s : State) (limit : Nat) : s.fitting limit [] = [] := rfl

theorem failing_cons_large {s : State} {limit : Nat} {d : DescNo} (h : limit < (s.descriptor d).pages.length)
    (l : List DescNo) : s.failing limit (d :: l) = d :: s.failing limit l := by
  unfold State.failing
  rw [List.takeWhile_cons_of_pos (by simpa using h)]

theorem fitting_cons_large {s : State} {limit : Nat} {d : DescNo} (h : limit < (s.descriptor d).pages.length)
    (l : List DescNo) : s.fitting limit (d :: l) = s.fitting limit l := by
  unfold State.fitting
  rw [List.dropWhile_cons_of_pos (by simpa using h)]

theorem failing_cons_fits {s : State} {limit : Nat} {d : DescNo} (h : ¬ limit < (s.descriptor d).pages.length)
    (l : List DescNo) : s.failing limit (d :: l) = [] := by
  unfold State.failing
  rw [List.takeWhile_cons_of_neg (by simpa using h)]

theorem fitting_cons_fits {s : State} {limit : Nat} {d : DescNo} (h : ¬ limit < (s.descriptor d).pages.length)
    (l : List DescNo) : s.fitting limit (d :: l) = d :: l := by
  unfold State.fitting
  rw [List.dropWhile_cons_of_neg (by simpa using h)]

/-- The blocks that fail depend on the queued descriptors alone. -/
theorem failing_fitting_congr {s t : State} (limit : Nat) (l : List DescNo)
    (h : ∀ d ∈ l, t.descriptor d = s.descriptor d) :
    t.failing limit l = s.failing limit l ∧ t.fitting limit l = s.fitting limit l := by
  induction l with
  | nil => exact ⟨rfl, rfl⟩
  | cons d l ih =>
    have hd := h d List.mem_cons_self
    obtain ⟨h1, h2⟩ := ih (fun e he => h e (List.mem_cons_of_mem _ he))
    by_cases q : limit < (s.descriptor d).pages.length
    · have q' : limit < (t.descriptor d).pages.length := by rw [hd]; exact q
      rw [failing_cons_large q, failing_cons_large q', fitting_cons_large q, fitting_cons_large q', h1, h2]
      exact ⟨rfl, rfl⟩
    · have q' : ¬ limit < (t.descriptor d).pages.length := by rw [hd]; exact q
      rw [failing_cons_fits q, failing_cons_fits q', fitting_cons_fits q, fitting_cons_fits q']
      exact ⟨rfl, rfl⟩

theorem failing_subset (s : State) (limit : Nat) (l : List DescNo) : ∀ d ∈ s.failing limit l, d ∈ l :=
  fun _ hd => (List.takeWhile_sublist _).subset hd

theorem fitting_subset (s : State) (limit : Nat) (l : List DescNo) : ∀ d ∈ s.fitting limit l, d ∈ l :=
  fun _ hd => (List.dropWhile_sublist _).subset hd

/-- A block that fails as too large: freed, with its event raised (R30, R47). -/
theorem failTooLarge_eq (s : State) (c : CircuitNo) (d : DescNo) :
    s.failTooLarge c d = (s.raise (tooLargeOf c (s.descriptor d))).setDescriptor d (freed s d) := by
  unfold State.failTooLarge
  rw [freeDescriptor_eq]
  have : freed (s.raise (tooLargeOf c (s.descriptor d))) d = freed s d := by
    unfold freed State.pinnedDescriptor State.descriptor
    rw [raise_tx, raise_descriptors]
  exact congrArg _ this

/-- The start of the head of a queue that holds no block twice (R29, R30): every block before the first that fits fails
and is freed, and that one starts, or the sender is IDLE. -/
theorem startHead_spec (l : List DescNo) (s : State) (c : CircuitNo) (limit : Nat)
    (hm : (s.circuit c).maxSegments.getD 0 = limit) (hl : l.Nodup) :
    let t := s.startHead c l
    t.circuit c = { s.circuit c with
      stale := (t.circuit c).stale
      send :=
        match s.fitting limit l with
        | [] => { (s.circuit c).send with sender := .idle, queue := [] }
        | d :: rest => (s.circuit c).send.started d rest (s.descriptor d).pages.length } ∧
    (∀ e, t.descriptor e =
      if e ∈ s.failing limit l then freed s e
      else if (s.fitting limit l).head? = some e then
        { s.descriptor e with state := .active, blockNumber := some (s.circuit c).send.nextNumber }
      else s.descriptor e) ∧
    (s.events.length + (s.failing limit l).length ≤ 127 →
      t.events = s.events ++ (s.failing limit l).map (fun d => tooLargeOf c (s.descriptor d)) ∧
        t.linkStale = s.linkStale ∧ ∀ d, (t.circuit d).stale = (s.circuit d).stale) ∧
    t.loose = s.loose := by
  induction l generalizing s with
  | nil =>
    refine ⟨?_, fun e => ?_, fun _ => ⟨?_, rfl, fun d => ?_⟩, rfl⟩
    · simp [State.startHead, State.onSend]
    · simp [State.startHead, State.onSend, State.onCircuit, State.descriptor]
    · simp [State.startHead, State.onSend, State.onCircuit]
    · exact stale_onCircuit s c _ rfl d
  | cons d l ih =>
    have hd : d ∉ l := (List.nodup_cons.mp hl).1
    by_cases q : limit < (s.descriptor d).pages.length
    · intro t
      have ht : t = (s.failTooLarge c d).startHead c l := by
        show s.startHead c (d :: l) = _
        rw [State.startHead, hm, if_pos q]
      obtain ⟨b, hb⟩ := raise_circuit s (tooLargeOf c (s.descriptor d)) c
      have hc : (s.failTooLarge c d).circuit c = { s.circuit c with stale := b } := by
        rw [failTooLarge_eq, circuit_setDescriptor, hb]
      have hx : ∀ e, e ≠ d → (s.failTooLarge c d).descriptor e = s.descriptor e := by
        intro e he
        rw [failTooLarge_eq, descriptor_setDescriptor_ne _ _ he]
        unfold State.descriptor
        rw [raise_descriptors]
      have hp : ∀ e, e ≠ d → freed (s.failTooLarge c d) e = freed s e := by
        intro e he
        unfold freed State.pinnedDescriptor
        rw [hx e he, (frame_failTooLarge s c d).tx]
      obtain ⟨hf, hg⟩ := failing_fitting_congr (s := s) (t := s.failTooLarge c d) limit l
        (fun e he => hx e (fun h => hd (h ▸ he)))
      have hm' : ((s.failTooLarge c d).circuit c).maxSegments.getD 0 = limit := by rw [hc]; exact hm
      obtain ⟨h1, h2, h3, h4⟩ := ih (s.failTooLarge c d) hm' (List.nodup_cons.mp hl).2
      simp only [hf, hg] at h1 h2 h3
      rw [failing_cons_large q, fitting_cons_large q, ht]
      refine ⟨?_, fun e => ?_, fun hr => ?_, ?_⟩
      · rw [h1, hc]
        dsimp only
        cases hk : s.fitting limit l with
        | nil => rfl
        | cons e rest =>
          have he : e ≠ d := fun h => hd (h ▸ fitting_subset s limit l e (by rw [hk]; exact List.mem_cons_self))
          simp only [hx e he]
      · rw [h2 e]
        by_cases he : e = d
        · subst he
          rw [if_neg (fun h => hd (failing_subset s limit l e h)), if_pos List.mem_cons_self, if_neg, failTooLarge_eq,
            descriptor_setDescriptor_self]
          intro h
          exact hd (fitting_subset s limit l e (List.mem_of_mem_head? h))
        · rw [hp e he, hx e he, hc]
          simp only [List.mem_cons, he, false_or]
      · have hn : s.events.length < 127 := by simp only [List.length_cons] at hr; omega
        have hev : (s.failTooLarge c d).events = s.events ++ [tooLargeOf c (s.descriptor d)] := by
          rw [failTooLarge_eq, raise_of_room _ _ hn]; rfl
        obtain ⟨k1, k2, k3⟩ := h3 (by rw [hev]; simp only [List.length_cons, List.length_append, List.length_nil] at *; omega)
        refine ⟨?_, ?_, fun k => ?_⟩
        · rw [k1, hev, List.map_cons, List.append_assoc, List.singleton_append]
          refine congrArg _ (congrArg _ (List.map_congr_left fun e he => ?_))
          rw [hx e (fun h => hd (h ▸ failing_subset s limit l e he))]
        · rw [k2, failTooLarge_eq, raise_of_room _ _ hn]; rfl
        · rw [k3 k, failTooLarge_eq, raise_of_room _ _ hn]; rfl
      · rw [h4, failTooLarge_eq, setDescriptor_loose, raise_loose]
    · have ht : s.startHead c (d :: l) = s.startBlock c d l := by rw [State.startHead, hm, if_neg q]
      dsimp only
      rw [failing_cons_fits q, fitting_cons_fits q, ht, startBlock_eq]
      refine ⟨?_, fun e => ?_, fun _ => ⟨by simp, rfl, fun k => ?_⟩, rfl⟩
      · simp [State.circuit]
      · by_cases he : e = d
        · subst he; simp [State.descriptor]
        · have h0 : ¬ d.val = e.val := fun h => he (Fin.ext h.symm)
          have h1 : ¬ d = e := fun h => he h.symm
          simp [State.descriptor, h0, h1]
      · by_cases hk : k = c
        · subst hk; simp [State.circuit]
        · have h0 : ¬ c.val = k.val := fun h => hk (Fin.ext h.symm)
          simp [State.circuit, h0]

/-- The start decision with the peer ready, on the record q of circuit c with the events `first` raised just before
(R29, R30). -/
theorem headStarted {s v : State} {c : CircuitNo} {limit : Nat} {q : CircuitRecord} {first : List Event} (b : Bool)
    (hc : ∃ stale, v.circuit c = { q with stale }) (hd : v.descriptors = s.descriptors)
    (ht : v.tx = s.tx) (hl : v.loose = s.loose)
    (he : s.events.length + first.length ≤ 127 → v.events = s.events ++ first ∧ v.linkStale = s.linkStale ∧
      ∀ d, (v.circuit d).stale = (s.circuit d).stale)
    (hm : q.maxSegments.getD 0 = limit) (hr : q.send.peerReady = true) (hq : q.send.queue.Nodup) :
    HeadStarted c limit q first s (v.startDecision c b) := by
  obtain ⟨stale, hc⟩ := hc
  have hx : ∀ d, v.descriptor d = s.descriptor d := fun d => by unfold State.descriptor; rw [hd]
  have hf : ∀ d, freed v d = freed s d := fun d => by unfold freed State.pinnedDescriptor; rw [hx, ht]
  have hs : (v.circuit c).send = q.send := by rw [hc]
  have hm' : (v.circuit c).maxSegments.getD 0 = limit := by rw [hc]; exact hm
  obtain ⟨hg, hk⟩ := failing_fitting_congr (s := s) (t := v) limit q.send.queue (fun d _ => hx d)
  obtain ⟨h1, h2, h3, h4⟩ := startHead_spec q.send.queue v c limit hm' hq
  simp only [hg, hk, hx, hf, hs] at h1 h2 h3
  have hstart : v.startDecision c b = v.startHead c q.send.queue := by
    unfold State.startDecision
    rw [hs]
    cases hqq : q.send.queue with
    | nil =>
      dsimp only
      rw [State.startHead]
      unfold State.onSend State.onCircuit
      rw [hc, ← hqq]
    | cons d rest =>
      dsimp only
      rw [if_pos hr]
  rw [hstart]
  refine ⟨?_, fun e => h2 e, fun hroom => ?_, h4.trans hl⟩
  · refine h1.trans ?_
    generalize ((v.startHead c q.send.queue).circuit c).stale = x
    rewrite [hc]
    cases s.fitting limit q.send.queue <;> rfl
  · obtain ⟨e1, e2, e3⟩ := he (by omega)
    obtain ⟨k1, k2, k3⟩ := h3 (by rw [e1, List.length_append]; omega)
    exact ⟨by rw [k1, e1], k2.trans e2, fun d => (k3 d).trans (e3 d)⟩

/-! ### Reused peer labels (R107) -/

/-- A dialled record in OFFERED, OPEN, REWINDING or CLOSING that is ended with cause STALE (R107). -/
theorem endCircuit_spec (s : State) (c : CircuitNo) (hk : (s.circuit c).kind = some .dialled)
    (hs : (s.circuit c).state.holdsPeerLabel = true) (hr : (s.circuit c).state = .closing → (s.circuit c).closeRecord ≠ none) :
    EndedStale c s (s.endCircuit c Cause.stale) := by
  have hdrop : ∀ d, s.leftUpDescriptor (s.circuit c) d =
      if (s.circuit c).state = .closing then s.descriptor d
      else if d ∈ (s.circuit c).send.blocks ∨ (s.circuit c).recv.assembly = some d then freed s d
      else s.descriptor d := by
    intro d
    unfold State.leftUpDescriptor
    cases hq : (s.circuit c).state <;> simp_all [CircuitState.holdsPeerLabel]
  by_cases hq : (s.circuit c).state = .closing
  · obtain ⟨k, hkr⟩ := Option.ne_none_iff_exists'.mp (hr hq)
    have he : s.endCircuit c Cause.stale = s.finishClosing c false none := by
      unfold State.endCircuit; rw [if_pos hq]
    obtain ⟨h1, h2, h3, h4, h5⟩ := finishClosing_spec s c false none k hkr
    rw [he]
    refine ⟨h1, ?_, fun d => ?_, h4, fun e hev => ?_⟩
    · rw [h2]; unfold leftUpRecord; rw [hk, hq]
    · rw [hdrop, if_pos hq]; unfold State.descriptor; rw [h3]
    · unfold leftUpEvent at hev
      rw [hk, hq, hkr] at hev
      have : closedOf c (s.circuit c) k.cause k.originator (k.confirmed || false) k.discarded = e := by
        rw [Bool.or_false]; exact Option.some.inj hev
      rw [← this]; exact h5
  · have live : (s.circuit c).state = .offered ∨ (s.circuit c).state = .opened ∨ (s.circuit c).state = .rewinding := by
      revert hs hq
      cases (s.circuit c).state <;> decide
    have he : s.endCircuit c Cause.stale = s.enterClosed c Cause.stale 0 .part false none := by
      unfold State.endCircuit; rw [if_neg hq]
    obtain ⟨h1, h2, h3, h4, h5⟩ := enterClosed_spec s c Cause.stale 0 .part false none
    rw [he]
    refine ⟨h1, ?_, fun d => ?_, h4, fun e hev => ?_⟩
    · rw [h3]; unfold leftUpRecord
      rw [hk]
      rcases live with ho | ho | ho <;> rw [ho] <;> rfl
    · rw [hdrop, if_neg hq]
      obtain ⟨k1, k2⟩ := h2 d
      by_cases hh : (s.circuit c).holds d
      · rw [k1 hh]; exact (if_pos hh).symm
      · rw [k2 hh]; exact (if_neg hh).symm
    · have ho : (s.circuit c).state ≠ .opening := by
        intro h; rw [h] at hs; cases hs
      rw [if_neg ho] at h5
      have : closedOf c (s.circuit c) Cause.stale .part false (s.circuit c).send.blocks.length = e := by
        unfold leftUpEvent at hev
        rw [hk] at hev
        rcases live with ho | ho | ho <;> rw [ho] at hev <;> exact Option.some.inj hev
      rw [← this]; exact h5

end Sys2Proof.Machine
end

