-- ==== Sys2Proof/Tests/Slice0.lean ====
section
/-! SUPPORT. Tests: the well-formedness checks on ill-formed terms, the codes on the line, and for every statement with
hypotheses a state and operands that meet them together, clause by clause, at the ends of the ranges. -/

namespace Sys2Proof.Tests

open Sys2Proof.Machine

set_option maxRecDepth 20000

/-! ### Well-formedness: each check refuses an ill-formed term -/

theorem test_wf_port_control_has_its_row : (Instr.registerWrite 2 0).wellFormed = false := by decide
theorem test_wf_event_pop_has_its_row : (Instr.registerWrite 49 0).wellFormed = false := by decide
theorem test_wf_register_write : (Instr.registerWrite 8 0).wellFormed = true := by decide
theorem test_wf_rest_label_zero : (Instr.restTimeExpiry 0).wellFormed = false := by decide
theorem test_wf_rest_label : (Instr.restTimeExpiry 255).wellFormed = true := by decide
theorem test_wf_open_data_long :
    (Instr.openFrameArrival 0 1 1 1 (List.replicate 17 0)).wellFormed = false := by decide
theorem test_wf_open_data_full :
    (Instr.openFrameArrival 0 1 1 1 (List.replicate 16 0)).wellFormed = true := by decide
theorem test_wf_seg_empty : (Instr.segArrival 1 0 0 []).wellFormed = false := by decide
theorem test_wf_seg_long : (Instr.segArrival 1 0 0 (List.replicate 257 0)).wellFormed = false := by decide
theorem test_wf_seg_full : (Instr.segArrival 1 0 0 (List.replicate 256 0)).wellFormed = true := by decide

/-! ### Words and the line -/

theorem test_no_row_has_bits : decodeTableWord 16 1 = none := by decide

/-- The generator of R179 with its start value and complement, on the digits 1 to 9. -/
theorem test_crc_of_digits :
    crc [0x31, 0x32, 0x33, 0x34, 0x35, 0x36, 0x37, 0x38, 0x39] = 0x906E := by decide

theorem test_escape_pairs : escape [0x9C, 0x01, 0x9B] = [0x9B, 0x1C, 0x01, 0x9B, 0x1B] := by decide

theorem test_probe_frame_on_the_line : (Receiver.feed Receiver.opened (lineOctets (.probe 0x9C))).2 = [.probe 0x9C] := by
  decide

/-- A candidate: header and body with their CRC. -/
def candidate (octets : List Octet) : List Octet := octets ++ lowFirst (crc octets)

/-- The checks of R182: unused header octets are not checked; a kind, a length, a link frame's label, an OPEN's data
length, an outcome and a ready flag that fail. -/
theorem test_candidate_unused_octets : checkCandidate (candidate [0x1B, 1, 9, 9, 9, 9]) = some (.probe 1) := by decide
theorem test_candidate_short : checkCandidate (candidate [0x1B, 1, 0, 0, 0]) = none := by decide
theorem test_candidate_crc : checkCandidate [0x1B, 1, 0, 0, 0, 0, 0, 0] = none := by decide
theorem test_candidate_kind : checkCandidate (candidate [0x04, 1, 0, 0, 0, 0]) = none := by decide
theorem test_candidate_length : checkCandidate (candidate [0x17, 1, 0, 0, 0, 0]) = none := by decide
theorem test_candidate_link_label : checkCandidate (candidate [0x03, 1, 0, 0, 0, 0]) = none := by decide
theorem test_candidate_data_length : checkCandidate (candidate [0x10, 0, 1, 4, 1, 0, 5, 0]) = none := by decide
theorem test_candidate_outcome : checkCandidate (candidate [0x1A, 1, 0, 0, 1, 0]) = none := by decide
theorem test_candidate_ready_flag : checkCandidate (candidate [0x1C, 1, 0, 2, 0, 0]) = none := by decide

/-- The delimiter 9Ch as TXD carries it (R177): bits 0 0 1 1 1 0 0 1. -/
theorem test_idle_fill_bits :
    State.reset.txdBits = [false, false, true, true, true, false, false, true] := by decide

theorem test_bits_give_the_octets_back : octetsOfBits (lineBits [0x9C, 0x01]) = [0x9C, 0x01] := by decide

theorem test_abort_discards_the_candidate :
    Receiver.feed Receiver.opened [0x0F, 0x01, 0x9B, 0x9C] = (Receiver.opened, []) := by decide

/-! ### Small states -/

/-- After the start-up period, line-ready high, the receiver collecting, the link DOWN. -/
def ready : State :=
  { State.reset with
    startUp := false, lineReady := true, receiver := { phase := .collect, buffer := [] }
    port := { Port.reset with state := .idle } }

/-- The link in a state, with agreed values where it is UP. -/
def linkIn (state : LinkState) (s : State) : State :=
  { s with
    link := { s.link with
      state
      agreed := if state = .up then some 8 else none
      peerIdentity := if state = .up then some 7 else none
      peerStart := if state = .up then some 9 else none } }

def up : State := linkIn .up ready

/-- A host command started with its parameters. -/
def given (c : Instr) (params : List Nat) (s : State) : State :=
  { s with
    port := { s.port with
      state := .busy, command := (commandCode c).getD 0, params := Vector.ofFn (fun i => BitVec.ofNat 32 (params.getD i.val 0)) } }

/-- A record in a state, with local label 1 and peer label 2. -/
def inState (state : CircuitState) (kind : CircuitKind) (sender : SenderState) : CircuitRecord :=
  { CircuitRecord.free false with
    state, kind := some kind, role := some .initiator, localLabel := 1, peerLabel := some 2, service := 5
    maxSegments := some 4, fixedMaximum := some 6, roundLimit := 4, policy := some .abandon, window := 2
    send := SendContext.fresh sender true }

/-- Circuit 0 with a record, its label 1 bound to it. -/
def holding (r : CircuitRecord) (s : State) : State :=
  { s with
    circuits := s.circuits.set 0 r
    labels := s.labels.set 0 (.bound 0 (decide (r.kind = some .fixed))) }

/-- Descriptor 0 replaced. -/
def withBlock (x : Descriptor) (s : State) : State := { s with descriptors := s.descriptors.set 0 x }

/-- A descriptor in a state that holds page 0. -/
def block (state : DescState) : Descriptor :=
  { Descriptor.free with state, pages := [0], byteLength := some 256 }

/-- A dialled OPEN record. -/
def dialled : CircuitRecord := inState .opened .dialled .idle

/-- An OPEN record with an active block in a sender state. -/
def sending (sender : SenderState) (round : Nat) : CircuitRecord :=
  { dialled with
    send := { dialled.send with
      sender
      active := some { desc := 0, number := 0, count := 2, acked := 0, toSend := 3, round } } }

/-- An OPEN record HELD with descriptor 0 queued. -/
def heldBack : CircuitRecord :=
  { dialled with send := { dialled.send with sender := .held, queue := [0], lastSent := some (255, 4) } }

/-- An OPEN record that receives into descriptor 0. -/
def assembling (announced : Option Nat) : CircuitRecord :=
  { dialled with recv := { RecvContext.fresh with assembly := some 0, announced } }

/-- A descriptor that assembles with segment 0 stored in page 0. -/
def assembly (octets : Nat) : Descriptor :=
  { Descriptor.free with state := .assembling, slots := [{ index := 0, page := 0, octets }] }

def closeRecord : CloseRecord := { cause := 1, diagnostic := 0, originator := .local, discarded := 0, confirmed := false }

/-- A timer running on a record. -/
def timed (purpose : TimerPurpose) (remaining : Nat) (r : CircuitRecord) : CircuitRecord :=
  { r with timer := some { purpose, remaining } }

/-- A frame in transmission. -/
def transmitting (owner : TxOwner) (frame : Frame) (detached : Bool) (pin : Option (Nat × DescNo)) (s : State) : State :=
  { s with tx := some { owner, frame, detached, pin }, line := .frame }

theorem hears_linkIn (state : LinkState) : Hears (linkIn state ready) :=
  ⟨rfl, fun h => absurd (show ReceiverPhase.collect = .hunt from h) (by decide)⟩

theorem hears_holding (r : CircuitRecord) : Hears (holding r up) :=
  ⟨rfl, fun h => absurd (show ReceiverPhase.collect = .hunt from h) (by decide)⟩

theorem reaches_holding (r : CircuitRecord) : Reaches (holding r up) 1 0 :=
  ⟨hears_holding r, rfl, by decide, decide (r.kind = some .fixed), rfl⟩

/-- After reset every descriptor is FREE. -/
theorem ready_descriptor (d : DescNo) : ready.descriptor d = Descriptor.free := by
  simp [ready, State.descriptor, State.reset]

/-- Descriptor 0 alone is replaced. -/
theorem withBlock_descriptor (x : Descriptor) (d : DescNo) (h : d ≠ 0) :
    (withBlock x ready).descriptor d = Descriptor.free := by
  have h0 : ¬ 0 = d.val := fun e => h (Fin.ext e.symm)
  simp [withBlock, ready, State.descriptor, State.reset, h0]

/-! ### One step each -/

/-- The state a command leads to. -/
def after (c : Instr) (s : State) : State :=
  match exec c s with
  | .next t => t
  | .fault _ => s
  | .refused _ => s

theorem test_start_up_end_makes_the_port_idle : (after .startUpEnd State.reset).port.state = .idle := by decide

theorem test_start_link_avoids_the_held_number :
    ((after .startLink (given .startLink [] ready)).link.state, (after .startLink (given .startLink [] ready)).link.ownStart) =
      (.starting, 1) := by decide

theorem test_link_agree_takes_the_lower_offer :
    (after (.linkAgreeArrival 8 7 9) (linkIn .starting ready)).link.agreed = some 8 := by decide

theorem test_open_takes_label_255_and_wraps :
    (let t := after .openCommand (given .openCommand [5] { up with allocPtr := 255 });
      ((t.circuit 0).localLabel, t.allocPtr, t.port.results[1])) = (255, 1, 255) := by decide

/-- An OPENING record at label 1 that asks for 4 segments. -/
def opening (queue : List DescNo) : CircuitRecord :=
  { inState .opening .dialled .stopped with
    peerLabel := none, openRequest := some { requested := 4, data := [] }
    send := { SendContext.fresh .stopped true with queue } }

theorem test_accept_empties_a_pending_open :
    (let r := (after (.acceptArrival 1 2 4) (holding { opening [] with protocol := some .openK } up)).circuit 0;
      (r.state, r.protocol)) = (.opened, none) := by decide

theorem test_accept_at_offered_draws_a_close :
    (after (.acceptArrival 1 2 4) (holding (inState .offered .dialled .stopped) up)).loose =
      [{ body := .close 8 0, dst := 2, src := 1 }] := by decide

theorem test_too_large_head_fails_at_its_start :
    (let t := after (.acceptArrival 1 2 1) (holding (opening [0])
        (withBlock { block .queued with pages := [0, 1], tag := some 7 } up));
      (t.events.getLast?, (t.circuit 0).send.sender, (t.descriptor 0).state)) =
      (some { kind := .blockFailed, circuit := some 0, cause := some 0x0B, tag := some 7, count := some 2 }, .idle,
        .free) := by decide

theorem test_seg_below_the_announced_count_completes :
    (let t := after (.segArrival 1 0 1 [1]) (holding (assembling (some 2)) (withBlock (assembly 256) up));
      ((t.circuit 0).recv.delivered, (t.circuit 0).answer, (t.descriptor 0).byteLength)) =
      ([0], some .blockStatus, some 257) := by decide

theorem test_returning_descriptor_is_free_at_the_end_of_its_segment :
    ((after .transmissionEnd (transmitting (.circuit 0) (.seg 2 0 0 [0]) false (some (0, 0))
      (holding dialled (withBlock (block .returning) up)))).descriptor 0).state = .free := by decide

theorem test_register_reads :
    (let s : State := { up with events := [closedOf 3 dialled 8 .part false 0] };
      (s.readRegister 56, s.readRegister 57, s.readRegister 48, s.readRegister 24)) = (0x030D, 0x0308, 1, 0) := by decide

theorem test_submit_starts_block_0 :
    ((after .submit (given .submit [0, 0, 256, 7] (holding dialled (withBlock (block .filling) up)))).circuit 0).send.active =
      some { desc := 0, number := 0, count := 1, acked := 0, toSend := 1, round := 1 } := by decide

theorem test_last_segment_owes_block_end :
    ((after .transmissionEnd (transmitting (.circuit 0) (.seg 2 0 0 [0]) false (some (0, 0)) (holding
      { sending .sending 1 with send := { (sending .sending 1).send with
        active := some { desc := 0, number := 0, count := 1, acked := 0, toSend := 1, round := 1 } } } up))).circuit
      0).transfer = some .blockEnd := by decide

theorem test_seg_writes_its_page :
    ((after (.segArrival 1 0 0 [0xAB, 0xCD]) (holding dialled up)).memory.read 1, (after (.segArrival 1 0 0 [0xAB, 0xCD])
      (holding dialled up)).memory.read 2) = (0xCD, 0) := by decide

theorem test_status_map_of_a_missing_block :
    (holding { dialled with recv := { RecvContext.fresh with announced := some 3 } } up).answerFrame 0 .blockStatus =
      .blockStatus 2 0 (.missing 7) true := by decide

theorem test_host_word_is_low_octet_first :
    (after (.packetMemoryWrite 1 0xBEEF) (withBlock (block .filling) ready)).memory =
      [⟨2, 0xEF⟩, ⟨3, 0xBE⟩] := by decide

theorem test_refused_access_sets_the_latch :
    (after (.packetMemoryRead 131071) ready).latch = some 1023 := by decide

theorem test_an_idle_step_is_a_millisecond :
    (match step up with | .next t => t.msCount | _ => 0) = 1 := by decide +kernel

/-! ### Witnesses for the hypotheses of the statements -/

theorem witness_StepRunsTheFrontCommand :
    { ready with pending := [.eventPop] }.pending = .eventPop :: [] := rfl

/-- The start-up period; nothing about to expire, with times at 2; and one circuit timer at 1 among others at 2. -/
theorem witness_AMillisecondPassesOnAnEmptyQueue :
    (State.reset.pending = [] ∧ State.reset.startUp = true) ∧
    (let s := holding (timed .status 2 (sending .polling 1)) up;
      s.pending = [] ∧ s.startUp = false ∧ s.link.timer = none ∧ (s.circuit 0).timer = some ⟨.status, 2⟩ ∧
      ∀ c, c ≠ 0 → (s.circuit c).timer = none) ∧
    (let s := holding (timed .status 1 (sending .polling 1)) up;
      s.pending = [] ∧ s.startUp = false ∧ s.link.timer = none ∧ (s.circuit 0).timer = some ⟨.status, 1⟩ ∧
      ∀ c, c ≠ 0 → (s.circuit c).timer = none) := by
  decide

/-- Every command with a code can have been started. -/
theorem witness_EveryStartedCommandIsTaken (c : Instr) (w : Word) (h : commandCode c = some w) :
    Started c (given c [] ready) := by
  refine ⟨rfl, rfl, ?_⟩
  show commandCode c = some ((commandCode c).getD 0)
  rw [h]
  rfl

/-- A refusal by a command's own check; the number of a FREE record; and numbers above the table. -/
theorem witness_RefusedCommandChangesNothing :
    (Started .setLink (given .setLink [3] ready) ∧
      ∃ t, exec .setLink (given .setLink [3] ready) = .next t ∧ t.port.result ≠ .ok) ∧
    (Started .take (given .take [63] up) ∧ (given .take [63] up).param 0 = 63 ∧
      ((given .take [63] up).circuit 63).state = .free) ∧
    (Started .submit (given .submit [0, 64] up) ∧ (given .submit [0, 64] up).param 1 = 64) ∧
    (Started .readCircuit (given .readCircuit [64] up) ∧ 63 < (given .readCircuit [64] up).param 0) := by
  refine ⟨⟨⟨rfl, rfl, rfl⟩, ⟨_, rfl, by decide⟩⟩, ⟨⟨rfl, rfl, rfl⟩, by decide, by decide⟩,
    ⟨⟨rfl, rfl, rfl⟩, by decide⟩, ⟨⟨rfl, rfl, rfl⟩, by decide⟩⟩

/-- Codes 0000h and 0019h, the neighbours of the table, and FFFFh. -/
theorem witness_RefusedCommandChangesNothing_unknown :
    ∀ code ∈ [0, 0x19, 0xFFFF],
      let s : State := { ready with port := { ready.port with state := .busy, command := BitVec.ofNat 16 code } };
      s.port.state = .busy ∧ s.startUp = false ∧ (s.port.command = 0 ∨ 0x18 < s.port.command.toNat) := by
  decide

/-- IDLE and BUSY; PARAM words 8 to 23; the ignored offsets 1, 3, 7, 24, 48, 50 and the last; a queue with an entry and
without; the offsets that read zero at the ends of their ranges. -/
theorem witness_RegisterWindowWritesAndReads :
    ready.port.state ≠ .busy ∧ (given .readPool [] ready).port.state = .busy ∧
    (∀ i ∈ [(0 : Fin 8), 7], ∀ high : Bool,
      let address : WordAddress := BitVec.ofNat 17 (8 + 2 * i.val + (if high then 1 else 0));
      8 ≤ address.toNat ∧ address.toNat ≤ 23) ∧
    (∀ n ∈ [1, 3, 7, 24, 48, 50, 131071],
      let address : WordAddress := BitVec.ofNat 17 n;
      address = 1 ∨ (3 ≤ address.toNat ∧ address.toNat ≤ 7) ∨ (24 ≤ address.toNat ∧ address ≠ 49)) ∧
    (ready.events = [] ∧ { ready with events := [linkUpEvent 1 1 false] }.events = linkUpEvent 1 1 false :: []) ∧
    ∀ n ∈ [3, 7, 40, 47, 49, 55, 64, 131071],
      let address : WordAddress := BitVec.ofNat 17 n;
      (3 ≤ address.toNat ∧ address.toNat ≤ 7) ∨ (40 ≤ address.toNat ∧ address.toNat ≤ 47) ∨
        (49 ≤ address.toNat ∧ address.toNat ≤ 55) ∨ 64 ≤ address.toNat := by
  decide

/-- The queue with 0, 126, 127 and 128 entries, for an event that names a circuit and one that names none. -/
theorem witness_EventsQueueInOrderAndOverflowOnce :
    ready.events = [] ∧
    (∀ n ∈ [0, 126, 127, 128], { ready with events := List.replicate n { kind := .looped } }.events.length = n) ∧
    (closedOf 63 dialled 1 .local true 0).circuit = some 63 ∧ (linkUpEvent 1 1 false).circuit = none := by
  decide

/-- Every group at both ends of its ranges, a value outside each end, group 3 and a link that is not DOWN. -/
theorem witness_SetLinkReplacesAWholeGroup :
    (∀ p ∈ [[0, 65535, 64, 10000, 10000, 512], [0, 0, 1, 100, 100, 0]],
      Started .setLink (given .setLink p ready) ∧ (given .setLink p ready).link.state = .down ∧
        (given .setLink p ready).param 1 ≤ 65535 ∧ (given .setLink p ready).param 5 ≤ 512) ∧
    (∀ p ∈ [[1, 500, 100, 50, 1, 100], [1, 60000, 60000, 5000, 7, 10000]],
      Started .setLink (given .setLink p ready) ∧ 500 ≤ (given .setLink p ready).param 1 ∧
        (given .setLink p ready).param 4 ≤ 7) ∧
    (∀ p ∈ [[2, 100, 0, 100, 0, 0], [2, 10000, 7, 10000, 7, 60000]],
      Started .setLink (given .setLink p ready) ∧ (given .setLink p ready).param 2 ≤ 7) ∧
    (∀ p ∈ [[0, 65536, 64, 100, 100, 0], [0, 0, 0, 100, 100, 0], [1, 505, 100, 50, 1, 100], [2, 100, 8, 100, 0, 0]],
      Started .setLink (given .setLink p ready) ∧
        exec .setLink (given .setLink p ready) = refusedWith (given .setLink p ready) .badParam) ∧
    2 < (given .setLink [3] ready).param 0 ∧ (given .setLink [2] up).link.state ≠ .down := by
  simp only [Started, List.forall_mem_cons, List.not_mem_nil, false_implies, implies_true, and_true]
  refine ⟨?_, ?_, ?_, ⟨⟨?_, rfl⟩, ⟨?_, rfl⟩, ⟨?_, rfl⟩, ⟨?_, rfl⟩⟩, ?_⟩ <;> decide

theorem witness_ReadLinkAndReadCircuitReportTheirViews_link :
    ∀ view ∈ [0, 1, 2, 3, 4], Started .readLink (given .readLink [view] up) ∧
      (given .readLink [view] up).param 0 = view := by
  simp only [Started]
  decide

/-- START-LINK with the count equal to the held number and different from it; STOP-LINK in every link state. -/
theorem witness_StartLinkAndStopLinkMoveTheLink :
    Started .startLink (given .startLink [] ready) ∧ ready.link.state = .down ∧ ready.lineReady = true ∧
    ready.msCount % 65536 = ready.link.ownStart.toNat ∧
    ({ ready with msCount := 65535 }.msCount % 65536 ≠ ready.link.ownStart.toNat) ∧
    { ready with lineReady := false }.lineReady = false ∧
    ∀ state : LinkState, state = .down ∨ state = .starting ∨ state = .up ∨ state = .stopping →
      Started .stopLink (given .stopLink [] (linkIn state ready)) ∧
        (given .stopLink [] (linkIn state ready)).link.state = state := by
  refine ⟨⟨rfl, rfl, rfl⟩, rfl, rfl, rfl, by decide, rfl, fun state _ => ⟨⟨rfl, rfl, rfl⟩, rfl⟩⟩

/-- A listen entry. -/
def listening (service : Word) (policy : ListenPolicy) : ListenEntry :=
  { service, policy, maxSegments := 64, window := 2, roundLimit := 4, giveUp := .abandon }

/-- An empty table, a full one, the slots 0 and 15, service numbers 0, 1, 65535 and 65536, and slot number 16. -/
theorem witness_ListenTableCommandsKeepOneEntryEach :
    (∀ service ∈ [1, 65535], Started .listen (given .listen [service, 1, 64, 8, 15, 3] ready) ∧
      limitsOf 15 3 8 false = some { roundLimit := 15, policy := .close, window := 8 } ∧
      listenPolicyOf 2 = some .refer ∧ ∀ k : Fin 16, ready.listen[k.val] = none) ∧
    (∀ p ∈ [[0, 1], [65536, 1], [1, 3], [1, 1, 65], [1, 1, 0, 9]],
      Started .listen (given .listen p ready) ∧
        exec .listen (given .listen p ready) = refusedWith (given .listen p ready) .badParam) ∧
    (let s := { ready with listen := Vector.replicate 16 (some (listening 1 .auto)) };
      Started .listen (given .listen [2, 1] s) ∧ Started .unlisten (given .unlisten [1] s) ∧
        ∀ k : Fin 16, s.listen[k.val] ≠ none) ∧
    (∀ k ∈ [0, 15, 16], Started .readListen (given .readListen [k] ready) ∧ (given .readListen [k] ready).param 0 = k) := by
  simp only [Started, List.forall_mem_cons, List.not_mem_nil, false_implies, implies_true, and_true]
  refine ⟨?_, ⟨⟨?_, rfl⟩, ⟨?_, rfl⟩, ⟨?_, rfl⟩, ⟨?_, rfl⟩, ⟨?_, rfl⟩⟩, ?_, ?_⟩ <;> decide

/-- Both sides of every bound of the field checks. -/
theorem witness_FieldChecksSelectDefaults :
    (∀ p ∈ [(0, 0, 0), (1, 1, 1), (15, 2, 8), (15, 3, 8)], (limitsOf p.1 p.2.1 p.2.2 false).isSome = true) ∧
    (∀ p ∈ [(16, 0, 0), (0, 4, 0), (0, 0, 9)], limitsOf p.1 p.2.1 p.2.2 false = none) ∧
    limitsOf 0 3 0 true = none := by
  decide

/-- The parameters of an OPEN: requested 8 of an agreed 8, then 9 of 8; 16 octets of data and 17; a link not UP; no FREE
record; no FREE label. -/
theorem witness_OpenCommandCreatesAnOpeningRecord :
    (let s := given .openCommand [65535, 8, 16] up;
      Started .openCommand s ∧ s.lowestFreeCircuit = some 0 ∧ s.scanFreeLabel = some 1 ∧ (s.paramOctet 1 0).toNat = 8) ∧
    (let s := given .openCommand [1, 9, 0] up; Started .openCommand s ∧ s.link.agreed.getD 0 < (s.paramOctet 1 0).toNat) ∧
    (let s := given .openCommand [1, 65, 0] up; 64 < (s.paramOctet 1 0).toNat) ∧
    (let s := given .openCommand [1, 0, 17] up; 16 < s.param 2) ∧
    (let s := given .openCommand [1, 0, 0] ready; Started .openCommand s ∧ s.link.state ≠ .up) ∧
    (let s := given .openCommand [1] { up with circuits := Vector.replicate 64 dialled };
      Started .openCommand s ∧ s.lowestFreeCircuit = none) ∧
    (let s := given .openCommand [1] { up with labels := Vector.replicate 255 (.resting 1) };
      Started .openCommand s ∧ s.lowestFreeCircuit ≠ none ∧ s.scanFreeLabel = none) := by
  simp only [Started]
  decide

/-- The scan from label 255 and from label 1, the record and slot at the ends of the tables, and none. -/
theorem witness_LookupsFindTheirSlot :
    (ready.circuit 0).state = .free ∧
    (∀ c, ({ ready with circuits := Vector.replicate 64 dialled }.circuit c).state ≠ .free) ∧
    ready.allocPtr ≠ 0 ∧ ready.label 1 = .free ∧
    (let s := { ready with allocPtr := 255, labels := ready.labels.set 254 (.resting 1) };
      s.label 255 ≠ .free ∧ s.label 1 = .free) ∧
    ((holding dialled up).circuit 0).peerLabel = some 2 ∧ ((holding dialled up).circuit 0).state = .opened ∧
    (∀ c, (up.circuit c).peerLabel ≠ some 2) ∧
    { ready with listen := ready.listen.set 15 (some (listening 5 .auto)) }.listen[15] = some (listening 5 .auto) ∧
    ∀ k : Fin 16, ready.listen[k.val] = none := by
  decide

/-- A loose reply from label 2 to label 1. -/
def reply (body : LooseBody) : LooseReply := { body, dst := 1, src := 2 }

/-- A FREE descriptor and a free page and none of either; no and one RETURNING descriptor; a new slot between two; a
request merged with an entry of another cause and with a CLOSE-DONE, and one of another kind or label at 0, 3 and 4
entries. -/
theorem witness_LookupsFindTheirSlot_buffers :
    (ready.descriptor 0).state = .free ∧
    (∀ d, ({ ready with descriptors := Vector.replicate 256 (block .held) }.descriptor d).state ≠ .free) ∧
    (∀ d, (ready.descriptor d).state ≠ .returning) ∧
    (let s := withBlock (block .returning) ready;
      (s.descriptor 0).state = .returning ∧ ∀ e, (s.descriptor e).state = .returning → e = 0) ∧
    (∀ d, (0 : Nat) ∉ (ready.descriptor d).pages ∧ ∀ x ∈ (ready.descriptor d).slots, x.page ≠ 0) ∧
    (dialled.recv.assembly = none ∧ (assembling none).recv.assembly = some 0) ∧
    (∀ y ∈ [({ index := 1, page := 8, octets := 256 } : Slot)], y.index < 2) ∧
    (∀ y ∈ [({ index := 3, page := 9, octets := 256 } : Slot)], 2 < y.index) := by
  decide

/-- Every page held by one descriptor. -/
theorem witness_LookupsFindTheirSlot_no_page :
    let s := withBlock { block .held with pages := List.range 1024 } ready;
    ∀ p, ¬ (p < 1024 ∧ ∀ d, p ∉ (s.descriptor d).pages ∧ ∀ x ∈ (s.descriptor d).slots, x.page ≠ p) :=
  fun _ h => (h.2 0).1 (List.mem_range.2 h.1)

/-- A loose reply requested: merged with an entry whose cause differs, and with a CLOSE-DONE; not merged with an entry
of another kind or source label; appended at 0 and 3 entries and dropped at 4. -/
theorem test_loose_reply_requested :
    let holdingReplies (xs : List LooseReply) : State := { up with loose := xs };
    ((holdingReplies [reply (.close 8 0)]).requestLoose (reply (.close 9 1))).loose = [reply (.close 8 0)] ∧
    ((holdingReplies [reply .closeDone]).requestLoose (reply .closeDone)).loose = [reply .closeDone] ∧
    ((holdingReplies []).requestLoose (reply .closeDone)).loose = [reply .closeDone] ∧
    ((holdingReplies (List.replicate 3 (reply .closeDone))).requestLoose (reply (.close 8 0))).loose =
      List.replicate 3 (reply .closeDone) ++ [reply (.close 8 0)] ∧
    ((holdingReplies (List.replicate 4 (reply .closeDone))).requestLoose { reply .closeDone with src := 3 }).loose =
      List.replicate 4 (reply .closeDone) := by
  decide

/-- An OFFERED record. -/
def offered : CircuitRecord :=
  { inState .offered .dialled .stopped with role := some .responder, offer := some { requested := 64, data := [] } }

/-- Decisions 0, 1, 2 and 3; max segments 64 and 65; a diagnostic of 255 and of 256; and a record not OFFERED. -/
theorem witness_AnswerAcceptsOrRefusesTheOffer :
    (∀ p ∈ [[0, 0], [0, 1, 64], [0, 1, 65], [0, 1, 0, 9], [0, 2, 255], [0, 2, 256], [0, 3]],
      let s := given .answer p (holding offered up);
      Started .answer s ∧ NamesCircuit s 0 0 ∧ (s.circuit 0).state = .offered ∧
        (s.circuit 0).offer = some { requested := 64, data := [] } ∧ s.link.agreed = some 8 ∧
        (s.circuit 0).send.queue = [] ∧ (s.circuit 0).peerLabel = some 2 ∧ (s.circuit 0).localLabel ≠ 0) ∧
    (limitsOf 0 0 0 false).isSome = true ∧ limitsOf 0 0 9 false = none ∧
    (let s := given .answer [0, 1] (holding dialled up); NamesCircuit s 0 0 ∧ (s.circuit 0).state ≠ .offered) := by
  simp only [Started, NamesCircuit]
  decide

/-- CLOSE in every state, dialled and fixed, with the diagnostics 255 and 256. -/
theorem witness_CloseCommandClosesTheCircuit :
    ∀ r ∈ [inState .opening .dialled .stopped, dialled, inState .rewinding .dialled .stopped, offered,
        inState .closing .dialled .stopped, inState .closed .dialled .stopped, inState .opened .fixed .idle],
      ∀ diagnostic ∈ [255, 256],
        let s := given .closeCommand [0, diagnostic] (holding r up);
        Started .closeCommand s ∧ NamesCircuit s 0 0 ∧ s.circuit 0 = r ∧ s.param 1 = diagnostic := by
  simp only [Started, NamesCircuit]
  decide

theorem witness_RewindCommandEntersRewinding :
    ∀ r ∈ [dialled, inState .opened .fixed .idle, inState .rewinding .dialled .stopped],
      let s := given .rewindCommand [0] (holding r up);
      Started .rewindCommand s ∧ NamesCircuit s 0 0 ∧ s.circuit 0 = r := by
  simp only [Started, NamesCircuit]
  decide

theorem witness_RetireFreesAClosedRecord :
    ∀ r ∈ [dialled, { inState .closed .dialled .stopped with recv := { RecvContext.fresh with delivered := [0] } }],
      let s := given .retire [0] (holding r (withBlock (block .delivered) up));
      Started .retire s ∧ NamesCircuit s 0 0 ∧ (s.circuit 0).localLabel ≠ 0 ∧ s.circuit 0 = r := by
  simp only [Started, NamesCircuit]
  decide

/-- FIX with every check passed at labels 1 and 255, with each check failing, and UNFIX in DORMANT and elsewhere. -/
theorem witness_FixAndUnfixKeepTheDefinitions :
    (∀ p ∈ [[1, 1, 1], [255, 255, 65535, 64, 8, 15, 2]],
      let s := given .fix p ready;
      Started .fix s ∧ s.link.state = .down ∧ s.label (BitVec.ofNat 8 (s.param 0)) = .free ∧
        s.lowestFreeCircuit = some 0) ∧
    (∀ p ∈ [[1, 0, 1], [1, 256, 1], [1, 1, 0], [1, 1, 65536], [1, 1, 1, 65], [1, 1, 1, 0, 0, 0, 3], [0, 1, 1],
        [256, 1, 1]],
      Started .fix (given .fix p ready) ∧ exec .fix (given .fix p ready) = refusedWith (given .fix p ready) .badParam) ∧
    (let s := given .fix [3, 2, 1] (holding (inState .dormant .fixed .stopped) ready);
      Started .fix s ∧ (s.circuit 0).state = .dormant ∧ (s.circuit 0).peerLabel = some (BitVec.ofNat 8 (s.param 1))) ∧
    (let s := given .fix [1, 1, 1] { ready with circuits := Vector.replicate 64 dialled };
      Started .fix s ∧ s.lowestFreeCircuit = none) ∧
    (given .fix [1, 1, 1] up).link.state ≠ .down ∧
    (let s := given .unfix [0] (holding (inState .dormant .fixed .stopped) ready);
      Started .unfix s ∧ NamesCircuit s 0 0 ∧ (s.circuit 0).state = .dormant) ∧
    (let s := given .unfix [0] (holding dialled up);
      Started .unfix s ∧ NamesCircuit s 0 0 ∧ (s.circuit 0).state ≠ .dormant) := by
  simp only [Started, NamesCircuit, List.forall_mem_cons, List.not_mem_nil, false_implies, implies_true, and_true]
  refine ⟨?_, ⟨⟨?_, rfl⟩, ⟨?_, rfl⟩, ⟨?_, rfl⟩, ⟨?_, rfl⟩, ⟨?_, rfl⟩, ⟨?_, rfl⟩, ⟨?_, rfl⟩, ⟨?_, rfl⟩⟩, ?_⟩ <;>
    decide

/-- Views 0 to 6 of a record in use and of a FREE one, circuit numbers 0 and 63. -/
theorem witness_ReadLinkAndReadCircuitReportTheirViews_circuit :
    ∀ c ∈ [(0 : CircuitNo), 63], ∀ view ∈ [0, 1, 2, 3, 4, 5, 6],
      let s := given .readCircuit [c.val, view] (holding dialled up);
      Started .readCircuit s ∧ s.param 0 = c.val ∧ s.param 1 = view ∧
        ((s.circuit c).state = .free ↔ c = 63) := by
  simp only [Started]
  decide

/-- A window at and below the blocks held, a bad field, and a record that told its peer it was held. -/
theorem witness_SetCircuitReplacesTheLimits :
    (∀ p ∈ [[0, 15, 3, 1], [0, 16], [0, 0, 0, 8]],
      let r := { assembling none with recv := { (assembling none).recv with delivered := [1], heldReported := true } };
      let s := given .setCircuit p (holding r up);
      Started .setCircuit s ∧ NamesCircuit s 0 0 ∧ s.circuit 0 = r) ∧
    (limitsOf 15 3 1 false).isSome = true ∧ limitsOf 16 0 0 false = none := by
  simp only [Started, NamesCircuit]
  decide

/-- Counts 0, 1, 64 and 65; no FREE descriptor; a run that exists and a pool without one; FREE of descriptors 0 and 255
in both states and one that is neither, and of number 256. -/
theorem witness_AllocAndFreeMoveDescriptors :
    (∀ n ∈ [0, 1, 64, 65], Started .alloc (given .alloc [n] ready) ∧ (given .alloc [n] ready).param 0 = n ∧
      (given .alloc [n] ready).lowestFreeDescriptor = some 0) ∧
    ({ ready with descriptors := Vector.replicate 256 (block .held) }.lowestFreeDescriptor = none) ∧
    (withBlock { block .held with pages := [0, 1, 2] } ready).descriptor 0 = { block .held with pages := [0, 1, 2] } ∧
    (∀ state ∈ [DescState.filling, .held, .queued],
      let s := given .freeCommand [0] (withBlock (block state) ready);
      Started .freeCommand s ∧ s.param 0 = (0 : DescNo).val ∧ (s.descriptor 0).state = state) ∧
    255 < (given .freeCommand [256] ready).param 0 ∧ (given .freeCommand [255] ready).param 0 = (255 : DescNo).val := by
  simp only [Started]
  decide

/-- No page is held after reset: every count has a run. -/
theorem witness_AllocAndFreeMoveDescriptors_run (d : DescNo) : (ready.descriptor d).held = [] := by
  rw [ready_descriptor]
  rfl

/-- The odd pages. -/
def oddPages : List Nat := (List.range 512).map (2 * · + 1)

theorem mem_oddPages (q : Nat) (hq : q < 1024) (ho : q % 2 = 1) : q ∈ oddPages :=
  List.mem_map.mpr ⟨q / 2, List.mem_range.mpr (by omega), by omega⟩

/-- A pool without a run of two: a descriptor holds every odd page. -/
theorem witness_AllocAndFreeMoveDescriptors_no_run (s : State) (d : DescNo) (p : Nat)
    (hd : (s.descriptor d).pages = oddPages) :
    ¬ ∀ k, k < 2 → p + k < 1024 ∧ ¬ ∃ d, p + k ∈ (s.descriptor d).held := by
  intro h
  have hm (q : Nat) (hq : q < 1024) (ho : q % 2 = 1) : ∃ d, q ∈ (s.descriptor d).held :=
    ⟨d, List.mem_append_left _ (by rw [hd]; exact mem_oddPages q hq ho)⟩
  have h0 := h 0 (by decide)
  have h1 := h 1 (by decide)
  rcases Nat.mod_two_eq_zero_or_one p with hp | hp
  · exact h1.2 (hm (p + 1) h1.1 (by omega))
  · exact h0.2 (hm (p + 0) h0.1 (by omega))

/-- The pages free after reset suffice for the largest ALLOC and do not for one beyond the reserve. -/
theorem witness_AllocAndFreeMoveDescriptors_pages :
    (given .alloc [64] ready).link.config.reserve + 64 ≤ (given .alloc [64] ready).freePages.length ∧
    (let s : State := { ready with link := { ready.link with config := { ready.link.config with reserve := 1024 } } };
      s.freePages.length < s.link.config.reserve + 1) := by
  decide

/-- SUBMIT to each state that takes it and to one that does not, IDLE with the peer ready and not, lengths 0, 1, 256 and
257 for one page, 7 and 8 blocks held, the tags 65535 and 65536, and the descriptor numbers 0 and 256. -/
theorem witness_SubmitQueuesOrStartsTheBlock :
    (∀ r ∈ [{ inState .opening .dialled .stopped with openRequest := some { requested := 1, data := [] } }, dialled,
        { dialled with send := { dialled.send with peerReady := false } }, sending .sending 1,
        inState .rewinding .dialled .stopped, inState .dormant .fixed .stopped, offered,
        { sending .sending 1 with send := { (sending .sending 1).send with queue := [1, 2, 3, 4, 5, 6] } },
        { sending .sending 1 with send := { (sending .sending 1).send with queue := [1, 2, 3, 4, 5, 6, 7] } }],
      ∀ p ∈ [[0, 0, 1, 65535], [0, 0, 256, 65536], [0, 0, 0], [0, 0, 257]],
        let s := given .submit p (holding r (withBlock (block .filling) up));
        Started .submit s ∧ NamesCircuit s 1 0 ∧ s.param 0 = (0 : DescNo).val ∧ s.circuit 0 = r ∧
          (s.descriptor 0).state = .filling ∧ (s.descriptor 0).pages.length = 1) ∧
    (dialled.send.queue = [] ∧ dialled.send.peerReady = true) ∧ 255 < (given .submit [256, 0] up).param 0 ∧
    ((holding dialled up).descriptor 0).state ≠ .filling := by
  simp only [Started, NamesCircuit]
  decide

/-- TAKE from an empty queue, from one with a block, from a circuit that told its peer it was held, and in the states
that refuse it. -/
theorem witness_TakeGivesTheHeadBlock :
    ∀ r ∈ [dialled, { dialled with recv := { RecvContext.fresh with delivered := [0] } },
        { dialled with recv := { RecvContext.fresh with delivered := [0, 1], heldReported := true } },
        inState .opening .dialled .stopped, offered],
      let s := given .take [0] (holding r (withBlock (block .delivered) up));
      Started .take s ∧ NamesCircuit s 0 0 ∧ s.circuit 0 = r := by
  simp only [Started, NamesCircuit]
  decide

/-- Descriptors 0 and 255 and number 256; parts 0, 1, 8 and 9; labels 0, 1, 255 and 256, FREE, BOUND and RESTING; an
empty and a full head of the loose-reply queue. -/
theorem witness_PoolAndLabelReadsReportTheTables :
    (∀ d ∈ [0, 255, 256], ∀ part ∈ [0, 1, 8, 9],
      let s := given .readDescriptor [d, part] ready;
      Started .readDescriptor s ∧ s.param 0 = d ∧ s.param 1 = part) ∧
    (block .held).slots = [] ∧ (assembly 1).pages = [] ∧ Started .readPool (given .readPool [] ready) ∧
    (∀ l ∈ [0, 1, 255, 256],
      let s := given .readLabel [l] (holding dialled { up with labels := up.labels.set 254 (.resting 60000) });
      Started .readLabel s ∧ s.param 0 = l ∧ s.label 1 = .bound 0 false ∧ s.label 2 = .free ∧
        s.label 255 = .resting 60000 ∧ s.loose = []) ∧
    { up with loose := [{ body := .closeDone, dst := 1, src := 255 }] }.loose =
      { body := .closeDone, dst := 1, src := 255 } :: [] := by
  simp only [Started]
  decide

/-- A definition and a dialled record, a label bound to each kind and one that rests. -/
theorem witness_InitialiseKeepsTheDefinitions :
    ∀ r ∈ [inState .opened .fixed .idle, inState .rewinding .fixed .stopped, inState .dormant .fixed .stopped, dialled],
      let s := given .initialise [] (holding r up);
      Started .initialise s ∧ s.circuit 0 = r ∧ s.label 1 = .bound 0 (decide (r.kind = some .fixed)) ∧ s.label 2 = .free
      := by
  simp only [Started]
  decide

/-- Page 0 of a FILLING descriptor at its first and last word, of a QUEUED one, and page 1023 in the pool; the latch
clear and set; the start-up period. -/
theorem witness_HostAccessesAreCheckedByOwner :
    (∀ a ∈ [0, 127], 2 * (BitVec.ofNat 17 a).toNat / 256 = 0) ∧
    2 * (131071 : WordAddress).toNat / 256 = 1023 ∧
    (∀ state ∈ [DescState.filling, .held, .queued],
      let s := withBlock (block state) ready;
      s.startUp = false ∧ s.memory.wf = true ∧ s.latch = none ∧ (s.descriptor 0).state = state ∧
        0 ∈ (s.descriptor 0).held) ∧
    { ready with latch := some 0 }.latch ≠ none ∧
    { ready with events := List.replicate 126 { kind := .looped } }.events.length ≤ 126 ∧
    State.reset.startUp = true := by
  decide

/-- Page 0 is in descriptor 0 alone, and page 1023 in none. -/
theorem witness_HostAccessesAreCheckedByOwner_owner (state : DescState) (d : DescNo) :
    (0 ∈ ((withBlock (block state) ready).descriptor d).held → d = 0) ∧ 1023 ∉ (ready.descriptor d).held := by
  refine ⟨fun h => Classical.byContradiction fun hd => ?_, ?_⟩
  · rw [withBlock_descriptor _ d hd] at h
    exact absurd h (by decide)
  · rw [ready_descriptor]
    decide

theorem witness_HardwareResetLeavesTheGivenValues : State.reset.startUp = true := rfl

/-- Line-ready high in each link state, with a frame in transmission and without, with and without a pin. -/
theorem witness_LineReadyFallBringsTheLinkDown :
    (∀ state ∈ [LinkState.down, .starting, .up, .stopping],
      (linkIn state ready).lineReady = true ∧ (linkIn state ready).link.state = state ∧
        (linkIn state ready).events.length ≤ 126 ∧ (linkIn state ready).tx = none) ∧
    (let s := transmitting (.circuit 0) (.seg 2 0 0 [0]) false (some (0, 0)) (withBlock (block .returning) up);
      s.lineReady = true ∧ (s.descriptor 0).state = .returning) ∧
    (transmitting .link (.linkAgree 64 0 0) false none up).tx = some ⟨.link, (.linkAgree 64 0 0), false, none⟩ := by
  decide

/-- Each row of the receiver's table, the buffer at 263 and 264 octets. -/
theorem witness_ReceiverFollowsItsTable :
    ready.lineReady = true ∧ { ready with receiver := Receiver.hunting }.receiver.phase = .hunt ∧
    (ready.receiver.feed [0x01, 0x9B, 0x02]).2 = [] ∧ { ready with lineReady := false }.lineReady = false ∧
    (∀ n ∈ [263, 264], { Receiver.opened with buffer := List.replicate n 0 }.buffer.length = n) ∧
    (∀ phase ∈ [ReceiverPhase.hunt, .collect, .escaped], { Receiver.opened with phase }.phase = phase) := by
  decide

/-- An OPEN with no data and with 16 octets, a SEG with 1 octet and with 256. -/
theorem witness_FramesSurviveTheLine :
    (∀ n ∈ [0, 16], (Frame.openFrame 0 1 64 65535 (List.replicate n 0x9C)).wellFormed = true) ∧
    ∀ n ∈ [1, 256], (Frame.seg 1 255 63 (List.replicate n 0x9B)).wellFormed = true := by
  decide

/-! #### Arrivals -/

/-- A DORMANT record with a queue. -/
def dormant (queue : List DescNo) : CircuitRecord :=
  { inState .dormant .fixed .stopped with send := { SendContext.fresh .stopped false with queue } }

/-- Every link state; max segments 0, 1, 64 and 65; this station's identity and another; a known peer and a new one;
STARTING with a DORMANT fixed circuit. -/
theorem witness_LinkStartArrivalFollowsTheChecks :
    (∀ state : LinkState, Hears (linkIn state ready) ∧ (linkIn state ready).link.state = state) ∧
    ready.link.config.identity = 0 ∧ ready.link.looped = false ∧
    ({ ready with link := { ready.link with looped := true } }.link.looped = true) ∧
    up.link.peerIdentity = some 7 ∧ up.link.peerStart = some 9 ∧
    (let s := holding (dormant [0]) (linkIn .starting ready);
      Hears s ∧ s.link.state = .starting ∧ (s.circuit 0).fixedMaximum = some 6 ∧
        ∀ c, (s.circuit c).state = .dormant → (s.circuit c).send.peerReady = false) ∧
    (1 ≤ (1 : Octet).toNat ∧ (64 : Octet).toNat ≤ 64 ∧ 64 < (65 : Octet).toNat ∧ (0 : Octet).toNat = 0) :=
  ⟨fun state => ⟨hears_linkIn state, rfl⟩, by decide, rfl, rfl, rfl, rfl,
    ⟨⟨rfl, fun h => absurd (show ReceiverPhase.collect = .hunt from h) (by decide)⟩, by decide⟩, by decide⟩

/-- STARTING with a DORMANT fixed circuit, with and without a block queued, and every other link state. -/
theorem witness_LinkAgreeArrivalReachesUp :
    (∀ state : LinkState, Hears (linkIn state ready) ∧ (linkIn state ready).link.state = state) ∧
    (∀ queue ∈ [[], [(0 : DescNo)]],
      let s := holding (dormant queue) (linkIn .starting ready);
      s.link.state = .starting ∧ (s.circuit 0).fixedMaximum = some 6 ∧
        ∀ c, (s.circuit c).state = .dormant → (s.circuit c).send.peerReady = false) :=
  ⟨fun state => ⟨hears_linkIn state, rfl⟩, by decide⟩

/-- A peer with another identity or another start number, 61 events, a fixed circuit in OPEN and REWINDING, a fixed
CLOSED record, and a dialled one that alone holds a block. -/
theorem witness_PeerRestartMovesTheCircuits :
    Hears up ∧ up.link.state = .up ∧ (8 : Word) ≠ up.link.config.identity ∧ up.link.peerIdentity ≠ some 8 ∧
    up.link.peerStart ≠ some 10 ∧ { up with events := List.replicate 61 { kind := .looped } }.events.length ≤ 61 ∧
    (∀ state ∈ [CircuitState.opened, .rewinding],
      ((holding (inState state .fixed .stopped) up).circuit 0).kind = some .fixed ∧
        ((holding (inState state .fixed .stopped) up).circuit 0).fixedMaximum = some 6) ∧
    ((holding (inState .closed .fixed .stopped) up).circuit 0).state = .closed ∧
    (0 ∈ heldBack.send.blocks ∧ heldBack.send.active = none) :=
  ⟨hears_linkIn .up, by decide⟩

theorem witness_LinkStopArrivalFollowsTheLinkState (state : LinkState) :
    Hears (linkIn state ready) ∧ (linkIn state ready).link.state = state := ⟨hears_linkIn state, rfl⟩

/-- Requested 0, 1, 64 and 65 with no holder of the source label; entries of both policies; no entry; no FREE record; a
dialled, a CLOSING and a fixed holder. -/
theorem witness_OpenFrameArrivalMeetsTheListenTable :
    (Hears up ∧ up.link.state = .up ∧ up.peerHolder 2 = none ∧ up.listenEntry 5 = none ∧
      up.lowestFreeCircuit = some 0 ∧ up.scanFreeLabel = some 1) ∧
    (∀ policy : ListenPolicy,
      (fun s : State => s.listenEntry 5 = some (listening 5 policy) ∧ (listening 5 policy).policy = policy)
        { up with listen := up.listen.set 15 (some (listening 5 policy)) }) ∧
    ({ up with circuits := Vector.replicate 64 (inState .closed .dialled .stopped) }.lowestFreeCircuit = none) ∧
    (∀ r ∈ [dialled, inState .closing .dialled .stopped, inState .opened .fixed .idle],
      (holding r up).peerHolder 2 = some 0 ∧ (holding r up).circuit 0 = r) ∧
    (List.replicate 16 (0 : Octet)).length ≤ 16 := by
  refine ⟨⟨hears_linkIn .up, by decide⟩, fun policy => ?_, by decide⟩
  cases policy <;> exact ⟨by decide, rfl⟩

/-- A FREE record claims no peer label. -/
theorem free_claims (stale : Bool) (l : Label) : ¬ (CircuitRecord.free stale).claims l := by
  simp [CircuitRecord.claims, CircuitRecord.free, CircuitState.holdsPeerLabel]

/-- Two records that are not FREE: circuit 0 with its label 1, and circuit 63. -/
def holdingTwo (r q : CircuitRecord) (s : State) : State := { holding r s with circuits := (holding r s).circuits.set 63 q }

theorem holdingTwo_circuit (r q : CircuitRecord) (c : CircuitNo) :
    (holdingTwo r q up).circuit c = if c = 63 then q else if c = 0 then r else CircuitRecord.free false := by
  by_cases h : c = 63
  · subst h
    rfl
  · have h63 : ¬ 63 = c.val := fun e => h (Fin.ext e.symm)
    by_cases h0 : c = 0
    · subst h0
      rfl
    · have hz : ¬ 0 = c.val := fun e => h0 (Fin.ext e.symm)
      simp [holdingTwo, holding, up, linkIn, ready, State.circuit, State.reset, h, h0, h63, hz]

/-- Peer labels are claimed once where one of two records claims none. -/
theorem peers_holdingTwo (r q : CircuitRecord) (h : ∀ l, ¬ r.claims l) : PeersLaw (holdingTwo r q up) := by
  have key : ∀ c l, ((holdingTwo r q up).circuit c).claims l → c = 63 := by
    intro c l hc
    rw [holdingTwo_circuit] at hc
    split at hc
    · assumption
    · split at hc
      · exact absurd hc (h l)
      · exact absurd hc (free_claims false l)
  exact fun c d l hc hd => (key c l hc).trans (key d l hd).symm

/-- A source label that a dialled record holds, in OPEN and in CLOSING, and no other. -/
theorem witness_OpenFrameArrivalMeetsTheListenTable_holder (state : CircuitState) (h : state.holdsPeerLabel = true) :
    let s := holdingTwo (CircuitRecord.free false) (inState state .dialled .stopped) up;
    PeersLaw s ∧ s.circuit 63 = inState state .dialled .stopped ∧ s.peerHolder 2 = some 63 :=
  ⟨peers_holdingTwo _ _ (free_claims false), rfl, by revert h; cases state <;> decide⟩

/-- ACCEPT at an OPENING record with agreed values 0, 1, 4 and 5 of 4, nothing queued, a block queued that fits and one
that does not, no holder of the source label and a fixed one; at another record; at a FREE and a RESTING label; and
REFUSE at both. -/
theorem witness_AcceptAndRefuseArrivalsEndTheOpening :
    (∀ queue ∈ [[], [(0 : DescNo)]], ∀ pages ∈ [[0], [0, 1]],
      let s := holding (opening queue) (withBlock { block .queued with pages } up);
      s.label 1 = .bound 0 false ∧ s.circuit 0 = opening queue ∧ s.peerHolder 2 = none ∧ queue.Nodup ∧
        (s.failing (1 : Octet).toNat queue = [] ↔ queue = [] ∨ pages = [0])) ∧
    (let s := holdingTwo (opening []) (inState .opened .fixed .idle) up;
      s.peerHolder 2 = some 63 ∧ (s.circuit 63).kind = some .fixed) ∧
    ((holding dialled up).circuit 0).state ≠ .opening ∧ up.label 1 = .free ∧
    ({ up with labels := up.labels.set 254 (.resting 1) }.label 255 = .resting 1) ∧
    Reaches (holding (inState .opening .dialled .stopped) up) 1 0 ∧ Reaches (holding dialled up) 1 0 := by
  refine ⟨by decide, by decide, by decide, by decide, by decide,
    reaches_holding _, reaches_holding _⟩

/-- A source label that a dialled record holds, and no other. -/
theorem witness_AcceptAndRefuseArrivalsEndTheOpening_holder :
    let s := holdingTwo (opening []) dialled up;
    s.label 1 = .bound 0 false ∧ s.circuit 0 = opening [] ∧ s.peerHolder 2 = some 63 ∧
      (s.circuit 63).kind = some .dialled ∧ PeersLaw s :=
  ⟨by decide, rfl, by decide, rfl, peers_holdingTwo _ _ (fun l h => by rcases h with ⟨h | h, _⟩ <;> cases h)⟩

/-- CLOSE and CLOSE-DONE at a record of every kind and state the statement names. -/
theorem witness_CloseArrivalsEndTheCircuit (kind : CircuitKind) (state : CircuitState) :
    let r := { inState state kind .stopped with closeRecord := some closeRecord };
    Reaches (holding r up) 1 0 ∧ (holding r up).circuit 0 = r ∧ r.kind = some kind ∧ r.state = state ∧
      r.peerLabel = some 2 ∧ r.peerLabel ≠ some 3 ∧ r.closeRecord = some closeRecord ∧ up.label 1 = .free :=
  ⟨reaches_holding _, rfl, rfl, rfl, rfl, by simp [inState], rfl, by decide⟩

/-- REWIND and REWIND-DONE at OPEN, at REWINDING with its note, and elsewhere. -/
theorem witness_RewindArrivalsResetTheTransfer :
    Reaches (holding dialled up) 1 0 ∧ ((holding dialled up).circuit 0).state = .opened ∧
    (let r := { inState .rewinding .dialled .stopped with
        note := some { cause := 1, originator := .local }, send := SendContext.fresh .stopped false };
      Reaches (holding r up) 1 0 ∧ r.note = some { cause := 1, originator := .local } ∧ r.send.peerReady = false) ∧
    Reaches (holding (inState .closed .dialled .stopped) up) 1 0 :=
  ⟨reaches_holding _, rfl, ⟨reaches_holding _, rfl, rfl⟩, reaches_holding _⟩

/-- A circuit frame of each kind the clauses name: the link DOWN; an OPEN with a destination label and a PROBE with none;
an ACCEPT with source label 0; a PROBE at a CLOSED record; a REFUSE at a FREE and a RESTING label. -/
theorem witness_FramesAreDiscardedAtDispatch :
    (Hears ready ∧ ready.link.state ≠ .up) ∧ Hears up ∧
    (∀ p ∈ [(Instr.probeArrival 0, Frame.probe 0), (.openFrameArrival 1 1 1 1 [], .openFrame 1 1 1 1 []),
        (.acceptArrival 1 0 1, .accept 1 0 1), (.refuseArrival 1 2 0 0, .refuse 1 2 0 0)],
      p.1.frame = some p.2 ∧ p.2.isCircuit = true) ∧
    (Frame.probe 0).destination = 0 ∧ (Frame.accept 1 0 1).askingSource = some 0 ∧
    (let s := holding (inState .closed .dialled .stopped) up;
      Hears s ∧ (Frame.probe 1).isTransfer = true ∧ s.label (Frame.probe 1).destination = .bound 0 false ∧
        (s.circuit 0).state ≠ .opened) ∧
    ((Frame.refuse 1 2 0 0).askingSource = none ∧ up.label (Frame.refuse 1 2 0 0).destination = .free) ∧
    { up with labels := up.labels.set 254 (.resting 1) }.label 255 = .resting 1 :=
  ⟨⟨⟨rfl, fun h => absurd (show ReceiverPhase.collect = .hunt from h) (by decide)⟩, by decide⟩, hears_linkIn .up, by decide,
    rfl, rfl, ⟨hears_holding _, rfl, by decide, by decide⟩, ⟨rfl, by decide⟩, by decide⟩

/-! #### Arrivals of the block transfer -/

/-- A SEG of 1 and of 256 octets at indices 0 and 3 of 4; a previous block; a duplicate; a full window; no FREE
descriptor; a free page; an assembly with the index free, and none. -/
theorem witness_SegArrivalIsStoredOrDropped :
    (Reaches (holding dialled up) 1 0 ∧ Reaches (holding (assembling none) (withBlock (assembly 256) up)) 1 0) ∧
    (dialled.state = .opened ∧ (3 : Octet).toNat < codeOf id dialled.maxSegments ∧ dialled.recv.announced = none ∧
      dialled.recv.assembly = none ∧ dialled.recv.delivered.length < dialled.window) ∧
    ({ dialled with recv := { RecvContext.fresh with lastOutcome := .complete } }.recv.lastOutcome ≠ .none) ∧
    ((assembling none).recv.assembly = some 0 ∧ (∃ y ∈ (assembly 256).slots, y.index = (0 : Octet).toNat) ∧
      ∀ y ∈ (assembly 256).slots, y.index ≠ (1 : Octet).toNat) ∧
    ({ dialled with recv := { RecvContext.fresh with delivered := [0, 1] } }.window ≤ 2) ∧
    (up.lowestFreePage = some 0 ∧ up.lowestFreeDescriptor = some 0 ∧ up.memory.wf = true) ∧
    ({ up with descriptors := Vector.replicate 256 { Descriptor.free with state := .held } }.lowestFreeDescriptor =
      none) := by
  refine ⟨⟨reaches_holding _, ⟨⟨rfl, fun h => absurd (show ReceiverPhase.collect = .hunt from h) (by decide)⟩, rfl,
    by decide, false, rfl⟩⟩, by decide, by decide, by decide, by decide, by decide, by decide⟩

/-- Announced counts of 2 and 3 with segment 0 stored: segment 1 of 256 octets fits both, fills the last slot of the one
and not of the other; a short one fits the first alone; and a count of 1 announced with no assembly. -/
theorem witness_SegArrivalIsStoredOrDropped_announced :
    (∀ n ∈ [2, 3],
      let s := holding (assembling (some n)) (withBlock (assembly 256) up);
      Reaches s 1 0 ∧ (s.circuit 0).recv.announced = some n ∧ (1 : Octet).toNat < n ∧
        s.lowestFreePage = some 1 ∧ s.memory.wf = true) ∧
    (let x : Descriptor := { assembly 256 with
        slots := insertSlot { index := 1, page := 1, octets := 256 } (assembly 256).slots };
      (∀ i, i < 2 → ∃ y ∈ x.slots, y.index = i) ∧ ¬ ∃ y ∈ x.slots, y.index = 2) ∧
    (let r := { dialled with recv := { RecvContext.fresh with announced := some 1 } };
      Reaches (holding r up) 1 0 ∧ r.recv.assembly = none ∧ (0 : Octet).toNat < 1 ∧ ¬ (0 : Octet).toNat + 1 < 1) := by
  refine ⟨?_, by decide, reaches_holding _, by decide⟩
  simp only [List.forall_mem_cons, List.not_mem_nil, false_implies, implies_true, and_true]
  refine ⟨⟨⟨⟨rfl, ?_⟩, rfl, by decide, false, rfl⟩, by decide⟩, ⟨⟨⟨rfl, ?_⟩, rfl, by decide, false, rfl⟩, by decide⟩⟩ <;>
    exact fun h => absurd (show ReceiverPhase.collect = .hunt from h) (by decide)

/-- A page in descriptor 0's list is not free. -/
theorem pageFree_withBlock (x : Descriptor) (s : State) (p : Nat) (hp : p ∈ x.pages) :
    ¬ ((withBlock x s).pageFree p = true) := by
  have hm : p ∈ (withBlock x s).heldPages :=
    List.mem_flatMap.mpr ⟨x, by simp only [withBlock, Vector.mem_toList_iff]; exact Vector.mem_set .., List.mem_append_left _ hp⟩
  simp [State.pageFree, hm]

/-- A pool with no free page: one descriptor holds them all. -/
theorem witness_SegArrivalIsStoredOrDropped_no_page (s : State) (x : Descriptor)
    (h : ∀ p ∈ List.range Config.pageCount, p ∈ x.pages) : (withBlock x s).lowestFreePage = none :=
  List.find?_eq_none.mpr (fun p hp => pageFree_withBlock x s p (h p hp))

/-- An index at max segments; a block two behind and one behind before any was decided; an announced count at and above
the index; a short segment below the count; counts 0 and above max segments. -/
theorem witness_ProtocolErrorBeginsARewind :
    (Reaches (holding dialled up) 1 0 ∧ dialled.state = .opened ∧ codeOf id dialled.maxSegments = 4 ∧
      dialled.recv.expected = 0 ∧ dialled.recv.lastOutcome = .none) ∧
    ((254 : BlockNumber) ≠ dialled.recv.expected ∧ (254 : BlockNumber) ≠ dialled.recv.expected - 1) ∧
    (255 : BlockNumber) = dialled.recv.expected - 1 ∧
    (Reaches (holding (assembling (some 2)) (withBlock (assembly 255) up)) 1 0 ∧
      (assembling (some 2)).recv.announced = some 2 ∧ 2 ≤ (2 : Octet).toNat ∧ (0 : Octet).toNat + 1 < 2 ∧
      (holding (assembling (some 2)) (withBlock (assembly 255) up)).assemblySlots 0 = (assembly 255).slots ∧
      (2 : Nat) ≠ 3) := by
  refine ⟨⟨reaches_holding _, by decide⟩, by decide, by decide, ⟨⟨⟨rfl, fun h =>
    absurd (show ReceiverPhase.collect = .hunt from h) (by decide)⟩, rfl, by decide, false, rfl⟩, by decide⟩⟩

/-- The last missing segment held, a count of 1 and of 4, and a segment missing. -/
theorem witness_BlockEndArrivalCompletesOrReports :
    Reaches (holding (assembling (some 1)) (withBlock (assembly 256) up)) 1 0 ∧
    (1 ≤ (1 : Octet).toNat ∧ (4 : Octet).toNat ≤ codeOf id (assembling (some 1)).maxSegments) ∧
    (assembling (some 1)).recv.assembly = some 0 ∧
    (∀ y ∈ (assembly 256).slots, y.index < 1 ∧ (y.index + 1 < 1 → y.octets = 256)) ∧
    (∀ i, i < 1 → ∃ y ∈ (assembly 256).slots, y.index = i) ∧
    (holding dialled up).assemblySlots 0 = [] ∧
    { dialled with recv := { RecvContext.fresh with lastOutcome := .abandoned } }.recv.lastOutcome ≠ .none := by
  refine ⟨⟨⟨rfl, fun h => absurd (show ReceiverPhase.collect = .hunt from h) (by decide)⟩, rfl, by decide, false, rfl⟩,
    by decide, by decide, by decide, fun i hi => ⟨_, List.mem_cons_self, ?_⟩, by decide, by decide⟩
  exact (Nat.lt_one_iff.mp hi).symm

theorem witness_BlockAbandonArrivalDiscardsTheAssembly :
    Reaches (holding (assembling none) up) 1 0 ∧ (assembling none).state = .opened ∧
    (assembling none).recv.assembly = some 0 ∧
    { dialled with recv := { RecvContext.fresh with lastOutcome := .complete } }.recv.lastOutcome ≠ .none :=
  ⟨reaches_holding _, by decide⟩

theorem witness_ProbeArrivalOwesReady : Reaches (holding dialled up) 1 0 ∧ dialled.state = .opened :=
  ⟨reaches_holding _, rfl⟩

/-- The active block in both states that take a status; maps 0, one that names index 0, one beyond the count and one
already acknowledged; rounds at 3 and 4 of a limit of 4; nothing and something queued, the peer ready and not. -/
theorem witness_BlockStatusArrivalDecidesTheBlock (sender : SenderState) :
    let r := sending sender 3;
    let next := { r with send := { r.send with queue := [1] } };
    Reaches (holding r up) 1 0 ∧ r.state = .opened ∧
    r.send.active = some { desc := 0, number := 0, count := 2, acked := 0, toSend := 3, round := 3 } ∧ 3 < r.roundLimit ∧
    ((1 : SegSet) ≠ 0 ∧ ∀ i, (1 : SegSet).getLsbD i = true → i < 2 ∧ (0 : SegSet).getLsbD i = false) ∧
    ¬ (∀ i, (4 : SegSet).getLsbD i = true → i < 2) ∧ r.send.queue = [] ∧ Reaches (holding next up) 1 0 ∧
    next.send.queue.Nodup ∧ (0 : DescNo) ∉ next.send.queue ∧
    { up with descriptors := up.descriptors.set 1 { block .queued with pages := [0, 1, 2, 3, 4] } }.failing 4 [1] = [1] := by
  refine ⟨reaches_holding _, rfl, rfl, Nat.lt_succ_self 3, ⟨by decide, fun i hi => ?_⟩, fun h => ?_, rfl, reaches_holding _,
    show [(1 : DescNo)].Nodup by decide, show (0 : DescNo) ∉ [1] by decide, by decide⟩
  · rcases i with _ | i
    · decide
    · have h0 : (1 : SegSet).getLsbD (i + 1) = false := by simp
      rw [h0] at hi
      cases hi
  · exact absurd (h 2 (by decide)) (by decide)

/-- A status in IDLE and in SENDING, and one for number 255 in POLLING and ABANDONING, where block 0 is active. -/
theorem witness_BlockStatusArrivalDecidesTheBlock_discards :
    Reaches (holding dialled up) 1 0 ∧ dialled.state = .opened ∧ dialled.send.sender = .idle ∧
    ∀ sender : SenderState, Reaches (holding (sending sender 1) up) 1 0 ∧ (sending sender 1).state = .opened ∧
      (sending sender 1).send.sender = sender ∧ ∀ a, (sending sender 1).send.active = some a → a.number ≠ 255 :=
  ⟨reaches_holding _, rfl, rfl, fun _ => ⟨reaches_holding _, rfl, rfl, fun _ h => by cases h; decide⟩⟩

/-- The round count at the round limit, under each policy. -/
theorem witness_GiveUpAppliesThePolicy (policy : Policy) :
    let r := { sending .polling 4 with policy := some policy };
    Reaches (holding r up) 1 0 ∧ r.state = .opened ∧ r.send.sender = .polling ∧
    r.send.active = some { desc := 0, number := 0, count := 2, acked := 0, toSend := 3, round := 4 } ∧ r.roundLimit ≤ 4 ∧
    r.policy = some policy ∧ (2 : SegSet) ≠ 0 ∧ (2 : SegSet).getLsbD 1 = true :=
  ⟨reaches_holding _, rfl, rfl, rfl, Nat.le_refl 4, rfl, by decide, by decide⟩

/-- Every sender state; HELD with a PROBE pending, in transmission and neither; the last block sent. -/
theorem witness_ReadyArrivalStartsTheHeadBlock :
    (∀ sender : SenderState, Reaches (holding (sending sender 1) up) 1 0 ∧ (sending sender 1).send.sender = sender) ∧
    (Reaches (holding heldBack up) 1 0 ∧ heldBack.send.queue = 0 :: [] ∧ heldBack.transfer ≠ some .probe ∧
      up.tx = none ∧ ((holding heldBack up).descriptor 0).pages.length ≤ codeOf id heldBack.maxSegments ∧
      heldBack.send.lastSent = some (255, 4) ∧ heldBack.send.queue.Nodup) ∧
    { heldBack with transfer := some .probe }.transfer = some .probe ∧
    (transmitting (.circuit 0) (.probe 2) false none (holding heldBack up)).tx =
      some { owner := .circuit 0, frame := .probe 2, detached := false, pin := none } :=
  ⟨fun _ => ⟨reaches_holding _, rfl⟩, ⟨reaches_holding _, rfl, by decide, rfl, by decide, rfl, by decide⟩, rfl, rfl⟩

/-! #### Expiries -/

/-- Each exchange timer in its state, the retry counts at and below their limits of 2, and no timer. -/
theorem witness_ExchangeTimersExpire :
    (let r := timed .openT 0 (inState .opening .dialled .stopped);
      r.timer = some ⟨.openT, 0⟩ ∧ r.state = .opening) ∧
    (let r := timed .offer 0 offered;
      r.timer = some ⟨.offer, 0⟩ ∧ r.state = .offered ∧ r.peerLabel = some 2 ∧ r.localLabel ≠ 0) ∧
    (∀ n ∈ [1, 2],
      let r := timed .close 0 { inState .closing .dialled .stopped with retryCount := n, closeRecord := some closeRecord };
      r.timer = some ⟨.close, 0⟩ ∧ r.state = .closing ∧ r.closeRecord = some closeRecord ∧
        (r.retryCount < up.link.config.closeRetries ↔ n = 1)) ∧
    (∀ n ∈ [1, 2], ∀ kind ∈ [CircuitKind.dialled, .fixed],
      let r := timed .rewind 0 { inState .rewinding kind .stopped with retryCount := n };
      r.timer = some ⟨.rewind, 0⟩ ∧ r.state = .rewinding ∧ r.kind = some kind ∧
        (r.retryCount < up.link.config.rewindRetries ↔ n = 1)) ∧
    dialled.timer = none ∧ up.events.length ≤ 126 := by
  decide

/-- The poll count at and below the limit of 3, dialled and fixed, in the three states that poll. -/
theorem witness_PollTimersResendOrGiveUp :
    ∀ n ∈ [2, 3], ∀ kind ∈ [CircuitKind.dialled, .fixed], ∀ sender ∈ [SenderState.polling, .abandoning, .held],
      let r := timed (if sender = .held then .probe else .status) 0
        { sending sender 1 with kind := some kind, send := { (sending sender 1).send with pollCount := n } };
      ((holding r up).circuit 0).state = .opened ∧ r.send.sender = sender ∧ r.kind = some kind ∧
        (r.send.pollCount < up.link.config.pollLimit ↔ n = 2) ∧
        r.timer = some ⟨if sender = .held then .probe else .status, 0⟩ := by
  decide

theorem witness_LinkTimersAndRestTimesExpire :
    (∀ purpose ∈ [LinkPurpose.start, .stop],
      { ready.link with timer := some ⟨purpose, 0⟩ }.timer = some ⟨purpose, 0⟩) ∧
    (linkIn .starting ready).link.state = .starting ∧ (linkIn .stopping ready).link.state = .stopping ∧
    (255 : Label) ≠ 0 ∧ { up with labels := up.labels.set 254 (.resting 1) }.label 255 = .resting 1 := by
  decide

/-! #### Transmission -/

/-- Each stage alone: a pending link frame; a loose reply; each class at the circuit next in turn and at the position
itself; a segment to send at index 0 of page 0; and nothing. -/
theorem witness_SchedulerServesItsStagesInOrder :
    (∀ k ∈ [(0 : CircuitNo), 63],
      let r := { dialled with protocol := some .accept, answer := some .ready, transfer := some .probe };
      let s := { up with circuits := up.circuits.set k.val r };
      s.tx = none ∧ s.link.state = .up ∧ s.link.pending = none ∧ s.loose = [] ∧ k = s.controlPos + 1 + k ∧
        s.circuit k = r ∧ ∀ j, j < k → (s.circuit (s.controlPos + 1 + j)).protocol = none) ∧
    (let s := holding (sending .sending 1) (withBlock (block .active) up);
      (s.circuit 0).send.sender = .sending ∧ (3 : SegSet).getLsbD 0 = true ∧ (s.descriptor 0).pages[0]? = some 0 ∧
        ∀ c, (s.circuit c).protocol = none ∧ (s.circuit c).answer = none ∧ (s.circuit c).transfer = none) ∧
    (ready.tx = none ∧ ready.link.pending = none ∧ ready.link.state ≠ .up) ∧
    (∀ c, (up.circuit c).protocol = none ∧ (up.circuit c).send.sender = .stopped) ∧
    { up with link := { up.link with pending := some .linkAgree } }.link.pending = some .linkAgree ∧
    { up with loose := [{ body := .closeDone, dst := 1, src := 1 }] }.loose ≠ [] := by
  decide

/-- A record that owes each frame, with announced counts 1 and 64 and none. -/
theorem witness_FramesAreBuiltFromTheirOwners :
    (∀ announced ∈ [none, some 1, some 64],
      let r := { sending .polling 1 with
        openRequest := some { requested := 64, data := [] }, closeRecord := some closeRecord
        note := some { cause := 1, originator := .local }
        recv := { RecvContext.fresh with announced, lastOutcome := .complete } };
      ((holding r up).circuit 0).peerLabel = some 2 ∧ r.maxSegments = some 4 ∧ r.closeRecord = some closeRecord ∧
        r.recv.announced = announced ∧ r.recv.lastOutcome = .complete ∧ r.send.active.isSome = true) := by
  decide

/-- Frames of every owner; a SEG, detached or not, whose descriptor is ACTIVE and RETURNING, at a sender that hears of it
and at one that does not; the last segment and another; the last BLOCK-END, BLOCK-ABANDON and PROBE in the states that
hear of them; a frame of another kind; the answering LINK-STOP and one with a link frame pending. -/
theorem witness_TransmissionEndReportsToTheOwner :
    (∀ detached : Bool, ∀ state ∈ [DescState.active, .returning],
      let s := transmitting (.circuit 0) (.seg 2 0 0 [0]) detached (some (0, 0))
        (holding (sending .sending 1) (withBlock (block state) up));
      s.tx = some { owner := .circuit 0, frame := .seg 2 0 0 [0], detached, pin := some (0, 0) } ∧
        (s.descriptor 0).state = state ∧ (s.circuit 0).send.sender = .sending ∧ (3 : SegSet).getLsbD 0 = true) ∧
    ((3 : SegSet) &&& ~~~(BitVec.ofNat 64 (2 ^ 0)) ≠ 0 ∧ (1 : SegSet) &&& ~~~(BitVec.ofNat 64 (2 ^ 0)) = 0) ∧
    (let s := transmitting .link (.linkStop 0) false none (linkIn .stopping
        { ready with link := { ready.link with stopKind := some .answering } });
      s.link.state = .stopping ∧ s.link.stopKind = some .answering ∧ s.link.pending = none) ∧
    (∀ sender ∈ [SenderState.polling, .abandoning, .held],
      (transmitting (.circuit 0) (.blockEnd 2 0 2) false none (holding (sending sender 1) up)).tx =
        some { owner := .circuit 0, frame := .blockEnd 2 0 2, detached := false, pin := none } ∧
      ((holding (sending sender 1) up).circuit 0).send.sender = sender) ∧
    (let s := transmitting (.circuit 0) (.seg 2 0 0 [0]) false (some (0, 0)) (holding dialled (withBlock (block .returning) up));
      (s.circuit 0).send.sender ≠ .sending ∧ (s.descriptor 0).state = .returning) ∧
    (transmitting (.circuit 0) (.accept 2 1 4) false none (holding dialled up)).tx =
      some { owner := .circuit 0, frame := .accept 2 1 4, detached := false, pin := none } ∧
    { up with link := { up.link with pending := some (.linkStop 0) } }.link.pending ≠ none ∧
    (transmitting .loose (.closeDone 2 1) false none up).tx =
      some { owner := .loose, frame := .closeDone 2 1, detached := false, pin := none } := by
  decide

/-! #### The laws, in a state with a circuit in use -/

theorem holding_circuit (c : CircuitNo) (h : c ≠ 0) : (holding dialled up).circuit c = CircuitRecord.free false := by
  have h0 : ¬ 0 = c.val := fun e => h (Fin.ext e.symm)
  simp [holding, up, linkIn, ready, State.circuit, State.reset, h0]

theorem witness_BoundsAreKept :
    BoundsLaw (holding dialled up) ∧ ∃ t, step (holding dialled up) = .next t :=
  ⟨⟨rfl, by decide, by decide, by decide, by decide⟩, _, rfl⟩

theorem record_dialled : RecordLaw dialled := by
  constructor <;> simp [dialled, inState, SendContext.fresh, CircuitRecord.free, CircuitState.holdsPeerLabel]

theorem record_free (stale : Bool) : RecordLaw (CircuitRecord.free stale) := by
  constructor <;> simp [SendContext.fresh, CircuitRecord.free, CircuitState.holdsPeerLabel]

theorem witness_RecordsAndLinkAreKept :
    RecordsLaw (holding dialled up) ∧ LinkLaw (holding dialled up) ∧ ∃ t, step (holding dialled up) = .next t := by
  refine ⟨fun c => ?_, fun c => ?_, _, rfl⟩
  · by_cases h : c = 0
    · subst h
      exact record_dialled
    · rw [holding_circuit c h]
      exact record_free false
  · by_cases h : c = 0
    · subst h
      exact ⟨fun hn => absurd rfl hn, fun _ => by decide⟩
    · rw [holding_circuit c h]
      exact ⟨fun _ => rfl, fun _ => by decide⟩

theorem witness_PagesAreKept :
    PagesLaw (withBlock (block .held) ready) ∧ ∃ t, step (withBlock (block .held) ready) = .next t :=
  ⟨⟨by decide, by decide⟩, _, rfl⟩

theorem witness_LabelsAreKept : LabelsLaw (holding dialled up) ∧ ∃ t, step (holding dialled up) = .next t := by
  refine ⟨⟨fun c hc => ?_, fun l c fixed hl h => ?_⟩, _, rfl⟩
  · by_cases h : c = 0
    · subst h
      exact ⟨by decide, by decide⟩
    · exact absurd (by rw [holding_circuit c h]; rfl) hc
  · have hx : (holding dialled up).label l = if 0 = (labelIndex l).val then .bound 0 false else .free := by
      simp only [holding, State.label, Vector.getElem_set]
      split
      · rfl
      · simp [up, linkIn, ready, State.reset]
    rw [hx] at h
    split at h
    · next h1 =>
      injection h with h2 _
      subst h2
      have hv : l.toNat = 1 := by
        have hn : l.toNat ≠ 0 := fun e => hl (BitVec.eq_of_toNat_eq e)
        have : l.toNat - 1 = 0 := h1.symm
        omega
      exact ⟨by decide, BitVec.eq_of_toNat_eq hv.symm⟩
    · cases h

theorem witness_HoldingsAreKept : HoldingsLaw (holding dialled up) ∧ ∃ t, step (holding dialled up) = .next t := by
  refine ⟨⟨fun c => ?_, fun c => ?_, fun c => ?_, fun k e h => ?_, fun c hc => ?_⟩, _, rfl⟩
  · by_cases h : c = 0
    · subst h
      decide
    · rw [holding_circuit c h]
      decide
  · by_cases h : c = 0
    · subst h
      decide
    · rw [holding_circuit c h]
      decide
  · by_cases h : c = 0
    · subst h
      decide
    · rw [holding_circuit c h]
      decide
  · simp [holding, up, linkIn, ready, State.reset] at h
  · by_cases h : c = 0
    · subst h
      exact absurd hc (by decide)
    · rw [holding_circuit c h] at hc
      exact absurd hc (by decide)

/-- A block queued on circuit 0, which is HELD. -/
def queuedBlock : Descriptor := { block .queued with circuit := some 0, tag := some 7 }

theorem queued_circuit (c : CircuitNo) :
    (holding heldBack (withBlock queuedBlock up)).circuit c = if c = 0 then heldBack else CircuitRecord.free false := by
  by_cases h : c = 0
  · subst h
    rfl
  · have h0 : ¬ 0 = c.val := fun e => h (Fin.ext e.symm)
    simp [holding, withBlock, up, linkIn, ready, State.circuit, State.reset, h, h0]

theorem queued_descriptor (d : DescNo) :
    (holding heldBack (withBlock queuedBlock up)).descriptor d = if d = 0 then queuedBlock else Descriptor.free := by
  by_cases h : d = 0
  · subst h
    rfl
  · have h0 : ¬ 0 = d.val := fun e => h (Fin.ext e.symm)
    simp [holding, withBlock, up, linkIn, ready, State.descriptor, State.reset, h, h0]

theorem record_heldBack : RecordLaw heldBack := by
  constructor <;> simp [heldBack, dialled, inState, SendContext.fresh, CircuitRecord.free, CircuitState.holdsPeerLabel]

/-- A queued block and its circuit agree. -/
theorem collections_queued : CollectionsLaw (holding heldBack (withBlock queuedBlock up)) := by
  constructor
  case pinned => intro d h; cases h
  case pinner => intro x h; cases h
  case queued =>
    intro c d hd
    rw [queued_circuit] at hd
    split at hd
    · next h =>
      have : d = 0 := by simpa [heldBack] using hd
      rw [queued_descriptor, this, h]
      exact ⟨rfl, rfl⟩
    · cases hd
  case ofQueued =>
    intro d hd
    rw [queued_descriptor] at hd ⊢
    split at hd
    · next h => exact ⟨0, by rw [if_pos h]; rfl, by rw [queued_circuit, h]; exact List.mem_cons_self⟩
    · cases hd
  all_goals simp only [queued_circuit, queued_descriptor]
  all_goals intro c
  all_goals by_cases h : c = 0
  all_goals simp [h, heldBack, queuedBlock, block, dialled, inState, Descriptor.free, CircuitRecord.free, SendContext.fresh,
    RecvContext.fresh, SendContext.blocks]

theorem witness_CollectionsAreKept :
    RecordsLaw (holding heldBack (withBlock queuedBlock up)) ∧ CollectionsLaw (holding heldBack (withBlock queuedBlock up)) ∧
    ∃ t, step (holding heldBack (withBlock queuedBlock up)) = .next t := by
  refine ⟨fun c => ?_, collections_queued, _, rfl⟩
  rw [queued_circuit]
  split
  · exact record_heldBack
  · exact record_free false

theorem witness_PeerLabelsAndListenEntriesAreKept :
    RecordsLaw (holdingTwo dialled dialled up) ∧ LinkLaw (holdingTwo (CircuitRecord.free false) dialled up) ∧
    PeersLaw (holdingTwo (CircuitRecord.free false) dialled up) ∧ ListenLaw up ∧
    ∃ t, step (holdingTwo (CircuitRecord.free false) dialled up) = .next t := by
  refine ⟨fun c => ?_, fun c => ?_, peers_holdingTwo _ _ (free_claims false), fun j k e f h _ _ => ?_, _, rfl⟩
  · rw [holdingTwo_circuit]
    split
    · exact record_dialled
    · split
      · exact record_dialled
      · exact record_free false
  · refine ⟨fun h => absurd rfl h, fun _ => ?_⟩
    rw [holdingTwo_circuit]
    split
    · decide
    · split <;> decide
  · simp [up, linkIn, ready, State.reset] at h

end Sys2Proof.Tests
end

/-! PROOFS. The law of one record (R3, R4, R7, R9, R11, R12, R25, R141): which updates of a single field keep it, and
that every move of a record from one circuit state to another ends in a lawful record. -/

namespace Sys2Proof.Machine

/-! ### One field updated -/

/-- A send context as an OPEN circuit holds it (R25). -/
structure SendContext.Running (x : SendContext) : Prop where
  sender : x.sender ≠ .stopped
  active : x.active.isSome = true ↔ x.sender = .sending ∨ x.sender = .polling ∨ x.sender = .abandoning
  idle   : x.sender = .idle → x.queue = []
  held   : x.sender = .held → x.queue ≠ []

section
variable {r : CircuitRecord}

theorem RecordLaw.withStale (h : RecordLaw r) (stale : Bool) : RecordLaw { r with stale } := { h with }

theorem RecordLaw.withLabel (h : RecordLaw r) (localLabel : Label) : RecordLaw { r with localLabel } := { h with }

theorem RecordLaw.withRecv (h : RecordLaw r) (recv : RecvContext) : RecordLaw { r with recv } := { h with }

theorem RecordLaw.withMaxSegments (h : RecordLaw r) (maxSegments : Option Nat) : RecordLaw { r with maxSegments } :=
  { h with }

theorem RecordLaw.withRetryCount (h : RecordLaw r) (retryCount : Nat) : RecordLaw { r with retryCount } := { h with }

/-- A circuit's limits are lawful where a fixed circuit is not given the policy CLOSE (R6). -/
theorem RecordLaw.withLimits (h : RecordLaw r) (roundLimit window : Nat) {policy : Option Policy}
    (hp : r.kind = some .fixed → policy ≠ some .close) : RecordLaw { r with roundLimit, policy, window } :=
  { h with policy := hp }

theorem RecordLaw.withTimer (h : RecordLaw r) {timer : Option CircuitTimer}
    (ht : ∀ t, timer = some t → r.state.mayRun t.purpose = true) : RecordLaw { r with timer } := { h with timer := ht }

theorem RecordLaw.withoutTimer (h : RecordLaw r) : RecordLaw { r with timer := none } := h.withTimer (by simp)

theorem RecordLaw.withProtocol (h : RecordLaw r) {protocol : Option ProtocolKind} (ho : protocol ≠ some .openK)
    (hr : protocol ≠ some .refuse) : RecordLaw { r with protocol } :=
  { h with pendingOpen := fun k => absurd k ho, pendingRefuse := hr }

theorem RecordLaw.withTransfer (h : RecordLaw r) {transfer : Option TransferKind}
    (ht : r.state ≠ .opened → transfer = none) : RecordLaw { r with transfer } := { h with transfer := ht }

theorem RecordLaw.withAnswer (h : RecordLaw r) {answer : Option AnswerKind}
    (ha : r.state ≠ .opened → answer = none) : RecordLaw { r with answer } := { h with answer := ha }

/-- An OPEN record takes any send context that runs (R25). -/
theorem RecordLaw.withSend (h : RecordLaw r) (ho : r.state = .opened) {send : SendContext} (hx : send.Running) :
    RecordLaw { r with send } :=
  { h with
    sender := ⟨fun k => absurd k hx.sender, fun k => absurd ho k⟩
    active := hx.active
    idle := hx.idle
    held := hx.held
    peerReady := fun k => by rcases k with k | k <;> exact absurd (ho.symm.trans k) (by decide) }

/-- A STOPPED send side takes any queue (R26, R27). -/
theorem RecordLaw.withQueue (h : RecordLaw r) (hs : r.send.sender ≠ .idle) {queue : List DescNo} (hq : queue ≠ []) :
    RecordLaw { r with send := { r.send with queue } } :=
  { h with idle := fun k => absurd k hs, held := fun _ => hq }

theorem RecordLaw.kind_ne_none (h : RecordLaw r) (hf : r.state ≠ .free) : r.kind ≠ none := fun k => hf (h.kind.1 k)

/-- A record in use that is not fixed is dialled (R3). -/
theorem RecordLaw.dialled_of_not_fixed (h : RecordLaw r) (hf : r.state ≠ .free) (hk : r.kind ≠ some .fixed) :
    r.kind = some .dialled := by
  cases hq : r.kind with
  | none => exact absurd hq (h.kind_ne_none hf)
  | some k =>
    cases k with
    | dialled => rfl
    | fixed => exact absurd hq hk

/-- The send context of an OPEN record runs (R25). -/
theorem RecordLaw.running (h : RecordLaw r) (ho : r.state = .opened) : r.send.Running where
  sender k := h.sender.1 k ho
  active   := h.active
  idle     := h.idle
  held     := h.held

/-- A sender that is not STOPPED is an OPEN circuit's (R25). -/
theorem RecordLaw.opened_of_sender (h : RecordLaw r) (hs : r.send.sender ≠ .stopped) : r.state = .opened :=
  Classical.byContradiction fun k => hs (h.sender.2 k)

/-- No block is active outside OPEN (R25). -/
theorem RecordLaw.no_active (h : RecordLaw r) (ho : r.state ≠ .opened) : r.send.active = none := by
  have hs := h.sender.2 ho
  cases ha : r.send.active with
  | none => rfl
  | some a =>
    have := h.active.1 (by rw [ha]; rfl)
    simp [hs] at this

/-- A record outside OPENING holds no open request (R7). -/
theorem RecordLaw.no_openRequest (h : RecordLaw r) (hs : r.state ≠ .opening) : r.openRequest = none := by
  have := h.openRequest
  simpa [hs] using this

/-- A record outside CLOSING and CLOSED holds no close record (R9). -/
theorem RecordLaw.no_closeRecord (h : RecordLaw r) (hs : r.state ≠ .closing ∧ r.state ≠ .closed) :
    r.closeRecord = none := by
  have := h.closeRecord
  simpa [hs] using this

end

/-! ### New records -/

theorem law_free (stale : Bool) : RecordLaw (CircuitRecord.free stale) := by
  constructor <;> simp [CircuitRecord.free, SendContext.fresh, CircuitState.holdsPeerLabel]

theorem law_openingRecord (service : Word) (limits : Limits) (terms : OpenTerms) (openTimer : Nat) :
    RecordLaw (openingRecord service limits terms openTimer) := by
  constructor <;> simp [openingRecord, CircuitRecord.free, SendContext.fresh, CircuitState.holdsPeerLabel,
    CircuitState.mayRun]

theorem law_autoRecord (x : OpenFields) (e : ListenEntry) (agreed : Nat) : RecordLaw (autoRecord x e agreed) := by
  constructor <;> simp [autoRecord, CircuitRecord.free, SendContext.fresh]

theorem law_offeredRecord (x : OpenFields) (e : ListenEntry) (offerTimer : Nat) :
    RecordLaw (offeredRecord x e offerTimer) := by
  constructor <;> simp [offeredRecord, CircuitRecord.free, SendContext.fresh, CircuitState.mayRun]

theorem law_fixedRecord (l peer : Label) (service : Word) {limits : Limits} (maximum : Nat) (stale : Bool)
    (hp : limits.policy ≠ .close) : RecordLaw (fixedRecord l peer service limits maximum stale) := by
  constructor <;> simp [fixedRecord, CircuitRecord.free, SendContext.fresh, hp]

/-! ### Moves of a record -/

section
variable {r : CircuitRecord}

/-- A record in use that enters CLOSED (R9, R12). -/
theorem RecordLaw.closed (h : RecordLaw r) (hf : r.state ≠ .free) (cause diagnostic : Octet) (originator : Originator)
    (confirmed : Bool) {owed : Option ProtocolKind} (ho : owed ≠ some .openK) (hr : owed ≠ some .refuse) :
    RecordLaw (closedRecord r cause diagnostic originator confirmed owed) := by
  have hk := h.kind_ne_none hf
  constructor <;> simp [closedRecord, SendContext.closed, CircuitState.holdsPeerLabel, hk, ho, hr]
  case policy => exact h.policy

/-- A CLOSING record that enters CLOSED (R10). -/
theorem RecordLaw.closedFromClosing (h : RecordLaw r) (hs : r.state = .closing) (confirmed : Bool)
    {owed : Option ProtocolKind} (ho : owed ≠ some .openK) (hr : owed ≠ some .refuse) :
    RecordLaw (closedFromClosing r confirmed owed) := by
  have hk := h.dialled (by simp [hs])
  have hq := h.no_openRequest (by simp [hs])
  have hc := h.closeRecord.2 (.inl hs)
  have hsend := h.sender.2 (by simp [hs])
  have ha := h.no_active (by simp [hs])
  constructor <;>
    simp [Machine.closedFromClosing, CircuitState.holdsPeerLabel, hk, hq, hc, hsend, ha, ho, hr]

/-- A dialled record with a peer label that enters CLOSING, whatever its send context (R135). -/
theorem RecordLaw.closing {x : SendContext} (h : RecordLaw { r with send := x }) (hk : r.kind = some .dialled)
    (hs : r.state = .opened ∨ r.state = .rewinding) (cause diagnostic : Octet) (originator : Originator)
    (closeTimer : Nat) : RecordLaw (closingRecord r cause diagnostic originator closeTimer) := by
  have hl : r.peerLabel.isSome = true := h.peerPresent (.inl (by rcases hs with hs | hs <;> simp only [hs] <;> rfl))
  have hq : r.openRequest = none := h.no_openRequest (by rcases hs with hs | hs <;> simp [hs])
  constructor <;> simp [closingRecord, SendContext.closed, CircuitState.mayRun, hk, hl, hq]

/-- An OPEN record that enters REWINDING, whatever its send context (R143). -/
theorem RecordLaw.rewinding {x : SendContext} (h : RecordLaw { r with send := x }) (hs : r.state = .opened)
    (cause : Octet) (originator : Originator) (rewindTimer : Nat) :
    RecordLaw (rewindingRecord r cause originator rewindTimer) := by
  have hk : r.kind ≠ none := h.kind_ne_none (by simp [hs])
  have hl : r.peerLabel.isSome = true := h.peerPresent (.inl (by simp only [hs]; rfl))
  have hq : r.openRequest = none := h.no_openRequest (by simp [hs])
  have hc : r.closeRecord = none := h.no_closeRecord (by simp [hs])
  constructor <;> simp [rewindingRecord, SendContext.rewound, CircuitState.mayRun, hk, hl, hq, hc]
  case policy => exact h.policy

/-- A fixed circuit that enters DORMANT (R160). -/
theorem RecordLaw.dormantRecord (h : RecordLaw r) (hk : r.kind = some .fixed)
    (hs : r.state = .opened ∨ r.state = .rewinding) : RecordLaw (dormantRecord r) := by
  have hp := h.policy hk
  have hl := h.peerPresent (.inl (by rcases hs with hs | hs <;> rw [hs] <;> rfl))
  have hq := h.no_openRequest (by rcases hs with hs | hs <;> simp [hs])
  have hc := h.no_closeRecord (by rcases hs with hs | hs <;> simp [hs])
  constructor <;> simp [Machine.dormantRecord, SendContext.rewound, hk, hp, hl, hq, hc]

end

end Sys2Proof.Machine

/-! PROOFS. Records that enter OPEN or DORMANT, and what the start decision leaves (R12, R25, R29, R30). -/

namespace Sys2Proof.Machine

section
variable {r : CircuitRecord}

/-- A send context with no active block runs once it is resumed (R29, R49). -/
theorem SendContext.resumed_running {x : SendContext} (ha : x.active = none) : x.resumed.Running := by
  unfold SendContext.resumed
  split
  · next hq => constructor <;> simp [ha, hq]
  · next hq => constructor <;> simp [ha, hq]

/-- A record that enters OPEN with a peer label and a send context that runs (R12, R25). -/
theorem RecordLaw.enterOpened (h : RecordLaw r) (hs : r.state ≠ .free ∧ r.state ≠ .closing ∧ r.state ≠ .closed)
    {peerLabel : Option Label} (hl : peerLabel.isSome = true) (maxSegments : Option Nat) (roundLimit : Nat)
    {policy : Option Policy} (hp : r.kind = some .fixed → policy ≠ some .close) (window : Nat)
    {openRequest : Option OpenTerms} (hq : openRequest = none) {protocol : Option ProtocolKind}
    (ho : protocol ≠ some .openK) (hr : protocol ≠ some .refuse) {send : SendContext} (hx : send.Running) :
    RecordLaw { r.enter .opened with
      peerLabel, maxSegments, roundLimit, policy, window, openRequest, protocol, send } := by
  have hk : r.kind ≠ none := h.kind_ne_none hs.1
  have hc : r.closeRecord = none := h.no_closeRecord hs.2
  exact {
    kind := by simp [CircuitRecord.enter, hk]
    dialled := by simp [CircuitRecord.enter]
    dormant := by simp [CircuitRecord.enter]
    policy := hp
    peerAbsent := by simp [CircuitRecord.enter]
    peerPresent := fun _ => hl
    openRequest := by simp [CircuitRecord.enter, hq]
    closeRecord := by simp [CircuitRecord.enter, hc]
    note := by simp [CircuitRecord.enter]
    timer := by simp [CircuitRecord.enter]
    transfer := by simp [CircuitRecord.enter]
    answer := by simp [CircuitRecord.enter]
    sender := by simp [CircuitRecord.enter, hx.sender]
    active := hx.active
    idle := hx.idle
    held := hx.held
    peerReady := by simp [CircuitRecord.enter]
    pendingOpen := fun k => absurd k ho
    pendingRefuse := hr }

/-- A REWINDING record that returns to OPEN (R147, R148). -/
theorem RecordLaw.reopened (h : RecordLaw r) (hs : r.state = .rewinding) {owed : Option ProtocolKind}
    (ho : owed ≠ some .openK) (hr : owed ≠ some .refuse) : RecordLaw (reopenedRecord r owed) :=
  (h.enterOpened (by simp [hs]) (h.peerPresent (.inl (by rw [hs]; rfl))) r.maxSegments r.roundLimit h.policy r.window
    (h.no_openRequest (by simp [hs])) ho hr
    (SendContext.resumed_running (h.no_active (by simp [hs])))).withTransfer (fun k => absurd rfl k)

/-- An OPEN record rewound by a REWIND frame (R146). -/
theorem RecordLaw.rewound (h : RecordLaw r) (hs : r.state = .opened) : RecordLaw (rewoundRecord r) := by
  have hx : r.send.rewound.resumed.Running := SendContext.resumed_running rfl
  have ht : ∀ t, (rewoundRecord r).timer = some t → r.state.mayRun t.purpose = true := by
    intro t ht
    unfold rewoundRecord at ht
    dsimp only at ht
    split at ht
    · cases ht
    · exact h.timer t ht
  have h1 := (h.withSend hs hx).withTimer ht
  have h2 := h1.withProtocol (protocol := some .rewindDone) (by simp) (by simp)
  have h3 := h2.withTransfer (transfer := resumedTransfer r.send.rewound) (fun k => absurd hs k)
  exact (h3.withAnswer (answer := none) (fun _ => rfl)).withRecv r.recv.rewound

/-- A record that is lawful but for its send context is lawful in OPEN once the context runs (R12, R25). -/
theorem RecordLaw.resend {x y : SendContext} (h : RecordLaw { r with send := x }) (ho : r.state = .opened)
    (hy : y.Running) : RecordLaw { r with send := y } := h.withSend ho hy

end

/-! ### The start decision (R29, R30) -/

theorem SendContext.started_running (x : SendContext) (d : DescNo) (rest : List DescNo) (n : Nat) :
    (x.started d rest n).Running := by
  constructor <;> simp [SendContext.started]

/-- A start changes the record in its send context and stale flag alone, and leaves a context that runs. -/
theorem startHead_record (l : List DescNo) (s : State) (c : CircuitNo) (ha : (s.circuit c).send.active = none) :
    ∃ stale x, (s.startHead c l).circuit c = { s.circuit c with stale, send := x } ∧ x.Running := by
  induction l generalizing s with
  | nil =>
    refine ⟨_, { (s.circuit c).send with sender := .idle, queue := [] }, circuit_onCircuit_self .., ?_⟩
    constructor <;> simp [ha]
  | cons d l ih =>
    rw [State.startHead]
    split
    · obtain ⟨b, hb⟩ := raise_circuit s (tooLargeOf c (s.descriptor d)) c
      have hc : (s.failTooLarge c d).circuit c = { s.circuit c with stale := b } := by
        rw [failTooLarge_eq, circuit_setDescriptor, hb]
      obtain ⟨stale, x, hx, hr⟩ := ih (s.failTooLarge c d) (by rw [hc]; exact ha)
      exact ⟨stale, x, by rw [hx, hc], hr⟩
    · refine ⟨(s.circuit c).stale, _, ?_,
        SendContext.started_running (s.circuit c).send d l (s.descriptor d).pages.length⟩
      rw [startBlock_eq]
      simp [State.circuit]

/-- The start decision of a circuit with no active block leaves a send context that runs; it may start the PROBE timer
and set the transfer class (R29). -/
theorem startDecision_record (s : State) (c : CircuitNo) (b : Bool) (ha : (s.circuit c).send.active = none) :
    ∃ stale timer transfer x,
      (s.startDecision c b).circuit c = { s.circuit c with stale, timer, transfer, send := x } ∧ x.Running ∧
        (timer = (s.circuit c).timer ∨ ∃ ms, timer = some { purpose := .probe, remaining := ms }) := by
  unfold State.startDecision
  split
  · next hq =>
    refine ⟨_, _, _, { (s.circuit c).send with sender := .idle }, circuit_onCircuit_self .., ?_, .inl rfl⟩
    constructor <;> simp [ha, hq]
  · next d rest hq =>
    have held (n : Nat) : SendContext.Running { (s.circuit c).send with sender := .held, pollCount := n } := by
      constructor <;> simp [ha, hq]
    split
    · obtain ⟨stale, x, hx, hr⟩ := startHead_record (d :: rest) s c ha
      exact ⟨stale, _, _, x, hx, hr, .inl rfl⟩
    · split
      · refine ⟨(s.circuit c).stale, _, (s.circuit c).transfer, _, ?_, held 0, .inr ⟨s.link.config.probeInterval, rfl⟩⟩
        simp [State.startTimer, State.onSend]
      · refine ⟨(s.circuit c).stale, _, some .probe, _, ?_, held 1, .inl rfl⟩
        simp [State.setTransfer, State.onSend]

/-- The start decision makes lawful an OPEN record that is lawful but for its send context (R29). -/
theorem startDecision_law {s : State} {c : CircuitNo} {x : SendContext} (h : RecordLaw { s.circuit c with send := x })
    (ho : (s.circuit c).state = .opened) (ha : (s.circuit c).send.active = none) (b : Bool) :
    RecordLaw ((s.startDecision c b).circuit c) ∧ ((s.startDecision c b).circuit c).state = .opened := by
  obtain ⟨stale, timer, transfer, y, hy, hr, ht⟩ := startDecision_record s c b ha
  rw [hy]
  have hm : ∀ t, timer = some t → (s.circuit c).state.mayRun t.purpose = true := by
    intro t hm
    rcases ht with ht | ⟨ms, ht⟩
    · exact h.timer t (ht ▸ hm)
    · cases ht.symm.trans hm
      rw [ho]
      rfl
  have htimer := (h.resend ho hr).withTimer hm
  exact ⟨(htimer.withTransfer (transfer := transfer) fun k => absurd ho k).withStale stale, ho⟩

end Sys2Proof.Machine

/-! PROOFS. Lawful states (R11, R154): every record is lawful and its state is one the link's state allows. The updates
of the state that keep this, and the shared operations of one circuit. -/

namespace Sys2Proof.Machine

/-! ### What the link allows -/

/-- The circuit states that a link state allows (R154). -/
def LinkState.Allows (l : LinkState) (x : CircuitState) : Prop := (l ≠ .up → x.live = false) ∧ (l = .up → x ≠ .dormant)

theorem LinkState.allows_up {l : LinkState} (hl : l = .up) {x : CircuitState} (hx : x ≠ .dormant) : l.Allows x :=
  ⟨fun k => absurd hl k, fun _ => hx⟩

theorem LinkState.allows_free (l : LinkState) : l.Allows .free := by simp [LinkState.Allows, CircuitState.live]

theorem LinkState.allows_closed (l : LinkState) : l.Allows .closed := by simp [LinkState.Allows, CircuitState.live]

/-- A live circuit state is allowed in UP alone (R154). -/
theorem LinkState.Allows.up {l : LinkState} {x : CircuitState} (h : l.Allows x) (hx : x.live = true) : l = .up :=
  Classical.byContradiction fun k => by rw [h.1 k] at hx; cases hx

/-- Every record is lawful, in a state that the link allows (R11, R154). -/
def Lawful (s : State) : Prop := ∀ c, RecordLaw (s.circuit c) ∧ s.link.state.Allows (s.circuit c).state

theorem lawful_iff (s : State) : Lawful s ↔ RecordsLaw s ∧ LinkLaw s :=
  ⟨fun h => ⟨fun c => (h c).1, fun c => (h c).2⟩, fun h c => ⟨h.1 c, h.2 c⟩⟩

/-! ### Updates of the state -/

/-- One circuit's record changed, the other records and the link as they were. -/
structure Apart (c : CircuitNo) (s t : State) : Prop where
  others : ∀ d, d ≠ c → t.circuit d = s.circuit d
  link   : t.link = s.link

theorem CircuitFrame.apart {c : CircuitNo} {s t : State} (h : CircuitFrame c s t) : Apart c s t := ⟨h.others, h.link⟩

theorem Apart.trans {c : CircuitNo} {s t u : State} (h : Apart c s t) (k : Apart c t u) : Apart c s u :=
  ⟨fun d hd => (k.others d hd).trans (h.others d hd), k.link.trans h.link⟩

section
variable {s t : State} {c : CircuitNo}

/-- A state that is lawful stays so where neither a record nor the link's state changes. -/
theorem Lawful.same (h : Lawful s) (hc : t.circuits = s.circuits) (hl : t.link.state = s.link.state) : Lawful t := by
  intro d
  rw [circuit_of_circuits hc, hl]
  exact h d

/-- A state that is lawful stays so where one record changes to a lawful one that the link allows. -/
theorem Lawful.apart (h : Lawful s) (f : Apart c s t) (hr : RecordLaw (t.circuit c))
    (ha : s.link.state.Allows (t.circuit c).state) : Lawful t := by
  intro d
  rw [f.link]
  by_cases hd : d = c
  · rw [hd]; exact ⟨hr, ha⟩
  · rw [f.others d hd]; exact h d

theorem Lawful.onCircuit (h : Lawful s) {f : CircuitRecord → CircuitRecord} (hr : RecordLaw (f (s.circuit c)))
    (ha : s.link.state.Allows (f (s.circuit c)).state) : Lawful (s.onCircuit c f) :=
  h.apart (frame_onCircuit s c f).apart (by rw [circuit_onCircuit_self]; exact hr)
    (by rw [circuit_onCircuit_self]; exact ha)

/-- A change of one record that keeps its circuit state. -/
theorem Lawful.onCircuit_stays (h : Lawful s) {f : CircuitRecord → CircuitRecord} (hr : RecordLaw (f (s.circuit c)))
    (hs : (f (s.circuit c)).state = (s.circuit c).state) : Lawful (s.onCircuit c f) :=
  h.onCircuit hr (by rw [hs]; exact (h c).2)

/-- A live circuit's link is UP (R154). -/
theorem Lawful.up (h : Lawful s) (hl : (s.circuit c).state.live = true) : s.link.state = .up := (h c).2.up hl

theorem Lawful.up_of_opened (h : Lawful s) (ho : (s.circuit c).state = .opened) : s.link.state = .up :=
  h.up (c := c) (by rw [ho]; rfl)

/-- Every record stays as it is while the link moves between states other than UP (R154). -/
theorem Lawful.link_down (h : Lawful s) (hc : t.circuits = s.circuits) (hs : s.link.state ≠ .up)
    (ht : t.link.state ≠ .up) : Lawful t := by
  intro d
  rw [circuit_of_circuits hc]
  exact ⟨(h d).1, fun _ => (h d).2.1 hs, fun k => absurd k ht⟩

theorem Lawful.raise (h : Lawful s) (e : Event) : Lawful (s.raise e) := by
  intro d
  obtain ⟨b, hb⟩ := raise_circuit s e d
  rw [hb, raise_link]
  exact ⟨(h d).1.withStale b, (h d).2⟩

theorem Lawful.finish (h : Lawful s) (code : ResultCode) (values : List Nat) : Lawful (s.finish code values) :=
  h.same rfl rfl

theorem Lawful.succeed (h : Lawful s) (values : List Nat) : Lawful (s.succeed values) := h.finish _ _

theorem Lawful.reject (h : Lawful s) (code : ResultCode) : Lawful (s.reject code) := h.finish _ _

theorem Lawful.countFree (h : Lawful s) (b : Bool) : Lawful (s.countFree b) := h.same (by simp) (by simp)

theorem Lawful.requestLoose (h : Lawful s) (x : LooseReply) : Lawful (s.requestLoose x) := h.same (by simp) (by simp)

theorem Lawful.setDescriptor (h : Lawful s) (d : DescNo) (x : Descriptor) : Lawful (s.setDescriptor d x) :=
  h.same rfl rfl

theorem Lawful.freeDescriptor (h : Lawful s) (d : DescNo) : Lawful (s.freeDescriptor d) := by
  rw [freeDescriptor_eq]; exact h.setDescriptor _ _

theorem Lawful.endPin (h : Lawful s) (pin : Option (Nat × DescNo)) : Lawful (s.endPin pin) := by
  unfold State.endPin
  split
  · exact h
  · split
    · exact h.setDescriptor _ _
    · exact h

theorem Lawful.abortTransmission (h : Lawful s) : Lawful s.abortTransmission := by
  unfold State.abortTransmission
  split
  · exact h
  · exact (h.endPin _).same rfl rfl

/-! ### Fields of one record -/

theorem Lawful.stopTimer (h : Lawful s) : Lawful (s.stopTimer c) := h.onCircuit_stays (h c).1.withoutTimer rfl

theorem Lawful.startTimer (h : Lawful s) {purpose : TimerPurpose} (hm : (s.circuit c).state.mayRun purpose = true)
    (ms : Nat) : Lawful (s.startTimer c purpose ms) :=
  h.onCircuit_stays ((h c).1.withTimer fun t ht => by cases ht; exact hm) rfl

theorem Lawful.setProtocol (h : Lawful s) {k : Option ProtocolKind} (ho : k ≠ some .openK) (hr : k ≠ some .refuse) :
    Lawful (s.setProtocol c k) := h.onCircuit_stays ((h c).1.withProtocol ho hr) rfl

theorem Lawful.setTransfer (h : Lawful s) {k : Option TransferKind} (hk : (s.circuit c).state ≠ .opened → k = none) :
    Lawful (s.setTransfer c k) := h.onCircuit_stays ((h c).1.withTransfer hk) rfl

theorem Lawful.setAnswer (h : Lawful s) {k : Option AnswerKind} (hk : (s.circuit c).state ≠ .opened → k = none) :
    Lawful (s.setAnswer c k) := h.onCircuit_stays ((h c).1.withAnswer hk) rfl

theorem Lawful.onRecv (h : Lawful s) (f : RecvContext → RecvContext) : Lawful (s.onRecv c f) :=
  h.onCircuit_stays ((h c).1.withRecv _) rfl

/-- An OPEN record takes any send context that runs (R25). -/
theorem Lawful.onSend (h : Lawful s) (ho : (s.circuit c).state = .opened) {f : SendContext → SendContext}
    (hx : (f (s.circuit c).send).Running) : Lawful (s.onSend c f) :=
  h.onCircuit_stays ((h c).1.withSend ho hx) rfl

/-! ### Closing and rewinding -/

/-- A record in use enters CLOSED (R9). -/
theorem Lawful.enterClosed (h : Lawful s) (hf : (s.circuit c).state ≠ .free) (cause diagnostic : Octet)
    (originator : Originator) (confirmed : Bool) {owed : Option ProtocolKind} (ho : owed ≠ some .openK)
    (hr : owed ≠ some .refuse) : Lawful (s.enterClosed c cause diagnostic originator confirmed owed) := by
  obtain ⟨hframe, -, hrec, -⟩ := enterClosed_spec s c cause diagnostic originator confirmed owed
  refine h.apart hframe.apart ?_ ?_
  · rw [hrec]; exact ((h c).1.closed hf cause diagnostic originator confirmed ho hr).withStale _
  · rw [hrec]; exact LinkState.allows_closed _

/-- A record in use enters CLOSED with no event (R9, R173). -/
theorem Lawful.toClosed (h : Lawful s) (hf : (s.circuit c).state ≠ .free) (cause diagnostic : Octet)
    (originator : Originator) (confirmed : Bool) {owed : Option ProtocolKind} (ho : owed ≠ some .openK)
    (hr : owed ≠ some .refuse) : Lawful (s.toClosed c cause diagnostic originator confirmed owed) := by
  refine h.apart (frame_toClosed ..).apart ?_ ?_
  · rw [toClosed_circuit]; exact (h c).1.closed hf cause diagnostic originator confirmed ho hr
  · rw [toClosed_circuit]; exact LinkState.allows_closed _

/-- A CLOSING record enters CLOSED (R10). -/
theorem Lawful.finishClosing (h : Lawful s) (hs : (s.circuit c).state = .closing) (confirmed : Bool)
    {owed : Option ProtocolKind} (ho : owed ≠ some .openK) (hr : owed ≠ some .refuse) :
    Lawful (s.finishClosing c confirmed owed) := by
  obtain ⟨k, hk⟩ := Option.isSome_iff_exists.1 ((h c).1.closeRecord.2 (.inl hs))
  obtain ⟨hframe, hrec, -⟩ := finishClosing_spec s c confirmed owed k hk
  refine h.apart hframe.apart ?_ ?_
  · rw [hrec]; exact ((h c).1.closedFromClosing hs confirmed ho hr).withStale _
  · rw [hrec]; exact LinkState.allows_closed _

/-- A record in use ends with no frame (R9, R107, R160). -/
theorem Lawful.endCircuit (h : Lawful s) (hf : (s.circuit c).state ≠ .free) (cause : Octet) :
    Lawful (s.endCircuit c cause) := by
  unfold State.endCircuit
  split
  · next hs => exact h.finishClosing hs false (by simp) (by simp)
  · exact h.enterClosed hf cause 0 .part false (by simp) (by simp)

/-- A dialled circuit enters CLOSING from a state that is lawful but for its send context (R135). -/
theorem Lawful.enterClosing_of {u : State} {x : SendContext} (h : Lawful s) (f : Apart c s u)
    (hx : RecordLaw { u.circuit c with send := x }) (hk : (u.circuit c).kind = some .dialled)
    (hs : (u.circuit c).state = .opened ∨ (u.circuit c).state = .rewinding) (hu : s.link.state = .up)
    (cause diagnostic : Octet) (originator : Originator) : Lawful (u.enterClosing c cause diagnostic originator) := by
  refine h.apart (f.trans (frame_enterClosing ..).apart) ?_ ?_
  · rw [enterClosing_circuit]; exact hx.closing hk hs cause diagnostic originator _
  · rw [enterClosing_circuit]; exact LinkState.allows_up hu (by simp [closingRecord])

/-- An OPEN or REWINDING dialled circuit enters CLOSING (R135). -/
theorem Lawful.enterClosing (h : Lawful s) (hk : (s.circuit c).kind = some .dialled)
    (hs : (s.circuit c).state = .opened ∨ (s.circuit c).state = .rewinding) (cause diagnostic : Octet)
    (originator : Originator) : Lawful (s.enterClosing c cause diagnostic originator) :=
  h.enterClosing_of (CircuitFrame.refl c s).apart (x := (s.circuit c).send) (h c).1 hk hs
    (h.up (c := c) (by rcases hs with hs | hs <;> rw [hs] <;> rfl)) cause diagnostic originator

/-- A circuit enters REWINDING from an OPEN state that is lawful but for its send context (R143). -/
theorem Lawful.enterRewinding_of {u : State} {x : SendContext} (h : Lawful s) (f : Apart c s u)
    (hx : RecordLaw { u.circuit c with send := x }) (hs : (u.circuit c).state = .opened) (hu : s.link.state = .up)
    (cause : Octet) (originator : Originator) : Lawful (u.enterRewinding c cause originator) := by
  refine h.apart (f.trans (frame_enterRewinding ..).apart) ?_ ?_
  · rw [enterRewinding_circuit]; exact hx.rewinding hs cause originator _
  · rw [enterRewinding_circuit]; exact LinkState.allows_up hu (by simp [rewindingRecord])

/-- An OPEN circuit enters REWINDING (R143). -/
theorem Lawful.enterRewinding (h : Lawful s) (hs : (s.circuit c).state = .opened) (cause : Octet)
    (originator : Originator) : Lawful (s.enterRewinding c cause originator) :=
  h.enterRewinding_of (CircuitFrame.refl c s).apart (x := (s.circuit c).send) (h c).1 hs (h.up_of_opened hs) cause
    originator

theorem Lawful.protocolError (h : Lawful s) (hs : (s.circuit c).state = .opened) : Lawful (s.protocolError c) :=
  h.enterRewinding hs _ _

/-- A REWINDING circuit returns to OPEN (R147, R148). -/
theorem Lawful.finishRewinding (h : Lawful s) (hs : (s.circuit c).state = .rewinding) {owed : Option ProtocolKind}
    (ho : owed ≠ some .openK) (hr : owed ≠ some .refuse) : Lawful (s.finishRewinding c owed) := by
  obtain ⟨note, hn⟩ := Option.isSome_iff_exists.1 ((h c).1.note.2 hs)
  obtain ⟨hframe, hrec, -⟩ := finishRewinding_spec s c owed note hn ((h c).1.peerReady (.inl hs))
  refine h.apart hframe.apart ?_ ?_
  · rw [hrec]; exact ((h c).1.reopened hs ho hr).withStale _
  · rw [hrec]; exact LinkState.allows_up (h.up (c := c) (by rw [hs]; rfl)) (by simp [reopenedRecord])

/-- A REWIND frame at an OPEN circuit (R146). -/
theorem Lawful.rewindInOpen (h : Lawful s) (hs : (s.circuit c).state = .opened) (cause : Octet) :
    Lawful (s.rewindInOpen c cause) := by
  obtain ⟨hframe, hrec, -⟩ := rewindInOpen_spec s c cause
  refine h.apart hframe.apart ?_ ?_
  · rw [hrec]; exact ((h c).1.rewound hs).withStale _
  · rw [hrec]; exact LinkState.allows_up (h.up_of_opened hs) (by simp [rewoundRecord, hs])

/-! ### New and ended records -/

theorem apart_endRecord (s : State) (c : CircuitNo) : Apart c s (s.endRecord c) := by
  refine ⟨fun d hd => ?_, ?_⟩
  · unfold State.endRecord
    rw [circuit_setCircuit_ne _ _ hd]
    exact circuit_of_circuits (setLabel_circuits s _ _) d
  · exact setLabel_link s _ _

/-- A record becomes FREE (R12). -/
theorem Lawful.endRecord (h : Lawful s) : Lawful (s.endRecord c) := by
  have hc : (s.endRecord c).circuit c = CircuitRecord.free (s.circuit c).stale := circuit_setCircuit_self ..
  refine h.apart (apart_endRecord s c) ?_ ?_
  · rw [hc]; exact law_free _
  · rw [hc]; exact LinkState.allows_free _

theorem apart_createDialled (s : State) (c : CircuitNo) (l : Label) (r : CircuitRecord) :
    Apart c s (s.createDialled c l r) := by
  refine ⟨fun d hd => ?_, setLabel_link s _ _⟩
  unfold State.createDialled
  rw [circuit_setCircuit_ne _ _ hd]
  exact circuit_of_circuits (setLabel_circuits s _ _) d

/-- A dialled record is created while the link is UP (R3). -/
theorem Lawful.createDialled (h : Lawful s) (l : Label) {r : CircuitRecord} (hu : s.link.state = .up) (hr : RecordLaw r)
    (hd : r.state ≠ .dormant) : Lawful (s.createDialled c l r) := by
  have hc : (s.createDialled c l r).circuit c = { r with stale := (s.circuit c).stale, localLabel := l } :=
    circuit_setCircuit_self ..
  refine h.apart (apart_createDialled s c l r) ?_ ?_
  · rw [hc]; exact (hr.withLabel l).withStale _
  · rw [hc]; exact LinkState.allows_up hu hd

end

end Sys2Proof.Machine

/-! PROOFS. The Send Engine and the Receive Engine keep every record lawful (R25 to R75). -/

namespace Sys2Proof.Machine

section
variable {s : State} {c : CircuitNo}

/-! ### The Send Engine -/

/-- The start decision on an OPEN circuit with no active block, lawful but for its send context (R29). -/
theorem Lawful.startDecision {u : State} {x : SendContext} (h : Lawful s) (f : Apart c s u)
    (hx : RecordLaw { u.circuit c with send := x }) (ho : (u.circuit c).state = .opened)
    (ha : (u.circuit c).send.active = none) (hu : s.link.state = .up) (b : Bool) : Lawful (u.startDecision c b) := by
  obtain ⟨hr, hs⟩ := startDecision_law hx ho ha b
  refine h.apart (f.trans (frame_startDecision u c b).apart) hr ?_
  rw [hs]
  exact LinkState.allows_up hu (by simp)

/-- An event leaves every circuit state as it is (R204). -/
theorem raise_state (s : State) (e : Event) (c : CircuitNo) :
    ((s.raise e).circuit c).state = (s.circuit c).state := by
  obtain ⟨b, hb⟩ := raise_circuit s e c
  rw [hb]

theorem freeDescriptor_circuit (s : State) (d : DescNo) (c : CircuitNo) :
    (s.freeDescriptor d).circuit c = s.circuit c := by rw [freeDescriptor_eq]; rfl

/-- A sender that is not STOPPED is an OPEN circuit's (R25). -/
theorem Lawful.opened_of_sender (h : Lawful s) {x : SenderState} (hs : (s.circuit c).send.sender = x)
    (hx : x ≠ .stopped) : (s.circuit c).state = .opened := (h c).1.opened_of_sender (hs ▸ hx)

theorem Lawful.pollExhausted (h : Lawful s) (ho : (s.circuit c).state = .opened) : Lawful (s.pollExhausted c) := by
  unfold State.pollExhausted
  split
  · exact h.enterRewinding ho _ _
  · next hk =>
    exact h.enterClosing ((h c).1.dialled_of_not_fixed (by simp [ho]) hk) (.inl ho) _ _ _

/-- A block that is decided leaves an OPEN circuit lawful (R37). -/
theorem Lawful.advance (h : Lawful s) (ho : (s.circuit c).state = .opened) (a : ActiveBlock) (ready : Bool) :
    Lawful (s.advance c a ready) := by
  have hc : ∀ f, ((s.freeDescriptor a.desc).onSend c f).circuit c =
      { s.circuit c with send := f (s.circuit c).send } := by
    intro f
    unfold State.onSend
    rw [circuit_onCircuit_self, freeDescriptor_circuit]
  refine h.startDecision ((frame_freeDescriptor ..).trans (frame_onSend ..)).apart (x := (s.circuit c).send) ?_ ?_ ?_
    (h.up_of_opened ho) true
  · rw [hc]; exact (h c).1
  · rw [hc]; exact ho
  · rw [hc]

theorem Lawful.blockDelivered (h : Lawful s) (ho : (s.circuit c).state = .opened) (a : ActiveBlock) (ready : Bool) :
    Lawful (s.blockDelivered c a ready) :=
  (h.raise _).advance (by rw [raise_state]; exact ho) a ready

/-- A block failed without an advance leaves the record lawful but for its send context (R41). -/
theorem failActive_circuit (s : State) (c : CircuitNo) (a : ActiveBlock) :
    ∃ stale, (s.failActive c a).circuit c =
      { s.circuit c with stale, send := { (s.circuit c).send with active := none } } := by
  obtain ⟨b, hb⟩ := raise_circuit s (a.failedEvent c (s.descriptor a.desc).tag) c
  refine ⟨b, ?_⟩
  unfold State.failActive State.onSend
  rw [circuit_onCircuit_self, freeDescriptor_circuit]
  unfold State.raiseFailed
  rw [hb]

theorem frame_failActive (s : State) (c : CircuitNo) (a : ActiveBlock) : EngineFrame c s (s.failActive c a) :=
  ((frame_raise s rfl).trans (frame_freeDescriptor ..)).trans (frame_onSend ..)

/-- An abandon exchange begins for an active block (R42). -/
theorem Lawful.beginAbandon (h : Lawful s) (ho : (s.circuit c).state = .opened)
    (ha : (s.circuit c).send.active.isSome = true) : Lawful (s.beginAbandon c) := by
  refine (h.onSend ho ?_).setTransfer fun k => absurd (show ((s.onSend c _).circuit c).state = .opened from ?_) k
  · constructor <;> simp [ha]
  · simpa [State.onSend] using ho

/-- The give-up policy applied to the active block (R41). -/
theorem Lawful.giveUp (h : Lawful s) (ho : (s.circuit c).state = .opened) {a : ActiveBlock}
    (ha : (s.circuit c).send.active.isSome = true) : Lawful (s.giveUp c a) := by
  obtain ⟨stale, hf⟩ := failActive_circuit s c a
  have hx : RecordLaw { (s.failActive c a).circuit c with send := (s.circuit c).send } := by
    rw [hf]; exact (h c).1.withStale stale
  have hs : ((s.failActive c a).circuit c).state = .opened := by rw [hf]; exact ho
  unfold State.giveUp
  split
  · exact h.enterRewinding_of (frame_failActive s c a).apart hx hs (h.up_of_opened ho) _ _
  · next hp =>
    have hk : (s.circuit c).kind = some .dialled :=
      (h c).1.dialled_of_not_fixed (by simp [ho]) fun k => (h c).1.policy k hp
    exact h.enterClosing_of (frame_failActive s c a).apart hx (by rw [hf]; exact hk) (.inl hs) (h.up_of_opened ho) _ _ _
  · exact h.beginAbandon ho ha
  · exact h.beginAbandon ho ha

/-- A MISSING status taken in POLLING (R38). -/
theorem Lawful.missingAnswer (h : Lawful s) (ho : (s.circuit c).state = .opened) {a : ActiveBlock}
    (ha : (s.circuit c).send.active.isSome = true) (map : SegSet) : Lawful (s.missingAnswer c a map) := by
  unfold State.missingAnswer
  split
  · split
    · exact h.onSend ho (by constructor <;> simp)
    · exact h.giveUp ho ha
  · exact h.protocolError ho

/-- A status taken as an answer (R36). -/
theorem Lawful.takeAnswer (h : Lawful s) : Lawful (s.takeAnswer c) :=
  h.stopTimer.setTransfer fun _ => rfl

theorem takeAnswer_state (s : State) (c : CircuitNo) : ((s.takeAnswer c).circuit c).state = (s.circuit c).state := by
  rw [takeAnswer_eq, circuit_setCircuit_self]

theorem takeAnswer_send (s : State) (c : CircuitNo) : ((s.takeAnswer c).circuit c).send = (s.circuit c).send := by
  rw [takeAnswer_eq, circuit_setCircuit_self]

theorem Lawful.pollAnswer (h : Lawful s) (ho : (s.circuit c).state = .opened) {a : ActiveBlock}
    (ha : (s.circuit c).send.active = some a) (outcome : StatusOutcome) (ready : Bool) :
    Lawful (s.pollAnswer c a outcome ready) := by
  have ho' := (takeAnswer_state s c).trans ho
  cases outcome with
  | missing map => exact h.takeAnswer.missingAnswer ho' (by rw [takeAnswer_send, ha]; rfl) map
  | complete => exact h.takeAnswer.blockDelivered ho' a ready
  | abandoned => exact h.takeAnswer.protocolError ho'

theorem Lawful.abandonAnswer (h : Lawful s) (ho : (s.circuit c).state = .opened) (a : ActiveBlock)
    (outcome : StatusOutcome) (ready : Bool) : Lawful (s.abandonAnswer c a outcome ready) := by
  have ho' := (takeAnswer_state s c).trans ho
  cases outcome with
  | missing _ => exact h
  | complete => exact h.takeAnswer.blockDelivered ho' a ready
  | abandoned => exact (h.takeAnswer.raise _).advance ((raise_state ..).trans ho') a ready

/-- A readiness report in HELD (R46). -/
theorem Lawful.readyInHeld (h : Lawful s) (hs : (s.circuit c).send.sender = .held) (ready : Bool) :
    Lawful (s.readyInHeld c ready) := by
  have ho := h.opened_of_sender hs (by simp)
  have hr := (h c).1.running ho
  have ha : (s.circuit c).send.active = none := by
    have := hr.active
    simpa [hs] using this
  have ht : Lawful (s.onSend c (fun x => { x with pollCount := 0, peerReady := ready })) :=
    h.onSend ho ⟨hr.sender, hr.active, hr.idle, hr.held⟩
  have hc : ∀ f, (s.onSend c f).circuit c = { s.circuit c with send := f (s.circuit c).send } :=
    fun f => circuit_onCircuit_self ..
  unfold State.readyInHeld
  dsimp only
  split
  · refine (ht.stopTimer.setTransfer fun _ => rfl).startDecision (CircuitFrame.refl ..).apart
      (x := { (s.circuit c).send with pollCount := 0, peerReady := ready }) ?_ ?_ ?_ (h.up_of_opened ho) false
    · simpa [State.setTransfer, State.stopTimer, hc] using
        ((((h c).1.withSend ho (send := { (s.circuit c).send with pollCount := 0, peerReady := ready })
          ⟨hr.sender, hr.active, hr.idle, hr.held⟩).withoutTimer).withTransfer (transfer := none) fun _ => rfl)
    · simpa [State.setTransfer, State.stopTimer, hc] using ho
    · simpa [State.setTransfer, State.stopTimer, hc] using ha
  · split
    · exact ht.stopTimer
    · exact ht.startTimer (by rw [hc]; simp only [ho]; rfl) _

/-- A READY frame at an OPEN circuit (R46). -/
theorem Lawful.readyAt (h : Lawful s) (ready : Bool) : Lawful (State.readyAt ready c s) := by
  unfold State.readyAt
  split
  · next hs => exact h.readyInHeld hs ready
  · next hs =>
    have ho := h.opened_of_sender hs (by simp)
    have hr := (h c).1.running ho
    exact h.onSend ho ⟨hr.sender, hr.active, hr.idle, hr.held⟩
  all_goals exact h

/-- A BLOCK-STATUS frame at an OPEN circuit (R36). -/
theorem Lawful.statusAt (h : Lawful s) (number : BlockNumber) (outcome : StatusOutcome) (ready : Bool) :
    Lawful (State.statusAt number outcome ready c s) := by
  unfold State.statusAt
  split
  · next a hs ha =>
    split
    · exact h.pollAnswer (h.opened_of_sender hs (by simp)) ha outcome ready
    · exact h
  · next a hs ha =>
    split
    · exact h.abandonAnswer (h.opened_of_sender hs (by simp)) a outcome ready
    · exact h
  · next hs =>
    split
    · exact h
    all_goals
      split
      · exact h.readyInHeld hs ready
      · exact h
  · exact h

/-! ### Transmission ends (R32, R33, R42, R45) -/

theorem Lawful.segSent (h : Lawful s) (number : BlockNumber) (i : Nat) : Lawful (s.segSent c number i) := by
  unfold State.segSent
  split
  · next a hs ha =>
    have ho := h.opened_of_sender hs (by simp)
    have sent (x : ActiveBlock) (n : Nat) :
        SendContext.Running { (s.circuit c).send with active := some x, pollCount := n } := by
      constructor <;> simp [hs]
    split
    · dsimp only
      split
      · refine Lawful.setTransfer ?_ fun k => absurd ?_ k
        · unfold State.onSend
          rw [onCircuit_onCircuit]
          exact h.onCircuit_stays ((h c).1.withSend ho (sent _ 1)) rfl
        · simpa [State.onSend] using ho
      · exact h.onSend ho (sent _ _)
    · exact h
  · exact h

theorem Lawful.blockEndSent (h : Lawful s) (number : BlockNumber) : Lawful (s.blockEndSent c number) := by
  unfold State.blockEndSent
  split
  · next a ha =>
    split
    · next hg =>
      have ho : (s.circuit c).state = .opened := by
        rcases hg.2 with hs | hs
        · exact h.opened_of_sender hs.1 (by simp)
        · exact h.opened_of_sender hs (by simp)
      refine (h.onSend ho (by constructor <;> simp [ha])).startTimer ?_ _
      unfold State.onSend
      rw [circuit_onCircuit_self]
      simp only [ho]
      rfl
    · exact h
  · exact h

theorem Lawful.blockAbandonSent (h : Lawful s) (number : BlockNumber) : Lawful (s.blockAbandonSent c number) := by
  unfold State.blockAbandonSent
  split
  · next a hs ha =>
    split
    · exact h.startTimer (by rw [h.opened_of_sender hs (by simp)]; rfl) _
    · exact h
  · exact h

theorem Lawful.probeSent (h : Lawful s) : Lawful (s.probeSent c) := by
  unfold State.probeSent
  split
  · next hs => exact h.startTimer (by rw [h.opened_of_sender hs (by simp)]; rfl) _
  · exact h

/-! ### The Receive Engine -/

theorem Lawful.dropAssembly (h : Lawful s) : Lawful (s.dropAssembly c) := by
  unfold State.dropAssembly
  split
  · exact h.onRecv _
  · exact (h.freeDescriptor _).onRecv _

theorem fillSlot_circuit (s : State) (d : DescNo) (page i : Nat) (payload : List Octet) (c : CircuitNo) :
    (s.fillSlot d page i payload).circuit c = s.circuit c := rfl

theorem Lawful.fillSlot (h : Lawful s) (d : DescNo) (page i : Nat) (payload : List Octet) :
    Lawful (s.fillSlot d page i payload) := h.same rfl rfl

/-- A segment that is stored leaves every record lawful and every circuit state as it is (R57, R86). -/
theorem Lawful.storeSegment (h : Lawful s) {t : State} {i : Nat} {payload : List Octet}
    (ht : s.storeSegment c i payload = some t) : Lawful t ∧ (t.circuit c).state = (s.circuit c).state := by
  unfold State.storeSegment at ht
  split at ht
  · next d _ =>
    obtain ⟨page, -, rfl⟩ := Option.map_eq_some_iff.1 ht
    exact ⟨h.fillSlot _ _ _ _, rfl⟩
  · split at ht
    · split at ht
      · cases ht
        refine ⟨((h.setDescriptor _ _).onRecv _).fillSlot _ _ _ _, ?_⟩
        rw [fillSlot_circuit, State.onRecv, circuit_onCircuit_self]
        rfl
      · cases ht
    · cases ht

/-- Completion of a block at an OPEN circuit (R61). -/
theorem Lawful.complete (h : Lawful s) (ho : (s.circuit c).state = .opened) : Lawful (s.complete c) := by
  cases ha : (s.circuit c).recv.assembly with
  | none =>
    unfold State.complete
    rw [ha]
    exact h
  | some d =>
    obtain ⟨hframe, hrec, -⟩ := complete_spec ha
    refine h.apart hframe.apart ?_ ?_
    · rw [hrec]; exact (((h c).1.withAnswer (answer := some .blockStatus) fun k => absurd ho k).withRecv _).withStale _
    · rw [hrec]; exact (h c).2

theorem Lawful.segCurrent (h : Lawful s) (ho : (s.circuit c).state = .opened) (i : Nat) (payload : List Octet) :
    Lawful (s.segCurrent c i payload) := by
  unfold State.segCurrent
  split
  · exact h
  · split
    · exact h
    · next t ht =>
      obtain ⟨ht, hs⟩ := h.storeSegment ht
      split
      · exact ht
      · split
        · exact ht.complete (hs.trans ho)
        · exact ht

/-- A SEG at an OPEN circuit (R56). -/
theorem Lawful.segAt (h : Lawful s) (ho : (s.circuit c).state = .opened) (number : BlockNumber) (i : Nat)
    (payload : List Octet) : Lawful (State.segAt number i payload c s) := by
  unfold State.segAt
  split
  · exact h.protocolError ho
  · split
    · exact h
    · exact h.protocolError ho
    · split
      · exact h.segCurrent ho i payload
      · exact h.protocolError ho

/-- A BLOCK-END at an OPEN circuit (R59, R60). -/
theorem Lawful.blockEndAt (h : Lawful s) (ho : (s.circuit c).state = .opened) (number : BlockNumber) (n : Nat) :
    Lawful (State.blockEndAt number n c s) := by
  unfold State.blockEndAt
  split
  · exact h.protocolError ho
  · split
    · exact h.protocolError ho
    · exact h.setAnswer fun k => absurd ho k
    · split
      · split
        · exact h.complete ho
        · exact (h.onRecv _).setAnswer fun k => absurd (by simpa [State.onRecv] using ho) k
      · exact h.protocolError ho

/-- A BLOCK-ABANDON at an OPEN circuit (R63). -/
theorem Lawful.blockAbandonAt (h : Lawful s) (ho : (s.circuit c).state = .opened) (number : BlockNumber) :
    Lawful (State.blockAbandonAt number c s) := by
  unfold State.blockAbandonAt
  split
  · exact h.protocolError ho
  · exact h.setAnswer fun k => absurd ho k
  · refine (h.dropAssembly.onRecv _).setAnswer fun k => absurd ?_ k
    unfold State.onRecv
    rw [circuit_onCircuit_self, dropAssembly_circuit]
    exact ho

/-- A PROBE at an OPEN circuit (R64). -/
theorem Lawful.probeAt (h : Lawful s) (ho : (s.circuit c).state = .opened) : Lawful (State.probeAt c s) :=
  h.setAnswer fun k => absurd ho k

end

end Sys2Proof.Machine

/-! PROOFS. The moves of all records with the link (R159 to R161) and INITIALISE (R23) keep every record lawful. -/

namespace Sys2Proof.Machine

/-! ### Every record moved -/

/-- A run over distinct circuits moves the record of each circuit in it, and no other. -/
theorem foldl_records {f : State → CircuitNo → State} (apart : ∀ s c, Apart c s (f s c)) (l : List CircuitNo)
    (hl : l.Nodup) {P Q : CircuitRecord → Prop} (move : ∀ s c, P (s.circuit c) → Q ((f s c).circuit c)) (s : State) :
    (l.foldl f s).link = s.link ∧ (∀ d, d ∉ l → (l.foldl f s).circuit d = s.circuit d) ∧
      ((∀ d ∈ l, P (s.circuit d)) → ∀ d ∈ l, Q ((l.foldl f s).circuit d)) := by
  induction l generalizing s with
  | nil => exact ⟨rfl, fun _ _ => rfl, fun _ d hd => absurd hd (by simp)⟩
  | cons c l ih =>
    obtain ⟨hc, hl⟩ := List.nodup_cons.1 hl
    obtain ⟨hlink, hout, hin⟩ := ih hl (f s c)
    refine ⟨hlink.trans (apart s c).link, fun d hd => ?_, fun hp d hd => ?_⟩
    · obtain ⟨hdc, hdl⟩ := not_or.1 (mt List.mem_cons.2 hd)
      exact (hout d hdl).trans ((apart s c).others d hdc)
    · by_cases hdc : d = c
      · rw [hdc, List.foldl_cons, hout c hc]
        exact move s c (hp c List.mem_cons_self)
      · refine hin (fun e he => ?_) d ((List.mem_cons.1 hd).resolve_left hdc)
        rw [(apart s c).others e (fun k => hc (k ▸ he))]
        exact hp e (List.mem_cons_of_mem _ he)

theorem forEachCircuit_link {f : State → CircuitNo → State} (apart : ∀ s c, Apart c s (f s c)) (s : State) :
    (s.forEachCircuit f).link = s.link :=
  (foldl_records apart _ (List.nodup_finRange 64) (P := fun _ => True) (Q := fun _ => True) (fun _ _ _ => trivial) s).1

/-- What a move makes of the record it is for, it makes of every record (R160). -/
theorem forEachCircuit_records {f : State → CircuitNo → State} (apart : ∀ s c, Apart c s (f s c))
    {P Q : CircuitRecord → Prop} (move : ∀ s c, P (s.circuit c) → Q ((f s c).circuit c)) {s : State}
    (h : ∀ c, P (s.circuit c)) (c : CircuitNo) : Q ((s.forEachCircuit f).circuit c) :=
  (foldl_records apart _ (List.nodup_finRange 64) move s).2.2 (fun d _ => h d) c (List.mem_finRange c)

section
variable {s : State} {c : CircuitNo}

/-! ### The link leaves UP (R160) -/

/-- A lawful record that no link state forbids. -/
def CircuitRecord.Settled (r : CircuitRecord) : Prop := RecordLaw r ∧ r.state.live = false

/-- A lawful record of a link in UP (R154). -/
def CircuitRecord.Awake (r : CircuitRecord) : Prop := RecordLaw r ∧ r.state ≠ .dormant

theorem Lawful.awake (h : Lawful s) (hu : s.link.state = .up) (c : CircuitNo) : (s.circuit c).Awake :=
  ⟨(h c).1, (h c).2.2 hu⟩

theorem lawful_of_settled (h : ∀ c, (s.circuit c).Settled) (hd : s.link.state ≠ .up) : Lawful s :=
  fun c => ⟨(h c).1, fun _ => (h c).2, fun k => absurd k hd⟩

theorem lawful_of_awake (h : ∀ c, (s.circuit c).Awake) (hu : s.link.state = .up) : Lawful s :=
  fun c => ⟨(h c).1, LinkState.allows_up hu (h c).2⟩

/-- A record that enters DORMANT (R51, R75, R160). -/
theorem enterDormant_circuit (s : State) (c : CircuitNo) :
    (s.enterDormant c).circuit c = dormantRecord (s.circuit c) := by
  unfold State.enterDormant
  rw [circuit_onCircuit_self, rewindRecv_circuit, rewindSend_circuit]
  unfold CircuitRecord.stopSendTimer
  split <;> rfl

theorem frame_enterDormant (s : State) (c : CircuitNo) : EngineFrame c s (s.enterDormant c) :=
  ((frame_rewindSend ..).trans (frame_rewindRecv ..)).trans (frame_onCircuit ..)

theorem frame_leaveRecord (cause : Octet) (s : State) (c : CircuitNo) : EngineFrame c s (s.leaveRecord cause c) := by
  unfold State.leaveRecord
  split
  iterate 5 exact frame_endCircuit ..
  iterate 2 exact frame_enterDormant ..
  · exact frame_onCircuit ..
  · exact EngineFrame.refl ..

/-- A lawful record ended with no frame is CLOSED (R9, R160). -/
theorem endCircuit_closed (h : RecordLaw (s.circuit c)) (hf : (s.circuit c).state ≠ .free) (cause : Octet) :
    RecordLaw ((s.endCircuit c cause).circuit c) ∧ ((s.endCircuit c cause).circuit c).state = .closed := by
  unfold State.endCircuit
  split
  · next hs =>
    obtain ⟨k, hk⟩ := Option.isSome_iff_exists.1 (h.closeRecord.2 (.inl hs))
    obtain ⟨-, hrec, -⟩ := finishClosing_spec s c false none k hk
    rw [hrec]
    exact ⟨(h.closedFromClosing hs false (by simp) (by simp)).withStale _, rfl⟩
  · obtain ⟨-, -, hrec, -⟩ := enterClosed_spec s c cause 0 .part false none
    rw [hrec]
    exact ⟨(h.closed hf cause 0 .part false (by simp) (by simp)).withStale _, rfl⟩

theorem settled_of_closed {r : CircuitRecord} (h : RecordLaw r ∧ r.state = .closed) : r.Settled :=
  ⟨h.1, by rw [h.2]; rfl⟩

/-- A lawful record is CLOSED, DORMANT or FREE after the link has left UP (R160). -/
theorem leaveRecord_settled (cause : Octet) (h : RecordLaw (s.circuit c)) :
    ((s.leaveRecord cause c).circuit c).Settled := by
  unfold State.leaveRecord
  split
  iterate 5
    next hs => exact settled_of_closed (endCircuit_closed h (by simp [hs]) cause)
  · next hk hs => rw [enterDormant_circuit]; exact ⟨h.dormantRecord hk (.inl hs), rfl⟩
  · next hk hs => rw [enterDormant_circuit]; exact ⟨h.dormantRecord hk (.inr hs), rfl⟩
  · next hs =>
    rw [State.setProtocol, circuit_onCircuit_self]
    exact ⟨h.withProtocol (by simp) (by simp), by simp only [hs]; rfl⟩
  · refine ⟨h, ?_⟩
    have hk := h.kind
    have hd := h.dialled
    cases hq : (s.circuit c).state <;> cases hp : (s.circuit c).kind with
    | none => simp_all [CircuitState.live]
    | some k => cases k <;> simp_all [CircuitState.live]

/-- After the link has left UP every record is CLOSED, DORMANT or FREE (R160). -/
theorem leaveUp_settled (h : Lawful s) (cause : Octet) (follows : LinkState) (c : CircuitNo) :
    ((s.leaveUp cause follows).circuit c).Settled := by
  have hall : ∀ d, ((s.forEachCircuit (State.leaveRecord cause)).circuit d).Settled :=
    forEachCircuit_records (fun t d => (frame_leaveRecord cause t d).apart) (P := RecordLaw)
      (fun _ _ hr => leaveRecord_settled cause hr) (fun d => (h d).1)
  unfold State.leaveUp
  generalize s.forEachCircuit (State.leaveRecord cause) = u at hall
  obtain ⟨b, hb⟩ := raise_circuit { u with loose := [] } (linkDownEvent cause s.liveDialledCount follows) c
  rw [hb]
  exact ⟨(hall c).1.withStale b, (hall c).2⟩

/-- The link leaves UP and enters another state (R160, R167, R168, R171). -/
theorem Lawful.leaveUp_then (h : Lawful s) (cause : Octet) (follows : LinkState) {t : State}
    (hc : t.circuits = (s.leaveUp cause follows).circuits) (ht : t.link.state ≠ .up) : Lawful t :=
  lawful_of_settled (fun c => by rw [circuit_of_circuits hc]; exact leaveUp_settled h cause follows c) ht

/-- The entry to DOWN from a state other than UP (R170). -/
theorem Lawful.enterDown (h : Lawful s) (hs : s.link.state ≠ .up) : Lawful s.enterDown :=
  h.link_down rfl hs (by simp [State.enterDown, State.onLink])

theorem Lawful.setPendingLink (h : Lawful s) (p : Option PendingLink) : Lawful (s.setPendingLink p) := h.same rfl rfl

/-- The fall of line-ready as the link meets it (R171). -/
theorem Lawful.linkLost (h : Lawful s) : Lawful s.linkLost := by
  have habort : s.abortTransmission.link = s.link := by
    unfold State.abortTransmission State.endPin
    repeat' split
    all_goals rfl
  unfold State.linkLost
  split
  · exact h
  · next hs => exact (h.abortTransmission.enterDown (by rw [habort, hs]; simp)).raise _
  · exact h.abortTransmission.leaveUp_then _ _ (onLink_circuits _ _) (by simp [State.enterDown, State.onLink])
  · next hs => exact h.abortTransmission.enterDown (by rw [habort, hs]; simp)

/-! ### The link reaches UP (R159) and the peer restarts (R161) -/

theorem frame_wakeRecord (agreed : Nat) (s : State) (c : CircuitNo) : EngineFrame c s (s.wakeRecord agreed c) := by
  unfold State.wakeRecord
  split
  · exact (frame_onCircuit ..).trans (frame_startDecision ..)
  · exact EngineFrame.refl ..

theorem frame_reagreeRecord (agreed : Nat) (s : State) (c : CircuitNo) :
    EngineFrame c s (s.reagreeRecord agreed c) := by
  unfold State.reagreeRecord
  split
  · exact (frame_onCircuit ..).trans (frame_startDecision ..)
  · exact EngineFrame.refl ..

theorem frame_restartRecord (s : State) (c : CircuitNo) : EngineFrame c s (s.restartRecord c) := by
  unfold State.restartRecord
  split
  iterate 2 exact ((frame_rewindSend ..).trans (frame_rewindRecv ..)).trans (frame_onCircuit ..)
  exact frame_leaveRecord ..

/-- A send context that runs, with nothing queued. -/
theorem fresh_running (peerReady : Bool) : (SendContext.fresh .idle peerReady).Running := by
  constructor <;> simp [SendContext.fresh]

/-- A DORMANT fixed circuit is woken, and any other record was none (R159). -/
theorem wakeRecord_awake (agreed : Nat) (h : RecordLaw (s.circuit c)) : ((s.wakeRecord agreed c).circuit c).Awake := by
  unfold State.wakeRecord
  split
  · next hk =>
    obtain ⟨hk, hs⟩ := hk
    have hx : RecordLaw { ((s.circuit c).enter .opened).agree agreed with send := SendContext.fresh .idle false } :=
      h.enterOpened (by simp [hs]) (h.peerPresent (.inr hs)) _ _ h.policy _ (h.no_openRequest (by simp [hs]))
        (fun k => by have := h.pendingOpen k; simp [hs] at this) h.pendingRefuse (fresh_running false)
    obtain ⟨hr, ho⟩ := startDecision_law (s := s.onCircuit c fun r => (r.enter .opened).agree agreed) (c := c)
      (x := SendContext.fresh .idle false) (by rw [circuit_onCircuit_self]; exact hx)
      (by rw [circuit_onCircuit_self]; rfl) (by rw [circuit_onCircuit_self]; exact h.no_active (by simp [hs])) false
    exact ⟨hr, fun k => by rw [State.resumeSend, ho] at k; cases k⟩
  · next hk => exact ⟨h, fun hs => hk ⟨h.dormant hs, hs⟩⟩

/-- The link reaches UP from another state (R159). -/
theorem Lawful.reachUp (h : Lawful s) (offered : Nat) (identity start : Word) :
    Lawful (s.reachUp offered identity start) := by
  unfold State.reachUp
  dsimp only
  refine (lawful_of_awake ?_ ?_).raise _
  · exact forEachCircuit_records (fun t d => (frame_wakeRecord _ t d).apart) (P := RecordLaw)
      (fun _ _ hr => wakeRecord_awake _ hr) (fun d => (h d).1)
  · rw [forEachCircuit_link (fun t d => (frame_wakeRecord _ t d).apart)]
    rfl

/-- A record between the two passes of a peer restart (R161): lawful, but for the send context of a fixed circuit in
OPEN, which has no active block and has still to be resumed. -/
structure CircuitRecord.Restarted (r : CircuitRecord) : Prop where
  reopened : r.kind = some .fixed ∧ r.state = .opened →
    RecordLaw { r with send := SendContext.fresh .idle false } ∧ r.send.active = none
  others   : ¬ (r.kind = some .fixed ∧ r.state = .opened) → r.Awake

/-- A fixed circuit in OPEN or REWINDING as the first pass of a peer restart leaves it (R161). -/
theorem rewound_restarted (h : RecordLaw (s.circuit c)) (hk : (s.circuit c).kind = some .fixed)
    (hs : (s.circuit c).state = .opened ∨ (s.circuit c).state = .rewinding) :
    ((((s.rewindSend c).rewindRecv c).onCircuit c (fun r =>
      { (r.enter .opened).emptyTransfer with protocol := none })).circuit c).Restarted := by
  have hc : (((s.rewindSend c).rewindRecv c).onCircuit c (fun r =>
      { (r.enter .opened).emptyTransfer with protocol := none })).circuit c =
      { ((s.circuit c).enter .opened).emptyTransfer with
        protocol := none, send := (s.circuit c).send.rewound, recv := (s.circuit c).recv.rewound } := by
    rw [circuit_onCircuit_self, rewindRecv_circuit, rewindSend_circuit]
    unfold CircuitRecord.stopSendTimer
    split <;> rfl
  have hne : (s.circuit c).state ≠ .opening := by rcases hs with hs | hs <;> simp [hs]
  have hx := h.enterOpened (by rcases hs with hs | hs <;> simp [hs])
    (h.peerPresent (.inl (by rcases hs with hs | hs <;> rw [hs] <;> rfl))) (s.circuit c).maxSegments
    (s.circuit c).roundLimit h.policy (s.circuit c).window (h.no_openRequest hne) (protocol := none) (by simp) (by simp)
    (fresh_running false)
  rw [hc]
  refine ⟨fun _ => ?_, fun k => absurd ⟨hk, rfl⟩ k⟩
  exact ⟨((hx.withTransfer (transfer := none) fun _ => rfl).withAnswer (answer := none) fun _ => rfl).withRecv _, rfl⟩

/-- The first pass of a peer restart (R161). -/
theorem restartRecord_restarted (h : (s.circuit c).Awake) : ((s.restartRecord c).circuit c).Restarted := by
  unfold State.restartRecord
  split
  · next hk hs => exact rewound_restarted h.1 hk (.inl hs)
  · next hk hs => exact rewound_restarted h.1 hk (.inr hs)
  · next hopen hrew =>
    have closed : ∀ {r : CircuitRecord}, RecordLaw r ∧ r.state = .closed → r.Restarted := by
      exact fun hr => ⟨fun k => by simp [hr.2] at k, fun _ => ⟨hr.1, by simp [hr.2]⟩⟩
    unfold State.leaveRecord
    split
    iterate 5
      next hs => exact closed (endCircuit_closed h.1 (by simp [hs]) _)
    · next hk hs => exact (hopen hk hs).elim
    · next hk hs => exact (hrew hk hs).elim
    · next hs =>
      rw [State.setProtocol, circuit_onCircuit_self]
      exact closed ⟨h.1.withProtocol (by simp) (by simp), hs⟩
    · exact ⟨fun k => (hopen k.1 k.2).elim, fun _ => h⟩

/-- The second pass of a peer restart (R161). -/
theorem reagreeRecord_awake (agreed : Nat) (h : (s.circuit c).Restarted) :
    ((s.reagreeRecord agreed c).circuit c).Awake := by
  unfold State.reagreeRecord
  split
  · next hk =>
    obtain ⟨hx, ha⟩ := h.reopened hk
    obtain ⟨hr, ho⟩ := startDecision_law (s := s.onCircuit c fun r => r.agree agreed) (c := c)
      (x := SendContext.fresh .idle false) (by rw [circuit_onCircuit_self]; exact hx.withMaxSegments _)
      (by rw [circuit_onCircuit_self]; exact hk.2) (by rw [circuit_onCircuit_self]; exact ha) false
    exact ⟨hr, fun k => by rw [State.resumeSend, ho] at k; cases k⟩
  · next hk => exact h.others hk

/-- The peer restart, the link staying UP (R161). -/
theorem Lawful.peerRestart (h : Lawful s) (hu : s.link.state = .up) (offered : Nat) (identity start : Word) :
    Lawful (s.peerRestart offered identity start) := by
  have hfirst : ∀ d, ((s.forEachCircuit State.restartRecord).circuit d).Restarted :=
    forEachCircuit_records (fun t d => (frame_restartRecord t d).apart) (P := CircuitRecord.Awake)
      (Q := CircuitRecord.Restarted) (fun _ _ hr => restartRecord_restarted hr) (h.awake hu)
  have hlink := forEachCircuit_link (fun t d => (frame_restartRecord t d).apart) s
  unfold State.peerRestart
  generalize s.forEachCircuit State.restartRecord = u at hfirst hlink
  dsimp only
  refine ((Lawful.setPendingLink (lawful_of_awake ?_ ?_) _).raise _).raise _
  · exact forEachCircuit_records (fun t d => (frame_reagreeRecord _ t d).apart) (P := CircuitRecord.Restarted)
      (Q := CircuitRecord.Awake) (fun _ _ hr => reagreeRecord_awake _ hr) hfirst
  · rw [forEachCircuit_link (fun t d => (frame_reagreeRecord _ t d).apart)]
    exact (congrArg Link.state hlink).trans hu

/-! ### INITIALISE (R23, R199) -/

/-- A record after INITIALISE is lawful and settled (R23). -/
theorem initialised_settled {r : CircuitRecord} (h : RecordLaw r) : r.initialised.Settled := by
  unfold CircuitRecord.initialised
  split
  · next hd =>
    obtain ⟨hk, hs⟩ : r.kind = some .fixed ∧ (r.state = .opened ∨ r.state = .rewinding ∨ r.state = .dormant) := by
      unfold CircuitRecord.isDefinition at hd
      cases hs : r.state <;> simp_all
    have hp := h.policy hk
    have hl := h.peerPresent (by rcases hs with hs | hs | hs <;> simp [hs, CircuitState.holdsPeerLabel])
    refine ⟨?_, rfl⟩
    constructor <;> simp [CircuitRecord.free, SendContext.fresh, hk, hp, hl]
  · exact ⟨law_free false, rfl⟩

/-- INITIALISE at its taking (R199). -/
theorem Lawful.takeInitialise (h : Lawful s) : Lawful s.takeInitialise := by
  refine Lawful.succeed (lawful_of_settled (fun c => ?_) ?_) _
  · have hc : s.abortTransmission.circuits = s.circuits := by
      unfold State.abortTransmission State.endPin
      repeat' split
      all_goals rfl
    have : (State.initialiseBuffers (State.initialiseRecords (State.initialiseLink
        { s.abortTransmission with controlPos := 63, dataPos := 63 }))).circuit c = (s.circuit c).initialised := by
      show (s.abortTransmission.circuits.map CircuitRecord.initialised)[c.val] = _
      rw [hc, Vector.getElem_map]
      rfl
    rw [this]
    exact initialised_settled (h c).1
  · simp [State.initialiseBuffers, State.initialiseRecords, State.initialiseLink, State.enterDown, State.onLink]

end

end Sys2Proof.Machine

/-! PROOFS. The expiries and the passing of a millisecond keep every record lawful (R14, R97, R158). -/

namespace Sys2Proof.Machine

section
variable {s : State} {c : CircuitNo}

/-! ### Expiries (R14, R97, R158) -/

theorem Lawful.expire (h : Lawful s) (purpose : TimerPurpose) {owner : State → State}
    (ho : ∀ u, Lawful u → Lawful (owner u)) : Lawful (s.expire c purpose owner) := by
  unfold State.expire
  split
  · exact ho _ h.stopTimer
  · exact h

theorem Lawful.openExpired (h : Lawful s) : Lawful (State.openExpired c s) := by
  unfold State.openExpired
  split
  · next hs => exact h.enterClosed (by simp [hs]) _ _ _ _ (by simp) (by simp)
  · exact h

theorem Lawful.offerExpired (h : Lawful s) : Lawful (State.offerExpired c s) := by
  unfold State.offerExpired
  split
  · exact ((h.requestLoose _).raise _).endRecord
  · exact h

/-- A poll frame pending again at an OPEN circuit, or poll exhaustion (R34, R35, R45). -/
theorem Lawful.pollAgain (h : Lawful s) (ho : (s.circuit c).state = .opened) (k : TransferKind) :
    Lawful (s.pollAgain c k) := by
  have hr := (h c).1.running ho
  unfold State.pollAgain
  split
  · exact (h.onSend ho ⟨hr.sender, hr.active, hr.idle, hr.held⟩).setTransfer fun q =>
      absurd (by simpa [State.onSend] using ho) q
  · exact h.pollExhausted ho

theorem Lawful.statusExpired (h : Lawful s) : Lawful (State.statusExpired c s) := by
  unfold State.statusExpired
  split
  · next ho _ => exact h.pollAgain ho _
  · next ho _ => exact h.pollAgain ho _
  · exact h

theorem Lawful.probeExpired (h : Lawful s) : Lawful (State.probeExpired c s) := by
  unfold State.probeExpired
  split
  · next ho _ => exact h.pollAgain ho _
  · exact h

/-- CLOSE or REWIND sent again, its timer running with a purpose of the circuit's state (R16). -/
theorem Lawful.retry (h : Lawful s) {k : ProtocolKind} (ho : k ≠ .openK) (hr : k ≠ .refuse) {purpose : TimerPurpose}
    (hm : (s.circuit c).state.mayRun purpose = true) (ms : Nat) : Lawful (s.retry c k purpose ms) := by
  have h1 : Lawful (s.setProtocol c (some k)) := h.setProtocol (by simpa using ho) (by simpa using hr)
  refine (h1.onCircuit_stays ((h1 c).1.withRetryCount _) rfl).startTimer ?_ ms
  simpa [State.setProtocol] using hm

theorem Lawful.closeExpired (h : Lawful s) : Lawful (State.closeExpired c s) := by
  unfold State.closeExpired
  split
  · next hs =>
    split
    · exact h.retry (by simp) (by simp) (by rw [hs]; rfl) _
    · exact h.finishClosing hs _ (by simp) (by simp)
  · exact h

theorem Lawful.rewindExpired (h : Lawful s) : Lawful (State.rewindExpired c s) := by
  unfold State.rewindExpired
  split
  · next hs =>
    split
    · exact h.retry (by simp) (by simp) (by rw [hs]; rfl) _
    · next hk =>
      exact h.enterClosing ((h c).1.dialled_of_not_fixed (by simp [hs]) fun q => hk (.inl q)) (.inr hs) _ _ _
  · exact h

/-- The link timer's expiry, whatever its owner does on a lawful state (R158). -/
theorem Lawful.expireLink (h : Lawful s) (purpose : LinkPurpose) {owner : State → State}
    (ho : ∀ u, Lawful u → Lawful (owner u)) : Lawful (s.expireLink purpose owner) := by
  unfold State.expireLink
  split
  · exact ho _ (h.same rfl rfl)
  · exact h

theorem Lawful.startExpired (h : Lawful s) : Lawful s.startExpired := by
  unfold State.startExpired
  split
  · exact h.same rfl rfl
  · exact h

theorem Lawful.stopExpired (h : Lawful s) : Lawful s.stopExpired := by
  unfold State.stopExpired
  split
  · next hs => exact h.enterDown (by simp [hs])
  · exact h

theorem Lawful.setLabel (h : Lawful s) (l : Label) (e : LabelEntry) : Lawful (s.setLabel l e) :=
  h.same (by simp) (by simp)

theorem Lawful.restExpired (h : Lawful s) (l : Label) : Lawful (s.restExpired l) := by
  unfold State.restExpired
  split
  · exact h.setLabel _ _
  · exact h
  · exact h

/-! ### One millisecond (R14) -/

theorem age_circuit (s : State) (c : CircuitNo) :
    s.age.circuit c = { s.circuit c with timer := (s.circuit c).timer.map CircuitTimer.aged } := by
  simp [State.age, State.circuit]

theorem Lawful.age (h : Lawful s) : Lawful s.age := by
  intro d
  rw [age_circuit]
  refine ⟨(h d).1.withTimer fun t ht => ?_, (h d).2⟩
  obtain ⟨t', ht', rfl⟩ := Option.map_eq_some_iff.1 ht
  exact (h d).1.timer t' ht'

theorem Lawful.expireDue (h : Lawful s) : Lawful (s.expireDue c) := by
  unfold State.expireDue
  split
  · next purpose _ =>
    cases purpose with
    | openT => exact h.expire _ fun _ hu => hu.openExpired
    | offer => exact h.expire _ fun _ hu => hu.offerExpired
    | status => exact h.expire _ fun _ hu => hu.statusExpired
    | probe => exact h.expire _ fun _ hu => hu.probeExpired
    | close => exact h.expire _ fun _ hu => hu.closeExpired
    | rewind => exact h.expire _ fun _ hu => hu.rewindExpired
  · exact h

theorem Lawful.expireLinkDue (h : Lawful s) : Lawful s.expireLinkDue := by
  unfold State.expireLinkDue
  split
  · exact h.expireLink _ fun _ hu => hu.startExpired
  · exact h.expireLink _ fun _ hu => hu.stopExpired
  · exact h

theorem Lawful.foldl {f : State → CircuitNo → State} (hf : ∀ u d, Lawful u → Lawful (f u d)) (l : List CircuitNo)
    (h : Lawful s) : Lawful (l.foldl f s) := by
  induction l generalizing s with
  | nil => exact h
  | cons d l ih => exact ih (hf s d h)

theorem Lawful.tick (h : Lawful s) : Lawful s.tick := by
  unfold State.tick
  split
  · exact h
  · exact (h.age.foldl (fun _ _ hu => hu.expireDue) _).expireLinkDue

end

end Sys2Proof.Machine

/-! PROOFS. The takings of the host commands and the accesses of the host keep every record lawful (R90, R194, R196). -/

namespace Sys2Proof.Machine

section
variable {s : State} {c : CircuitNo}

/-! ### Takings of the host commands (R196) -/

theorem Lawful.taking (h : Lawful s) (command : Instr) {body : State → State} (hb : Lawful (body s)) :
    Lawful (s.taking command body) := by
  unfold State.taking
  split
  · exact hb
  · exact h

/-- A command acts on a circuit in use, or is refused (R2). -/
theorem Lawful.withCircuit (h : Lawful s) (n : Nat) {body : CircuitNo → State}
    (hb : ∀ c, (s.circuit c).state ≠ .free → Lawful (body c)) : Lawful (s.withCircuit n body) := by
  unfold State.withCircuit
  split
  · exact h.reject _
  · next c hc =>
    unfold State.namedCircuit at hc
    split at hc
    · split at hc
      · cases hc
      · next hn hf => cases hc; exact hb _ hf
    · cases hc

/-- The link record changed in anything but its state. -/
theorem Lawful.onLink (h : Lawful s) {f : Link → Link} (hf : (f s.link).state = s.link.state) : Lawful (s.onLink f) :=
  h.same rfl hf

theorem Lawful.takeSetLink (h : Lawful s) : Lawful s.takeSetLink := by
  unfold State.takeSetLink
  split
  · exact h.reject _
  · split
    · exact h.reject _
    · split
      · exact h.reject _
      · exact (h.onLink rfl).succeed _

theorem Lawful.takeReadLink (h : Lawful s) : Lawful s.takeReadLink := by
  unfold State.takeReadLink
  split
  · exact Lawful.succeed (s := { s with linkStale := false }) (h.same rfl rfl) _
  iterate 3 exact h.succeed _
  exact h.reject _

theorem Lawful.takeStartLink (h : Lawful s) : Lawful s.takeStartLink := by
  unfold State.takeStartLink
  split
  · exact h.reject _
  · next hs =>
    split
    · exact h.reject _
    · have hd : s.link.state = .down := Classical.byContradiction hs
      have ht : s.enterStarting.link.state ≠ .up := by simp [State.enterStarting, State.onLink]
      exact (h.link_down (onLink_circuits _ _) (by simp [hd]) ht).succeed _

theorem Lawful.takeStopLink (h : Lawful s) : Lawful s.takeStopLink := by
  unfold State.takeStopLink
  split
  · exact h.reject _
  · next hs => exact (h.enterDown (by simp [hs])).succeed _
  · refine Lawful.succeed ?_ _
    unfold State.stopFromUp State.enterStopping
    exact h.leaveUp_then Cause.linkStop .stopping (onLink_circuits _ _) (by simp [State.onLink])
  · exact h.reject _

theorem Lawful.setListen (h : Lawful s) (k : Fin 16) (e : Option ListenEntry) : Lawful (s.setListen k e) :=
  h.same rfl rfl

theorem Lawful.takeListen (h : Lawful s) : Lawful s.takeListen := by
  unfold State.takeListen
  split
  · split
    · exact h.reject _
    · split
      · exact h.reject _
      · split
        · exact h.reject _
        · exact (h.setListen _ _).succeed _
  · exact h.reject _

theorem Lawful.takeUnlisten (h : Lawful s) : Lawful s.takeUnlisten := by
  unfold State.takeUnlisten
  split
  · exact h.reject _
  · exact (h.setListen _ _).succeed _

theorem Lawful.takeReadListen (h : Lawful s) : Lawful s.takeReadListen := by
  unfold State.takeReadListen
  split
  · exact h.succeed _
  · exact h.reject _

theorem Lawful.openCircuit (h : Lawful s) (service : Word) (limits : Limits) (requested : Nat) (data : List Octet) :
    Lawful (s.openCircuit service limits requested data) := by
  unfold State.openCircuit
  split
  · exact h.reject _
  · next hu =>
    split
    · exact h.reject _
    · split
      · exact h.reject _
      · exact h.reject _
      · exact (h.createDialled _ (Classical.byContradiction hu) (law_openingRecord ..)
          (by simp [openingRecord])).succeed _

theorem Lawful.takeOpen (h : Lawful s) : Lawful s.takeOpen := by
  unfold State.takeOpen
  split
  · exact h.reject _
  · split
    · exact h.reject _
    · split
      · exact h.reject _
      · exact h.openCircuit _ _ _ _

/-- ANSWER with accept opens an OFFERED record (R122). -/
theorem Lawful.acceptOffer (h : Lawful s) (hs : (s.circuit c).state = .offered) {limits : Limits} (agreed : Nat) :
    Lawful (s.acceptOffer c limits agreed) := by
  have hk := (h c).1.dialled (by simp [hs])
  have hx := (h c).1.enterOpened (by simp [hs]) ((h c).1.peerPresent (.inl (by rw [hs]; rfl))) (some agreed)
    limits.roundLimit (policy := some limits.policy) (fun k => by rw [hk] at k; cases k) limits.window
    ((h c).1.no_openRequest (by simp [hs])) (protocol := some .accept) (by simp) (by simp) (fresh_running false)
  refine h.startDecision (frame_onCircuit ..).apart (x := SendContext.fresh .idle false) ?_ ?_ ?_
    (h.up (c := c) (by rw [hs]; rfl)) false
  · rw [circuit_onCircuit_self]; exact hx
  · rw [circuit_onCircuit_self]; rfl
  · rw [circuit_onCircuit_self]; exact (h c).1.no_active (by simp [hs])

theorem Lawful.takeAnswerCommand (h : Lawful s) : Lawful s.takeAnswerCommand := by
  refine h.withCircuit _ fun c _ => ?_
  split
  · exact h.reject _
  · next hs =>
    split
    · split
      · exact h.reject _
      · split
        · exact h.reject _
        · exact (h.acceptOffer (Classical.byContradiction hs) _).succeed _
    · exact (((h.requestLoose _).endRecord).countFree _).succeed _
    · exact h.reject _

theorem Lawful.takeClose (h : Lawful s) : Lawful s.takeClose := by
  refine h.withCircuit _ fun c hf => ?_
  unfold State.closeCircuit
  split
  · exact ((h.enterClosed hf _ _ _ _ (by simp) (by simp)).countFree _).succeed _
  · next hs hk => exact ((h.enterClosing hk (.inl hs) _ _ _).countFree _).succeed _
  · next hs hk => exact ((h.enterClosing hk (.inr hs) _ _ _).countFree _).succeed _
  · exact h.reject _

theorem Lawful.takeRewind (h : Lawful s) : Lawful s.takeRewind := by
  refine h.withCircuit _ fun c _ => ?_
  split
  · next hs => exact (h.enterRewinding hs _ _).succeed _
  · exact h.reject _

theorem Lawful.takeRetire (h : Lawful s) : Lawful s.takeRetire := by
  refine h.withCircuit _ fun c _ => ?_
  split
  · refine Lawful.succeed (Lawful.endRecord (h.same ?_ ?_)) _
    · rw [foldl_freeDescriptor_eq]
    · rw [foldl_freeDescriptor_eq]
  · exact h.reject _

/-- The limits of a fixed circuit never have the policy CLOSE (R6). -/
theorem limitsOf_fixed {roundLimit policy window : Nat} {limits : Limits}
    (h : limitsOf roundLimit policy window true = some limits) : limits.policy ≠ .close := by
  unfold limitsOf at h
  split at h
  · next p w hp _ =>
    cases h
    intro hc
    cases hc
    unfold policyOf at hp
    split at hp <;> simp at hp
  · cases h

theorem Lawful.fixCircuit (h : Lawful s) (peer : Label) (service : Word) (maximum : Nat) {limits : Limits}
    (hp : limits.policy ≠ .close) : Lawful (s.fixCircuit peer service maximum limits) := by
  unfold State.fixCircuit
  split
  · exact h.reject _
  · next hs =>
    have hd : s.link.state = .down := Classical.byContradiction hs
    split
    · exact h.reject _
    · split
      · exact h.reject _
      · split
        · exact h.reject _
        · next c _ =>
          refine Lawful.succeed ((h.setLabel _ _).apart (frame_setCircuit _ c _).apart ?_ ?_) _
          · rw [circuit_setCircuit_self]; exact law_fixedRecord _ _ _ _ _ hp
          · rw [circuit_setCircuit_self, setLabel_link, hd]
            exact ⟨fun _ => rfl, fun k => by cases k⟩

theorem Lawful.takeFix (h : Lawful s) : Lawful s.takeFix := by
  unfold State.takeFix
  split
  · split
    · exact h.reject _
    · split
      · exact h.reject _
      · next hl => exact h.fixCircuit _ _ _ (limitsOf_fixed hl)
  · exact h.reject _

theorem Lawful.takeUnfix (h : Lawful s) : Lawful s.takeUnfix := by
  refine h.withCircuit _ fun c hf => ?_
  split
  · exact (h.toClosed hf _ _ _ _ (by simp) (by simp)).succeed _
  · exact h.reject _

theorem Lawful.takeReadCircuit (h : Lawful s) : Lawful s.takeReadCircuit := by
  unfold State.takeReadCircuit
  split
  · split
    · exact h.reject _
    · split
      · exact (h.onCircuit_stays ((h _).1.withStale false) rfl).succeed _
      · exact h.succeed _
  · exact h.reject _

/-- The unsolicited READY keeps a record lawful, in its state (R20, R70). -/
theorem RecordLaw.offerReady {r : CircuitRecord} (h : RecordLaw r) :
    RecordLaw r.offerReady ∧ r.offerReady.state = r.state := by
  unfold CircuitRecord.offerReady
  split
  · next hr => exact ⟨(h.withAnswer (answer := some .ready) fun k => absurd hr.1 k).withRecv _, rfl⟩
  · exact ⟨h, rfl⟩

theorem Lawful.takeSetCircuit (h : Lawful s) : Lawful s.takeSetCircuit := by
  refine h.withCircuit _ fun c _ => ?_
  split
  · exact h.reject _
  · next limits hl =>
    split
    · exact h.reject _
    · have hp : (s.circuit c).kind = some .fixed → some limits.policy ≠ some .close := by
        intro hk hc
        rw [hk] at hl
        exact limitsOf_fixed hl (Option.some.inj hc)
      obtain ⟨hr, hs⟩ := ((h c).1.withLimits limits.roundLimit limits.window hp).offerReady
      exact (h.onCircuit_stays (f := fun r => r.setLimits limits) hr hs).succeed _

theorem Lawful.takeAlloc (h : Lawful s) : Lawful s.takeAlloc := by
  unfold State.takeAlloc
  dsimp only
  split
  · exact h.reject _
  · split
    · exact h.reject _
    · split
      · exact h.reject _
      · exact (h.setDescriptor _ _).succeed _

theorem Lawful.takeFree (h : Lawful s) : Lawful s.takeFree := by
  unfold State.takeFree
  split
  · exact h.reject _
  · exact (h.freeDescriptor _).succeed _

/-- A block that joins the send queue, with the start decision it asks for (R27, R29). -/
theorem Lawful.enqueue (h : Lawful s) (d : DescNo) (length : Nat) (tag : Word) :
    Lawful ((s.enqueue c d length tag).startIfIdle c) := by
  have hc : (s.enqueue c d length tag).circuit c =
      { s.circuit c with send := { (s.circuit c).send with queue := (s.circuit c).send.queue ++ [d] } } := by
    unfold State.enqueue State.onSend
    rw [circuit_onCircuit_self]
    rfl
  have hf : Apart c s (s.enqueue c d length tag) := ((frame_onDescriptor ..).trans (frame_onSend ..)).apart
  unfold State.startIfIdle
  split
  · next hs =>
    rw [hc] at hs
    obtain ⟨ho, hi⟩ := hs
    refine h.startDecision hf (x := (s.circuit c).send) ?_ ?_ ?_ (h.up_of_opened ho) false
    · rw [hc]; exact (h c).1
    · rw [hc]; exact ho
    · rw [hc]
      have := (h c).1.active
      simpa [show (s.circuit c).send.sender = .idle from hi] using this
  · next hs =>
    rw [hc] at hs
    refine h.apart hf ?_ ?_
    · rw [hc]
      refine (h c).1.withQueue (fun hi => hs ⟨(h c).1.opened_of_sender ?_, hi⟩) (by simp)
      rw [hi]; simp
    · rw [hc]; exact (h c).2

theorem Lawful.takeSubmit (h : Lawful s) : Lawful s.takeSubmit := by
  refine h.withCircuit _ fun c _ => ?_
  split
  · exact h.reject _
  · unfold State.submitTo
    dsimp only
    iterate 4
      split
      · exact h.reject _
    exact ((h.enqueue _ _ _).countFree _).succeed _

theorem Lawful.takeTake (h : Lawful s) : Lawful s.takeTake := by
  refine h.withCircuit _ fun c _ => ?_
  split
  · exact h.reject _
  · split
    · exact h.reject _
    · next d rest _ =>
      have h1 : Lawful ((s.onDescriptor d (fun x => { x with state := .held })).onRecv c (fun x =>
          { x with delivered := rest })) := (h.setDescriptor _ _).onRecv _
      obtain ⟨hr, hs⟩ := (h1 c).1.offerReady
      exact (h1.onCircuit_stays hr hs).succeed _

theorem Lawful.takeReadDescriptor (h : Lawful s) : Lawful s.takeReadDescriptor := by
  unfold State.takeReadDescriptor
  split
  · exact h.reject _
  · split
    · exact h.reject _
    · split <;> exact h.succeed _

theorem Lawful.takeReadLabel (h : Lawful s) : Lawful s.takeReadLabel := by
  unfold State.takeReadLabel
  split
  · exact h.reject _
  · split <;> exact h.succeed _

/-! ### Accesses of the host, the line and the start-up period -/

theorem Lawful.writeRegister (h : Lawful s) (address : WordAddress) (value : Word) :
    Lawful (s.writeRegister address value) := by
  have hw : (s.writeRegister address value).circuits = s.circuits ∧ (s.writeRegister address value).link = s.link := by
    unfold State.writeRegister State.writeCommand State.writeParam
    dsimp only
    repeat' split
    all_goals exact ⟨rfl, rfl⟩
  exact h.same hw.1 (congrArg _ hw.2)

theorem Lawful.reportRefusal (h : Lawful s) (p : Nat) : Lawful (s.reportRefusal p) := by
  unfold State.reportRefusal
  split
  · exact h
  · exact Lawful.raise (s := { s with latch := some p }) (h.same rfl rfl) _

theorem Lawful.readPacket (h : Lawful s) (address : WordAddress) : Lawful (s.readPacket address) := by
  unfold State.readPacket
  split
  · exact h.same rfl rfl
  · split
    · exact h.same rfl rfl
    · exact Lawful.reportRefusal (s := { s with dataBus := 0 }) (h.same rfl rfl) _

theorem Lawful.writePacket (h : Lawful s) (address : WordAddress) (value : Word) :
    Lawful (s.writePacket address value) := by
  unfold State.writePacket
  split
  · exact h
  · split
    · exact h.same rfl rfl
    · exact h.reportRefusal _

/-- The state after reset is lawful (R22). -/
theorem lawful_reset : Lawful State.reset := by
  intro d
  have hd : State.reset.circuit d = CircuitRecord.free false := by simp [State.circuit, State.reset]
  rw [hd]
  exact ⟨law_free false, LinkState.allows_free _⟩

end

end Sys2Proof.Machine

/-! PROOFS. The arrivals, the transmitter, and so every row and every step keep every record lawful and in agreement
with the link (R11, R154): the settling of RecordsAndLinkAreKept. -/

namespace Sys2Proof.Machine

section
variable {s : State} {c : CircuitNo}

/-! ### Arrivals (R102 to R104, R180) -/

theorem Lawful.arrive (h : Lawful s) (f : Frame) {owner : State → State} (ho : ∀ u, Lawful u → Lawful (owner u)) :
    Lawful (s.arrive f owner) := by
  unfold State.arrive
  split
  · split
    · exact ho _ (h.same rfl rfl)
    · exact h.same rfl rfl
  · exact h

/-- A circuit frame is discarded, or dispatched while the link is UP (R102 to R104). -/
theorem Lawful.dispatch (h : Lawful s) (dst : Label) {bound : CircuitNo → State → State} {unbound : State → State}
    (hb : ∀ c, s.link.state = .up → Lawful (bound c s)) (hu : Lawful (unbound s)) :
    Lawful (s.dispatch dst bound unbound) := by
  unfold State.dispatch
  split
  · next hl =>
    split
    · exact hb _ hl.1
    · exact hu
    · exact hu
  · exact h

theorem Lawful.dispatchOpen (h : Lawful s) (dst : Label) {taken : CircuitNo → State → State}
    (ht : ∀ c, (s.circuit c).state = .opened → Lawful (taken c s)) : Lawful (s.dispatchOpen dst taken) := by
  refine h.dispatch dst (fun c _ => ?_) h
  split
  · next ho => exact ht c ho
  · exact h

/-- The record that holds a peer label is OFFERED, OPEN, REWINDING or CLOSING (R107, R108). -/
theorem peerHolder_holds {l : Label} (h : s.peerHolder l = some c) : (s.circuit c).state.holdsPeerLabel = true := by
  have := List.find?_some h
  simp only [Bool.and_eq_true] at this
  exact this.1

theorem ne_free_of_holds {x : CircuitState} (h : x.holdsPeerLabel = true) : x ≠ .free := by
  rintro rfl; cases h

/-! ### OPEN (R117) -/

theorem Lawful.openListed (h : Lawful s) (hu : s.link.state = .up) (x : OpenFields) : Lawful (s.openListed x) := by
  unfold State.openListed
  split
  · exact h.requestLoose _
  · split
    · exact h.requestLoose _
    · next e _ =>
      split
      · split
        · exact (h.createDialled _ hu (law_autoRecord x e _) (by simp [autoRecord])).raise _
        · exact (h.createDialled _ hu (law_offeredRecord x e _) (by simp [offeredRecord])).raise _
      · exact h.requestLoose _

theorem Lawful.openFrameAt (h : Lawful s) (dst : Label) (x : OpenFields) : Lawful (s.openFrameAt dst x) := by
  unfold State.openFrameAt
  split
  · next hl =>
    unfold State.openAt
    split
    · exact h.openListed hl.1 x
    · next c hc =>
      split
      · exact h.requestLoose _
      · refine (h.endCircuit (ne_free_of_holds (peerHolder_holds hc)) _).openListed ?_ x
        rw [(frame_endCircuit ..).link]
        exact hl.1
  · exact h

/-! ### ACCEPT (R127, R128) -/

/-- An ACCEPT opens an OPENING record (R128). -/
theorem Lawful.openByAccept (h : Lawful s) (hs : (s.circuit c).state = .opening) (src : Label) (agreed : Nat) :
    Lawful (s.openByAccept c src agreed) := by
  have hk := (h c).1.dialled (.inl hs)
  have hw : (s.circuit c).withoutPending .openK ≠ some .openK ∧ (s.circuit c).withoutPending .openK ≠ some .refuse := by
    unfold CircuitRecord.withoutPending
    split
    · simp
    · next hp => exact ⟨hp, (h c).1.pendingRefuse⟩
  have hx := (h c).1.enterOpened (by simp [hs]) (peerLabel := some src) rfl (some agreed) (s.circuit c).roundLimit
    (policy := (s.circuit c).policy) (fun k => by rw [hk] at k; cases k) (s.circuit c).window (openRequest := none) rfl
    hw.1 hw.2 (fresh_running false)
  unfold State.openByAccept
  dsimp only
  generalize hv : s.onCircuit c _ = v
  have hc : v.circuit c = { (s.circuit c).enter .opened with
      peerLabel := some src, maxSegments := some agreed, openRequest := none
      protocol := (s.circuit c).withoutPending .openK, send := { (s.circuit c).send with peerReady := true } } := by
    rw [← hv, circuit_onCircuit_self]
  have hf : EngineFrame c s v := hv ▸ frame_onCircuit ..
  obtain ⟨b, hb⟩ := raise_circuit v ((v.circuit c).openedEvent c) c
  refine h.startDecision (hf.trans (frame_raise v rfl)).apart (x := SendContext.fresh .idle false) ?_ ?_ ?_
    (h.up (c := c) (by rw [hs]; rfl)) false
  · rw [hb, hc]; exact hx.withStale b
  · rw [hb, hc]; rfl
  · rw [hb, hc]; exact (h c).1.no_active (by simp [hs])

theorem Lawful.refuseAccept (h : Lawful s) (hs : (s.circuit c).state = .opening) (src : Label) :
    Lawful (s.refuseAccept c src) := by
  refine (h.requestLoose _).enterClosed ?_ _ _ _ _ (by simp) (by simp)
  rw [circuit_of_circuits (requestLoose_circuits _ _), hs]
  simp

theorem Lawful.acceptOpening (h : Lawful s) (hs : (s.circuit c).state = .opening) (src : Label) (agreed : Nat) :
    Lawful (s.acceptOpening c src agreed) := by
  unfold State.acceptOpening
  split
  · split
    · exact h.openByAccept hs src agreed
    · next d hd =>
      split
      · exact h.refuseAccept hs src
      · have hp := peerHolder_holds hd
        have hne : c ≠ d := by
          rintro rfl
          rw [hs] at hp
          cases hp
        refine (h.endCircuit (ne_free_of_holds hp) _).openByAccept ?_ src agreed
        rw [(frame_endCircuit ..).others c hne]
        exact hs
  · exact h.refuseAccept hs src

theorem Lawful.acceptAt (h : Lawful s) (dst src : Label) (agreed : Octet) : Lawful (s.acceptAt dst src agreed) := by
  unfold State.acceptAt
  split
  · exact h
  · refine h.dispatch dst (fun c _ => ?_) (h.requestLoose _)
    split
    · next hs => exact h.acceptOpening hs _ _
    · exact h.requestLoose _

/-! ### REFUSE, CLOSE, CLOSE-DONE, REWIND and REWIND-DONE (R130, R138, R139, R146 to R148) -/

theorem Lawful.refuseAt (h : Lawful s) (dst : Label) (cause diagnostic : Octet) :
    Lawful (s.refuseAt dst cause diagnostic) := by
  refine h.dispatch dst (fun c _ => ?_) h
  split
  · next hs => exact h.enterClosed (by simp [hs]) _ _ _ _ (by simp) (by simp)
  · exact h

theorem Lawful.closeDialled (h : Lawful s) (dst src : Label) (cause diagnostic : Octet) :
    Lawful (s.closeDialled c dst src cause diagnostic) := by
  unfold State.closeDialled
  split
  · next hs => exact h.enterClosed (by simp [hs]) _ _ _ _ (by simp) (by simp)
  · next hs => exact h.enterClosed (by simp [hs]) _ _ _ _ (by simp) (by simp)
  · next hs => exact h.finishClosing hs _ (by simp) (by simp)
  · unfold State.closeRepeated
    split
    · exact h.setProtocol (by simp) (by simp)
    · exact h.requestLoose _
  all_goals exact h

theorem Lawful.closeAt (h : Lawful s) (dst src : Label) (cause diagnostic : Octet) :
    Lawful (s.closeAt dst src cause diagnostic) := by
  unfold State.closeAt
  split
  · exact h
  · refine h.dispatch dst (fun c _ => ?_) (h.requestLoose _)
    split
    · exact h
    · exact h.closeDialled _ _ _ _

theorem Lawful.closeDoneAt (h : Lawful s) (dst : Label) : Lawful (s.closeDoneAt dst) := by
  refine h.dispatch dst (fun c _ => ?_) h
  split
  · next hs => exact h.finishClosing hs _ (by simp) (by simp)
  · exact h

theorem Lawful.rewindTaken (h : Lawful s) (cause : Octet) : Lawful (s.rewindTaken c cause) := by
  unfold State.rewindTaken
  split
  · next hs => exact h.rewindInOpen hs cause
  · next hs => exact h.finishRewinding hs (by simp) (by simp)
  all_goals exact h

theorem Lawful.rewindDoneTaken (h : Lawful s) : Lawful (s.rewindDoneTaken c) := by
  unfold State.rewindDoneTaken
  split
  · next hs =>
    have hp : (s.circuit c).withoutPending .rewind ≠ some .openK ∧
        (s.circuit c).withoutPending .rewind ≠ some .refuse := by
      unfold CircuitRecord.withoutPending
      split
      · simp
      · exact ⟨fun k => by have := (h c).1.pendingOpen k; simp [hs] at this, (h c).1.pendingRefuse⟩
    exact h.finishRewinding hs hp.1 hp.2
  · exact h

/-! ### Link frames (R163 to R168) -/

theorem Lawful.linkStartAt (h : Lawful s) (version maxSegments : Octet) (identity startNumber : Word) :
    Lawful (s.linkStartAt version maxSegments identity startNumber) := by
  unfold State.linkStartAt
  split
  · exact h
  · split
    · unfold State.loopSeen
      split
      · exact Lawful.raise (s := s.onLink fun l => { l with looped := true }) (h.onLink rfl) _
      · exact h
    · split
      · exact h.setPendingLink _
      · split
        · unfold State.startTaken
          split
          · exact (h.setPendingLink _).reachUp _ _ _
          · next hu =>
            split
            · exact h.setPendingLink _
            · exact h.peerRestart hu _ _ _
          · exact h
          · exact h
        · exact h

theorem Lawful.linkAgreeAt (h : Lawful s) (maxSegments : Octet) (identity startNumber : Word) :
    Lawful (s.linkAgreeAt maxSegments identity startNumber) := by
  unfold State.linkAgreeAt
  split
  · exact (h.setPendingLink _).reachUp _ _ _
  · exact h

theorem Lawful.linkStopAt (h : Lawful s) (cause : Octet) : Lawful (s.linkStopAt cause) := by
  have hn : Lawful (s.noteStop cause) := h.onLink rfl
  unfold State.linkStopAt
  split
  · exact h
  · exact hn
  · exact hn.leaveUp_then _ _ (onLink_circuits _ _) (by simp [State.enterStopping, State.onLink])
  · next hs => exact hn.enterDown (by simp [State.noteStop, State.onLink, hs])

/-! ### The transmitter (R187 to R191) -/

theorem Lawful.startClaim (h : Lawful s) (claim : Claim) : Lawful (s.startClaim claim) := by
  cases claim with
  | link p => exact (h.setPendingLink none).same rfl rfl
  | loose reply => exact h.same rfl rfl
  | protocol c k => exact (h.setProtocol (c := c) (k := none) (by simp) (by simp)).same rfl rfl
  | answer c k =>
    have ha : Lawful (s.setAnswer c none) := h.setAnswer fun _ => rfl
    exact (ha.onCircuit_stays (f := CircuitRecord.reportReady) ((ha c).1.withRecv _) rfl).same rfl rfl
  | transfer c k => exact (h.setTransfer (c := c) (k := none) fun _ => rfl).same rfl rfl
  | data c a i => exact h.same rfl rfl

theorem Lawful.startTransmission (h : Lawful s) : Lawful s.startTransmission := by
  unfold State.startTransmission
  split
  · exact h.startClaim _
  · exact h

theorem Lawful.reportToSender (h : Lawful s) (f : Frame) : Lawful (s.reportToSender c f) := by
  unfold State.reportToSender
  split
  · exact h.segSent _ _
  · exact h.blockEndSent _
  · exact h.blockAbandonSent _
  · exact h.probeSent
  · exact h

theorem Lawful.linkFrameSent (h : Lawful s) (f : Frame) : Lawful (s.linkFrameSent f) := by
  unfold State.linkFrameSent
  split
  · split
    · next hs => exact h.enterDown (by simp [hs.1])
    · exact h
  · exact h

theorem Lawful.endTransmission (h : Lawful s) : Lawful s.endTransmission := by
  unfold State.endTransmission
  split
  · exact h
  · next t _ =>
    have hr : Lawful (s.reportEnd t) := by
      unfold State.reportEnd
      split
      · exact h.linkFrameSent _
      · exact h
      · refine Lawful.endPin ?_ _
        split
        · exact h
        · exact h.reportToSender _
    exact hr.same rfl rfl

/-! ### Every row and every step -/

/-- A lawful state, where an outcome is one. -/
def LawfulOutcome : Host.Outcome State Fault Refusal → Prop
  | .next t => Lawful t
  | .fault _ => True
  | .refused _ => True

/-- Every row of the table keeps every record lawful and in agreement with the link. -/
theorem exec_lawful (h : Lawful s) (i : Instr) : LawfulOutcome (exec i s) := by
  cases i with
  | setLink => exact h.taking _ h.takeSetLink
  | readLink => exact h.taking _ h.takeReadLink
  | startLink => exact h.taking _ h.takeStartLink
  | stopLink => exact h.taking _ h.takeStopLink
  | listen => exact h.taking _ h.takeListen
  | unlisten => exact h.taking _ h.takeUnlisten
  | readListen => exact h.taking _ h.takeReadListen
  | openCommand => exact h.taking _ h.takeOpen
  | answer => exact h.taking _ h.takeAnswerCommand
  | closeCommand => exact h.taking _ h.takeClose
  | rewindCommand => exact h.taking _ h.takeRewind
  | retire => exact h.taking _ h.takeRetire
  | fix => exact h.taking _ h.takeFix
  | unfix => exact h.taking _ h.takeUnfix
  | readCircuit => exact h.taking _ h.takeReadCircuit
  | setCircuit => exact h.taking _ h.takeSetCircuit
  | alloc => exact h.taking _ h.takeAlloc
  | freeCommand => exact h.taking _ h.takeFree
  | submit => exact h.taking _ h.takeSubmit
  | take => exact h.taking _ h.takeTake
  | readDescriptor => exact h.taking _ h.takeReadDescriptor
  | readPool => exact h.taking _ (h.same rfl rfl)
  | initialise => exact h.taking _ h.takeInitialise
  | readLabel => exact h.taking _ h.takeReadLabel
  | unknownCommand =>
    show Lawful (if _ then _ else _)
    split
    · exact h.reject _
    · exact h
  | registerWrite address value => exact h.writeRegister address value
  | portControlWrite value => exact h.same rfl rfl
  | eventPop => exact h.same rfl rfl
  | packetMemoryRead address => exact h.readPacket address
  | packetMemoryWrite address value => exact h.writePacket address value
  | hardwareReset => exact lawful_reset.same rfl rfl
  | startUpEnd =>
    show Lawful (if _ then _ else _)
    split
    · exact h.same rfl rfl
    · exact h
  | lineReadyFall =>
    show Lawful (if _ then _ else _)
    split
    · exact Lawful.linkLost (h.same rfl rfl)
    · exact h
  | lineReadyRise => exact h.same rfl rfl
  | candidateDiscard octets =>
    show Lawful (if _ then _ else _)
    split
    · exact h.same rfl rfl
    · exact h
  | linkStartArrival version maxSegments identity startNumber =>
    exact h.arrive _ fun _ hu => hu.linkStartAt version maxSegments identity startNumber
  | linkAgreeArrival maxSegments identity startNumber =>
    exact h.arrive _ fun _ hu => hu.linkAgreeAt maxSegments identity startNumber
  | linkStopArrival cause => exact h.arrive _ fun _ hu => hu.linkStopAt cause
  | openFrameArrival dst src requested service data => exact h.arrive _ fun _ hu => hu.openFrameAt dst _
  | acceptArrival dst src agreed => exact h.arrive _ fun _ hu => hu.acceptAt dst src agreed
  | refuseArrival dst src cause diagnostic => exact h.arrive _ fun _ hu => hu.refuseAt dst cause diagnostic
  | closeFrameArrival dst src cause diagnostic => exact h.arrive _ fun _ hu => hu.closeAt dst src cause diagnostic
  | closeDoneArrival dst src => exact h.arrive _ fun _ hu => hu.closeDoneAt dst
  | rewindFrameArrival dst cause =>
    exact h.arrive _ fun _ hu => hu.dispatch dst (fun _ _ => hu.rewindTaken cause) hu
  | rewindDoneArrival dst => exact h.arrive _ fun _ hu => hu.dispatch dst (fun _ _ => hu.rewindDoneTaken) hu
  | segArrival dst number index payload =>
    exact h.arrive _ fun _ hu => hu.dispatchOpen dst fun _ ho => hu.segAt ho number index.toNat payload
  | blockEndArrival dst number count =>
    exact h.arrive _ fun _ hu => hu.dispatchOpen dst fun _ ho => hu.blockEndAt ho number count.toNat
  | blockAbandonArrival dst number =>
    exact h.arrive _ fun _ hu => hu.dispatchOpen dst fun _ ho => hu.blockAbandonAt ho number
  | blockStatusArrival dst number outcome ready =>
    exact h.arrive _ fun _ hu => hu.dispatchOpen dst fun _ _ => hu.statusAt number outcome ready
  | probeArrival dst => exact h.arrive _ fun _ hu => hu.dispatchOpen dst fun _ ho => hu.probeAt ho
  | readyArrival dst ready => exact h.arrive _ fun _ hu => hu.dispatchOpen dst fun _ _ => hu.readyAt ready
  | openTimerExpiry circuit => exact h.expire _ fun _ hu => hu.openExpired
  | offerTimerExpiry circuit => exact h.expire _ fun _ hu => hu.offerExpired
  | statusTimerExpiry circuit => exact h.expire _ fun _ hu => hu.statusExpired
  | probeTimerExpiry circuit => exact h.expire _ fun _ hu => hu.probeExpired
  | closeTimerExpiry circuit => exact h.expire _ fun _ hu => hu.closeExpired
  | rewindTimerExpiry circuit => exact h.expire _ fun _ hu => hu.rewindExpired
  | startTimerExpiry => exact h.expireLink _ fun _ hu => hu.startExpired
  | stopTimerExpiry => exact h.expireLink _ fun _ hu => hu.stopExpired
  | restTimeExpiry label => exact h.restExpired label
  | transmissionStart => exact h.startTransmission
  | transmissionEnd => exact h.endTransmission
  | huntDelimiterReceived =>
    show Lawful (if _ then _ else _)
    split
    · exact h.same rfl rfl
    · exact h

/-- Every step keeps every record lawful and in agreement with the link. -/
theorem step_lawful (h : Lawful s) : LawfulOutcome (step s) := by
  unfold step
  split
  · exact h.tick
  · next i rest _ => exact exec_lawful (s := { s with pending := rest }) (h.same rfl rfl) i

end

/-- Settles O55: the law of every record and its agreement with the link, kept together, row by row. -/
theorem recordsAndLinkAreKept : Obligations.RecordsAndLinkAreKept := by
  intro s t hr hl ht
  have h := step_lawful ((lawful_iff s).2 ⟨hr, hl⟩)
  rw [ht] at h
  exact (lawful_iff t).1 h

end Sys2Proof.Machine

/-! PROOFS. The state after reset (R22) and the RESET input (R201): the values of every block, and the laws they
meet. -/

namespace Sys2Proof.Machine

/-! ### What the reset state holds -/

@[simp] theorem reset_circuit (c : CircuitNo) : State.reset.circuit c = CircuitRecord.free false := by
  simp [State.circuit, State.reset]

@[simp] theorem reset_descriptor (d : DescNo) : State.reset.descriptor d = Descriptor.free := by
  simp [State.descriptor, State.reset]

@[simp] theorem reset_label (l : Label) : State.reset.label l = .free := by
  simp [State.label, State.reset]

@[simp] theorem reset_listen (k : Fin 16) : State.reset.listen[k.val] = none := by
  simp [State.reset]

/-- No page is held after reset (R94). -/
@[simp] theorem reset_heldPages : State.reset.heldPages = [] := by
  unfold State.heldPages
  rw [List.flatMap_eq_nil_iff]
  intro x hx
  have hx : x ∈ (Vector.replicate 256 Descriptor.free).toList := hx
  rw [Vector.toList_replicate] at hx
  rw [List.eq_of_mem_replicate hx]
  rfl

theorem reset_pageFree {p : Nat} (hp : p < 1024) : State.reset.pageFree p = true :=
  (pageFree_iff _ p).2 ⟨hp, by simp⟩

/-- Settles O3: the reset values block by block, then the RESET input and the end of the start-up period. -/
theorem hardwareResetLeavesTheGivenValues : Obligations.HardwareResetLeavesTheGivenValues := by
  refine ⟨⟨reset_circuit, reset_listen, fun l _ => reset_label l, rfl, rfl, reset_descriptor,
    fun p hp => reset_pageFree hp, fun _ => rfl, ?_⟩, fun s => ⟨rfl, fun hs => ?_⟩⟩
  · and_intros <;> rfl
  · show Host.Outcome.next (if s.startUp then s.endStartUp else s) = _
    rw [if_pos hs]
    rfl

/-! ### The laws after reset -/

theorem reset_bounds : BoundsLaw State.reset where
  memory   := rfl
  events   := Nat.zero_le _
  loose    := Nat.zero_le _
  receiver := Nat.zero_le _
  allocPtr := by decide

theorem reset_pages : PagesLaw State.reset := by simp [PagesLaw]

theorem reset_labels : LabelsLaw State.reset where
  record c hc := by simp [CircuitRecord.free] at hc
  label l c fixed _ hl := by simp at hl

theorem reset_holdings : HoldingsLaw State.reset where
  send c       := by simp [CircuitRecord.free, SendContext.fresh, SendContext.blocks]
  received c   := by
    simp [CircuitRecord.free, RecvContext.fresh, CircuitRecord.receivedBlocks, CircuitRecord.deliveredCount]
  window c     := by simp [CircuitRecord.free]
  listen k e h := by rw [reset_listen] at h; cases h
  offered c hc := by simp [CircuitRecord.free] at hc

/-- No circuit holds a descriptor, and no descriptor is in a collection. -/
theorem reset_collections : CollectionsLaw State.reset where
  queued c d hd       := by simp [CircuitRecord.free, SendContext.fresh] at hd
  active c a ha       := by simp [CircuitRecord.free, SendContext.fresh] at ha
  assembling c d hd   := by simp [CircuitRecord.free, RecvContext.fresh] at hd
  delivered c d hd    := by simp [CircuitRecord.free, RecvContext.fresh] at hd
  ofQueued d hd       := by simp [Descriptor.free] at hd
  ofActive d hd       := by simp [Descriptor.free] at hd
  ofAssembling d hd   := by simp [Descriptor.free] at hd
  ofDelivered d hd    := by simp [Descriptor.free] at hd
  queueOnce c         := by simp [CircuitRecord.free, SendContext.fresh]
  arrivedOnce c       := by simp [CircuitRecord.free, RecvContext.fresh]
  pinned d hd         := by cases hd
  pinner x hx         := by cases hx
  returning d hd      := by simp [Descriptor.free] at hd
  free d _            := reset_descriptor d
  ended c _           := by simp [CircuitRecord.free, SendContext.fresh, RecvContext.fresh, SendContext.blocks]
  unread c _          := by simp [CircuitRecord.free, RecvContext.fresh]

theorem reset_peers : PeersLaw State.reset := by
  intro c d l hc
  simp [CircuitRecord.claims, CircuitRecord.free] at hc

theorem reset_listenLaw : ListenLaw State.reset := by
  intro j k e f hj
  rw [reset_listen] at hj
  cases hj

/-- Settles O53, law by law. -/
theorem resetKeepsEveryLaw : Obligations.ResetKeepsEveryLaw :=
  have hl := (lawful_iff State.reset).1 lawful_reset
  ⟨reset_bounds, hl.1, hl.2, reset_pages, reset_labels, reset_holdings, reset_collections, reset_peers, reset_listenLaw⟩

end Sys2Proof.Machine

/-! PROOFS. The field checks of a circuit (R6), and the commands RETIRE (R21) and SET-CIRCUIT (R20). -/

namespace Sys2Proof.Machine

/-! ### The field checks (R6) -/

/-- A value inside the bound of a limit, or its default (R6). -/
theorem limitOf_of_le {value default bound : Nat} (h : value ≤ bound) :
    limitOf value default bound = some (if value = 0 then default else value) := by
  unfold limitOf
  rw [if_pos h]
  split <;> rfl

theorem limitOf_of_lt {value default bound : Nat} (h : bound < value) : limitOf value default bound = none := by
  unfold limitOf
  rw [if_neg (by omega), if_neg (by omega)]

/-- A policy code that names a policy a circuit of its kind may have (R6, R214). -/
theorem policyOf_of_named {code : Nat} {fixed : Bool} (h : code ≤ 3) (hc : ¬ (code = 3 ∧ fixed = true)) :
    policyOf code fixed = some (if code ≤ 1 then .abandon else if code = 2 then .rewind else .close) := by
  match code, h with
  | 0, _ | 1, _ | 2, _ => rfl
  | 3, _ =>
    cases fixed with
    | false => rfl
    | true => exact absurd ⟨rfl, rfl⟩ hc

theorem policyOf_of_unnamed {code : Nat} {fixed : Bool} (h : ¬ (code ≤ 3 ∧ ¬ (code = 3 ∧ fixed = true))) :
    policyOf code fixed = none := by
  match code with
  | 0 | 1 | 2 => simp at h
  | 3 =>
    cases fixed with
    | false => simp at h
    | true => rfl
  | _ + 4 => rfl

/-- The three checks fail together where one of them fails (R6). -/
theorem limitsOf_of_none {roundLimit policy window : Nat} {fixed : Bool}
    (h : limitOf roundLimit 4 15 = none ∨ policyOf policy fixed = none ∨ limitOf window 2 8 = none) :
    limitsOf roundLimit policy window fixed = none := by
  unfold limitsOf
  split
  · next hr hp hw => rw [hr, hp, hw] at h; simp at h
  · rfl

/-- Settles O12, check by check. -/
theorem fieldChecksSelectDefaults : Obligations.FieldChecksSelectDefaults := by
  intro roundLimit policy window fixed name good
  constructor
  · rintro ⟨hr, hw, hp, hf⟩
    unfold limitsOf
    rw [limitOf_of_le hr, limitOf_of_le hw, policyOf_of_named hp hf]
  · intro hbad
    apply limitsOf_of_none
    by_cases hr : roundLimit ≤ 15
    · by_cases hw : window ≤ 8
      · exact .inr (.inl (policyOf_of_unnamed fun hp => hbad ⟨hr, hw, hp⟩))
      · exact .inr (.inr (limitOf_of_lt (Nat.lt_of_not_le hw)))
    · exact .inl (limitOf_of_lt (Nat.lt_of_not_le hr))

/-! ### RETIRE (R21) -/

/-- A record that becomes FREE, its label at rest and its frame in transmission detached (R12, R101, R186). -/
theorem endRecord_eq {s : State} {c : CircuitNo} (hl : (s.circuit c).localLabel ≠ 0) :
    s.endRecord c = s.withoutRecord c := by
  unfold State.endRecord State.releaseLabel State.setLabel
  rw [if_neg hl]
  rfl

/-- The taking of RETIRE on the circuit it names (R21). -/
theorem exec_retire {s : State} {c : CircuitNo} (hs : Started .retire s) (hn : NamesCircuit s 0 c) :
    exec .retire s = .next
      (if (s.circuit c).state = .closed then (s.retireRecord c).succeed [] else s.reject .badState) := by
  show Host.Outcome.next (s.taking .retire State.takeRetire) = _
  rw [taking_of_started hs]
  unfold State.takeRetire
  rw [withCircuit_of_named hn]

/-- A record retired: its delivered blocks freed, then its end (R21). -/
theorem retireRecord_eq {s : State} {c : CircuitNo} (hl : (s.circuit c).localLabel ≠ 0) :
    s.retireRecord c = { s.withoutRecord c with
      descriptors := ((s.circuit c).recv.delivered.foldl State.freeDescriptor s).descriptors } := by
  unfold State.retireRecord
  rw [endRecord_eq (by rw [circuit_foldl_free]; exact hl), foldl_freeDescriptor_eq]
  rfl

/-- Settles O18: the record by its end, the descriptors by the freeing of the delivery queue. -/
theorem retireFreesAClosedRecord : Obligations.RetireFreesAClosedRecord := by
  intro s c hs hn hl
  rw [exec_retire hs hn]
  refine ⟨fun hc => ?_, fun hc => ⟨_, ?_, fun d => foldl_freeDescriptor (s.circuit c).recv.delivered s d⟩⟩
  · rw [if_neg hc]; exact next_reject s .badState
  · rw [if_pos hc, retireRecord_eq hl]; exact next_succeed ..

/-! ### SET-CIRCUIT (R20) -/

/-- SET-CIRCUIT with a field that fails its check (R6, R20). -/
theorem exec_setCircuit_of_bad {s : State} {c : CircuitNo} (hs : Started .setCircuit s) (hn : NamesCircuit s 0 c)
    (hl : limitsOf (s.param 1) (s.param 2) (s.param 3) (decide ((s.circuit c).kind = some .fixed)) = none) :
    exec .setCircuit s = refusedWith s .badParam := by
  show Host.Outcome.next (s.taking .setCircuit State.takeSetCircuit) = _
  rw [taking_of_started hs]
  unfold State.takeSetCircuit
  rw [withCircuit_of_named hn, hl]
  exact next_reject s .badParam

/-- SET-CIRCUIT with good fields, on the circuit it names (R20). -/
theorem exec_setCircuit_of_good {s : State} {c : CircuitNo} {limits : Limits} (hs : Started .setCircuit s)
    (hn : NamesCircuit s 0 c)
    (hl : limitsOf (s.param 1) (s.param 2) (s.param 3) (decide ((s.circuit c).kind = some .fixed)) = some limits) :
    exec .setCircuit s =
      if limits.window < (s.circuit c).receivedBlocks then refusedWith s .badState
      else answers (s.setCircuit c ((s.circuit c).setLimits limits)) [] := by
  show Host.Outcome.next (s.taking .setCircuit State.takeSetCircuit) = _
  rw [taking_of_started hs]
  unfold State.takeSetCircuit
  rw [withCircuit_of_named hn, hl]
  dsimp only
  split <;> rfl

/-- New limits that owe READY, and that owe none (R20). -/
theorem setLimits_eq (r : CircuitRecord) (limits : Limits) : r.setLimits limits =
    if r.state = .opened ∧ r.recv.heldReported = true ∧ r.recv.delivered.length < limits.window then
      { r with
        roundLimit := limits.roundLimit, policy := some limits.policy, window := limits.window
        answer := some .ready, recv := { r.recv with heldReported := false } }
    else { r with roundLimit := limits.roundLimit, policy := some limits.policy, window := limits.window } := by
  simp only [CircuitRecord.setLimits, CircuitRecord.offerReady, readyFlag_iff]

/-- Settles O20: the refusals, then the two records SET-CIRCUIT can leave. -/
theorem setCircuitReplacesTheLimits : Obligations.SetCircuitReplacesTheLimits := by
  intro s c hs hn r checked held
  refine ⟨exec_setCircuit_of_bad hs hn, fun limits hc => ?_⟩
  intro set tells replaced
  rw [exec_setCircuit_of_good hs hn hc]
  refine ⟨fun hw => if_pos hw, fun hw ht => ?_, fun hw ht => ?_⟩
  · rw [if_neg (show ¬ limits.window < (s.circuit c).receivedBlocks from Nat.not_lt.2 hw), setLimits_eq, if_neg ht]
    rfl
  · rw [if_neg (show ¬ limits.window < (s.circuit c).receivedBlocks from Nat.not_lt.2 hw), setLimits_eq, if_pos ht]
    rfl

end Sys2Proof.Machine

/-! PROOFS. The lookups (R1, R77, R79, R86, R93, R98, R105, R107, R112): what each search of a table finds, and that it
finds nothing where there is nothing. -/

namespace Sys2Proof.Machine

/-! ### Searches of a table -/

/-- A search from number 0 finds the lowest number that passes. -/
theorem find?_finRange_of_lowest {n : Nat} {p : Fin n → Bool} {i : Fin n} (hi : p i = true)
    (low : ∀ j, j < i → p j = false) : (List.finRange n).find? p = some i := by
  refine List.find?_eq_some_iff_getElem.2 ⟨hi, i.val, by rw [List.length_finRange]; exact i.isLt, ?_, fun j hj => ?_⟩
  · exact List.getElem_finRange _
  · rw [List.getElem_finRange, Bool.not_eq_true']
    exact low _ hj

/-- A search from number 0 finds the one number that passes. -/
theorem find?_finRange_of_unique {n : Nat} {p : Fin n → Bool} {i : Fin n} (hi : p i = true)
    (unique : ∀ j, p j = true → j = i) : (List.finRange n).find? p = some i :=
  find?_finRange_of_lowest hi fun j hj => Bool.eq_false_iff.2 fun hp => absurd (unique j hp) (Fin.ne_of_lt hj)

theorem find?_finRange_of_none {n : Nat} {p : Fin n → Bool} (h : ∀ j, p j = false) : (List.finRange n).find? p = none :=
  List.find?_eq_none.2 fun j _ => by simp [h j]

section
variable {s : State}

/-! ### Records and labels (R1, R98, R107) -/

theorem lowestFreeCircuit_eq_some {c : CircuitNo} (hc : (s.circuit c).state = .free)
    (low : ∀ d, d < c → (s.circuit d).state ≠ .free) : s.lowestFreeCircuit = some c :=
  find?_finRange_of_lowest (by simpa using hc) fun d hd => by simpa using low d hd

theorem lowestFreeCircuit_eq_none (h : ∀ c, (s.circuit c).state ≠ .free) : s.lowestFreeCircuit = none :=
  find?_finRange_of_none fun c => by simpa using h c

/-- The scan gives the first FREE label it examines (R98, R99). -/
theorem scanFreeLabel_eq_some {k : Nat} (hk : k < 255) (hf : s.label (scanLabel s.allocPtr k) = .free)
    (before : ∀ j, j < k → s.label (scanLabel s.allocPtr j) ≠ .free) :
    s.scanFreeLabel = some (scanLabel s.allocPtr k) := by
  unfold State.scanFreeLabel
  rw [List.find?_map, List.find?_range_eq_some.2 ⟨?_, List.mem_range.2 hk, fun j hj => ?_⟩]
  · rfl
  · simpa using hf
  · simpa using before j hj

theorem scanFreeLabel_eq_none (h : ∀ l, l ≠ 0 → s.label l ≠ .free) : s.scanFreeLabel = none := by
  refine List.find?_eq_none.2 fun l hl => ?_
  obtain ⟨k, -, rfl⟩ := List.mem_map.1 hl
  simpa using h _ (scanLabel_ne_zero s.allocPtr k)

theorem holdsPeerLabel_iff (x : CircuitState) :
    x.holdsPeerLabel = true ↔ x = .offered ∨ x = .opened ∨ x = .rewinding ∨ x = .closing := by
  cases x <;> decide

/-- The test of the peer-label search, in the words of R107. -/
theorem peerTest_iff (s : State) (l : Label) (c : CircuitNo) :
    ((s.circuit c).state.holdsPeerLabel && decide ((s.circuit c).peerLabel = some l)) = true ↔
      (s.circuit c).peerLabel = some l ∧ ((s.circuit c).state = .offered ∨ (s.circuit c).state = .opened ∨
        (s.circuit c).state = .rewinding ∨ (s.circuit c).state = .closing) := by
  rw [Bool.and_eq_true, holdsPeerLabel_iff, decide_eq_true_eq, and_comm]

/-! ### The listen table (R112) -/

/-- The test of the search of the listen table, in the words of R112. -/
theorem listenTest_iff (s : State) (service : Word) (k : Fin 16) :
    s.listen[k.val].any (fun e => e.service.toNat == service.toNat) = true ↔
      ∃ e, s.listen[k.val] = some e ∧ e.service = service := by
  rw [Option.any_eq_true]
  simp only [beq_iff_eq, BitVec.toNat_inj]

theorem listenEntry_eq_some {service : Word} {k : Fin 16} {e : ListenEntry} (he : s.listen[k.val] = some e)
    (hs : e.service = service)
    (unique : ∀ (j : Fin 16) (f : ListenEntry), s.listen[j.val] = some f → f.service = service → j = k) :
    s.listenEntry service = some e := by
  have hk : s.listenSlot service.toNat = some k :=
    find?_finRange_of_unique ((listenTest_iff s service k).2 ⟨e, he, hs⟩) fun j hj => by
      obtain ⟨f, hf, hfs⟩ := (listenTest_iff s service j).1 hj
      exact unique j f hf hfs
  unfold State.listenEntry
  rw [hk]
  exact he

theorem listenEntry_eq_none {service : Word}
    (h : ∀ (k : Fin 16) (e : ListenEntry), s.listen[k.val] = some e → e.service ≠ service) :
    s.listenEntry service = none := by
  have hk : s.listenSlot service.toNat = none :=
    find?_finRange_of_none fun j => Bool.eq_false_iff.2 fun hj => by
      obtain ⟨f, hf, hfs⟩ := (listenTest_iff s service j).1 hj
      exact h j f hf hfs
  unfold State.listenEntry
  rw [hk]
  rfl

/-! ### Descriptors and pages (R77, R79, R86, R93) -/

theorem lowestFreeDescriptor_eq_some {d : DescNo} (hd : (s.descriptor d).state = .free)
    (low : ∀ e, e < d → (s.descriptor e).state ≠ .free) : s.lowestFreeDescriptor = some d :=
  find?_finRange_of_lowest (by simpa using hd) fun e he => by simpa using low e he

theorem lowestFreeDescriptor_eq_none (h : ∀ d, (s.descriptor d).state ≠ .free) : s.lowestFreeDescriptor = none :=
  find?_finRange_of_none fun d => by simpa using h d

theorem returningDescriptor_eq_some {d : DescNo} (hd : (s.descriptor d).state = .returning)
    (unique : ∀ e, (s.descriptor e).state = .returning → e = d) : s.returningDescriptor = some d :=
  find?_finRange_of_unique (by simpa using hd) fun e he => unique e (by simpa using he)

theorem returningDescriptor_eq_none (h : ∀ d, (s.descriptor d).state ≠ .returning) : s.returningDescriptor = none :=
  find?_finRange_of_none fun d => by simpa using h d

/-- A page is held where a descriptor has it in its page list or in a filled slot (R79). -/
theorem mem_heldPages (s : State) (p : Nat) :
    p ∈ s.heldPages ↔ ∃ d, p ∈ (s.descriptor d).pages ∨ ∃ x ∈ (s.descriptor d).slots, x.page = p := by
  unfold State.heldPages
  rw [List.mem_flatMap]
  constructor
  · rintro ⟨x, hx, hp⟩
    obtain ⟨i, hi, rfl⟩ := Vector.mem_iff_getElem.1 (Vector.mem_toList_iff.1 hx)
    exact ⟨⟨i, hi⟩, by simpa [Descriptor.held, State.descriptor] using hp⟩
  · rintro ⟨d, hp⟩
    exact ⟨s.descriptor d, Vector.mem_toList_iff.2 (Vector.getElem_mem d.isLt), by simpa [Descriptor.held] using hp⟩

/-- A free page is one that exists and that no descriptor holds (R77). -/
theorem pageFree_iff_not_held (s : State) (p : Nat) :
    s.pageFree p = true ↔
      p < 1024 ∧ ∀ d, p ∉ (s.descriptor d).pages ∧ ∀ x ∈ (s.descriptor d).slots, x.page ≠ p := by
  rw [pageFree_iff, mem_heldPages]
  simp [Config.pageCount]

theorem freePages_pairwise (s : State) : s.freePages.Pairwise (· < ·) := List.pairwise_lt_range.filter _

theorem lowestFreePage_eq_some {p : Nat} (hp : s.pageFree p = true) (low : ∀ q, q < p → s.pageFree q = false) :
    s.lowestFreePage = some p :=
  List.find?_range_eq_some.2 ⟨hp, List.mem_range.2 ((pageFree_iff s p).1 hp).1, fun q hq => by simp [low q hq]⟩

theorem lowestFreePage_eq_none (h : ∀ p, s.pageFree p = false) : s.lowestFreePage = none :=
  List.find?_eq_none.2 fun p _ => by simp [h p]

theorem assemblySlots_of_none {c : CircuitNo} (h : (s.circuit c).recv.assembly = none) : s.assemblySlots c = [] := by
  unfold State.assemblySlots; rw [h]

theorem assemblySlots_of_some {c : CircuitNo} {d : DescNo} (h : (s.circuit c).recv.assembly = some d) :
    s.assemblySlots c = (s.descriptor d).slots := by
  unfold State.assemblySlots; rw [h]

/-- A new slot stands after the slots of lower index and before those of higher index (section 3.1). -/
theorem insertSlot_between (x : Slot) (front back : List Slot) (hf : ∀ y ∈ front, y.index < x.index)
    (hb : ∀ y ∈ back, x.index < y.index) : insertSlot x (front ++ back) = front ++ x :: back := by
  induction front with
  | nil =>
    cases back with
    | nil => rfl
    | cons y back => exact if_pos (hb y List.mem_cons_self)
  | cons y front ih =>
    have hy : ¬ x.index < y.index := Nat.lt_asymm (hf y List.mem_cons_self)
    show insertSlot x (y :: (front ++ back)) = _
    rw [insertSlot, if_neg hy, ih fun z hz => hf z (List.mem_cons_of_mem _ hz)]
    rfl

/-! ### Loose replies (R105) -/

/-- A request merges with an entry of its kind, destination and source label (R105). -/
theorem merges_any_iff (s : State) (reply : LooseReply) :
    s.loose.any (reply.merges ·) = true ↔
      ∃ x ∈ s.loose, x.body.code = reply.body.code ∧ x.dst = reply.dst ∧ x.src = reply.src := by
  rw [List.any_eq_true]
  refine exists_congr fun x => and_congr_right fun _ => ?_
  simp only [LooseReply.merges, Bool.and_eq_true, decide_eq_true_eq, and_assoc]
  exact and_congr eq_comm (and_congr eq_comm eq_comm)

theorem requestLoose_of_merged {reply : LooseReply} (h : s.loose.any (reply.merges ·) = true) :
    s.requestLoose reply = s := by
  unfold State.requestLoose
  rw [if_pos h]

/-- A reply that no entry merges is dropped from a full queue (R105). -/
theorem requestLoose_of_full {reply : LooseReply} (hm : s.loose.any (reply.merges ·) = false) (h : 4 ≤ s.loose.length) :
    s.requestLoose reply = s := by
  unfold State.requestLoose
  rw [if_neg (by simp [hm]), if_neg (by simp only [Config.looseCapacity]; omega)]

end

/-- Settles O14, search by search. -/
theorem lookupsFindTheirSlot : Obligations.LookupsFindTheirSlot := by
  refine ⟨fun s => ⟨fun _ => lowestFreeCircuit_eq_some, lowestFreeCircuit_eq_none,
      fun _ _ hk => scanFreeLabel_eq_some hk, scanFreeLabel_eq_none⟩,
    fun s l => ⟨fun c hc hu => ?_, fun h => ?_⟩,
    fun s service => ⟨fun _ _ => listenEntry_eq_some, listenEntry_eq_none⟩,
    fun s => ⟨fun _ => lowestFreeDescriptor_eq_some, lowestFreeDescriptor_eq_none, fun p => ?_, freePages_pairwise s,
      fun p hp hl => ?_, fun h => ?_, fun _ => returningDescriptor_eq_some, returningDescriptor_eq_none,
      fun _ => ⟨assemblySlots_of_none, fun _ => assemblySlots_of_some⟩⟩,
    insertSlot_between, fun s reply => ?_⟩
  · exact find?_finRange_of_unique ((peerTest_iff s l c).2 hc) fun d hd => hu d ((peerTest_iff s l d).1 hd)
  · exact find?_finRange_of_none fun c => Bool.eq_false_iff.2 fun hc => h c ((peerTest_iff s l c).1 hc)
  · rw [mem_freePages]; exact pageFree_iff_not_held s p
  · exact lowestFreePage_eq_some ((pageFree_iff_not_held s p).2 hp) fun q hq =>
      Bool.eq_false_iff.2 fun hf => hl q hq ((pageFree_iff_not_held s q).1 hf)
  · exact lowestFreePage_eq_none fun p => Bool.eq_false_iff.2 fun hf => h p ((pageFree_iff_not_held s p).1 hf)
  · intro sameKind merged
    have hk : ∀ x, sameKind x ↔ x.body.code = reply.body.code := by
      intro x
      obtain ⟨body, _, _⟩ := x
      obtain ⟨asked, _, _⟩ := reply
      cases body with
      | refuse _ _ =>
        cases asked with
        | refuse _ _ => exact iff_of_true trivial rfl
        | close _ _ => exact iff_of_false id (by simp [LooseBody.code])
        | closeDone => exact iff_of_false id (by simp [LooseBody.code])
      | close _ _ =>
        cases asked with
        | refuse _ _ => exact iff_of_false id (by simp [LooseBody.code])
        | close _ _ => exact iff_of_true trivial rfl
        | closeDone => exact iff_of_false id (by simp [LooseBody.code])
      | closeDone =>
        cases asked with
        | refuse _ _ => exact iff_of_false id (by simp [LooseBody.code])
        | close _ _ => exact iff_of_false id (by simp [LooseBody.code])
        | closeDone => exact iff_of_true trivial rfl
    have hm : merged ↔ s.loose.any (reply.merges ·) = true := by
      rw [merges_any_iff]
      exact exists_congr fun x => and_congr_right fun _ => and_congr_left fun _ => hk x
    exact ⟨fun h => requestLoose_of_merged (hm.1 h),
      fun h hr => requestLoose_of_room s reply (Bool.eq_false_iff.2 (mt hm.2 h)) hr,
      fun h hf => requestLoose_of_full (Bool.eq_false_iff.2 (mt hm.2 h)) hf⟩

end Sys2Proof.Machine

/-! PROOFS. One millisecond on an empty queue (log 1, log 19): what ages, and the expiry of one timer that falls due. -/

namespace Sys2Proof.Machine

section
variable {s : State} {c : CircuitNo}

/-! ### An expiry changes one circuit's record alone -/

theorem frame_pollAgain (s : State) (c : CircuitNo) (k : TransferKind) : EngineFrame c s (s.pollAgain c k) := by
  unfold State.pollAgain State.pollExhausted
  split
  · exact (frame_onSend ..).trans (frame_onCircuit ..)
  · split
    · exact frame_enterRewinding ..
    · exact frame_enterClosing ..

theorem frame_retry (s : State) (c : CircuitNo) (k : ProtocolKind) (purpose : TimerPurpose) (ms : Nat) :
    EngineFrame c s (s.retry c k purpose ms) :=
  ((frame_onCircuit ..).trans (frame_onCircuit ..)).trans (frame_startTimer ..)

theorem apart_expire (purpose : TimerPurpose) {owner : State → State} (ho : ∀ u, Apart c u (owner u)) :
    Apart c s (s.expire c purpose owner) := by
  unfold State.expire
  split
  · exact (frame_onCircuit s c _).apart.trans (ho _)
  · exact (CircuitFrame.refl c s).apart

theorem apart_openExpired (c : CircuitNo) (s : State) : Apart c s (State.openExpired c s) := by
  unfold State.openExpired
  split
  · exact (frame_enterClosed ..).apart
  · exact (CircuitFrame.refl c s).apart

theorem apart_offerExpired (c : CircuitNo) (s : State) : Apart c s (State.offerExpired c s) := by
  unfold State.offerExpired
  split
  · exact ((frame_requestLoose ..).trans (frame_raise _ rfl)).apart.trans (apart_endRecord _ c)
  · exact (CircuitFrame.refl c s).apart

theorem apart_statusExpired (c : CircuitNo) (s : State) : Apart c s (State.statusExpired c s) := by
  unfold State.statusExpired
  split
  · exact (frame_pollAgain ..).apart
  · exact (frame_pollAgain ..).apart
  · exact (CircuitFrame.refl c s).apart

theorem apart_probeExpired (c : CircuitNo) (s : State) : Apart c s (State.probeExpired c s) := by
  unfold State.probeExpired
  split
  · exact (frame_pollAgain ..).apart
  · exact (CircuitFrame.refl c s).apart

theorem apart_closeExpired (c : CircuitNo) (s : State) : Apart c s (State.closeExpired c s) := by
  unfold State.closeExpired
  split
  · split
    · exact (frame_retry ..).apart
    · exact (frame_finishClosing ..).apart
  · exact (CircuitFrame.refl c s).apart

theorem apart_rewindExpired (c : CircuitNo) (s : State) : Apart c s (State.rewindExpired c s) := by
  unfold State.rewindExpired
  split
  · split
    · exact (frame_retry ..).apart
    · exact (frame_enterClosing ..).apart
  · exact (CircuitFrame.refl c s).apart

theorem apart_expireDue (s : State) (c : CircuitNo) : Apart c s (s.expireDue c) := by
  unfold State.expireDue
  split
  · next purpose _ =>
    cases purpose with
    | openT => exact apart_expire _ (apart_openExpired c)
    | offer => exact apart_expire _ (apart_offerExpired c)
    | status => exact apart_expire _ (apart_statusExpired c)
    | probe => exact apart_expire _ (apart_probeExpired c)
    | close => exact apart_expire _ (apart_closeExpired c)
    | rewind => exact apart_expire _ (apart_rewindExpired c)
  · exact (CircuitFrame.refl c s).apart

/-! ### Timers that fall due -/

/-- A circuit timer at zero is about to expire (R14). -/
def CircuitRecord.Due (r : CircuitRecord) : Prop := ∃ purpose, r.timer = some { purpose, remaining := 0 }

theorem expireDue_of_not_due (h : ¬ (s.circuit c).Due) : s.expireDue c = s := by
  unfold State.expireDue
  split
  · next purpose hp => exact absurd ⟨purpose, hp⟩ h
  · rfl

/-- A timer at zero expires by the row of its purpose (R14). -/
theorem expireDue_of_due {purpose : TimerPurpose} (h : (s.circuit c).timer = some { purpose, remaining := 0 }) :
    .next (s.expireDue c) = exec (expiryRow c purpose) s := by
  unfold State.expireDue
  rw [h]
  cases purpose <;> rfl

/-- A link timer that is not at zero does not expire (R158). -/
theorem expireLinkDue_of_not_due (h : ∀ t, s.link.timer = some t → t.remaining ≠ 0) : s.expireLinkDue = s := by
  unfold State.expireLinkDue
  split
  · next ht => exact absurd rfl (h _ ht)
  · next ht => exact absurd rfl (h _ ht)
  · rfl

/-- With no timer at zero no circuit's timer expires. -/
theorem foldl_expireDue_of_none (l : List CircuitNo) (h : ∀ d ∈ l, ¬ (s.circuit d).Due) :
    l.foldl State.expireDue s = s := by
  induction l with
  | nil => rfl
  | cons d l ih =>
    rw [List.foldl_cons, expireDue_of_not_due (h d List.mem_cons_self)]
    exact ih fun e he => h e (List.mem_cons_of_mem _ he)

/-- With one circuit's timer at zero, that timer alone expires: its expiry brings no other to zero. -/
theorem foldl_expireDue_of_one (l : List CircuitNo) (hl : l.Nodup) (hc : c ∈ l)
    (h : ∀ d, d ≠ c → ¬ (s.circuit d).Due) : l.foldl State.expireDue s = s.expireDue c := by
  induction l with
  | nil => cases hc
  | cons d l ih =>
    obtain ⟨hd, hl⟩ := List.nodup_cons.1 hl
    rw [List.foldl_cons]
    by_cases hdc : d = c
    · subst hdc
      refine foldl_expireDue_of_none l fun e he => ?_
      have hne : e ≠ d := fun q => hd (q ▸ he)
      rw [(apart_expireDue s d).others e hne]
      exact h e hne
    · rw [expireDue_of_not_due (h d hdc)]
      exact ih hl ((List.mem_cons.1 hc).resolve_left (Ne.symm hdc))

/-! ### The state one millisecond later -/

/-- A circuit timer with two milliseconds or more is not at zero one millisecond later. -/
theorem not_due_age (h : ∀ t, (s.circuit c).timer = some t → 2 ≤ t.remaining) : ¬ (s.age.circuit c).Due := by
  rintro ⟨purpose, hp⟩
  rw [age_circuit] at hp
  obtain ⟨t, ht, ha⟩ := Option.map_eq_some_iff.1 hp
  have hr : t.remaining - 1 = 0 := congrArg CircuitTimer.remaining ha
  have := h t ht
  omega

theorem link_not_due_age (h : ∀ t, s.link.timer = some t → 2 ≤ t.remaining) :
    ∀ t, s.age.link.timer = some t → t.remaining ≠ 0 := by
  intro t ht
  obtain ⟨t', ht', rfl⟩ := Option.map_eq_some_iff.1 (show s.link.timer.map LinkTimer.aged = some t from ht)
  have := h t' ht'
  show t'.remaining - 1 ≠ 0
  omega

theorem step_of_empty (hp : s.pending = []) : step s = .next s.tick := by
  unfold step
  rw [hp]

/-- A tick outside the start-up period (log 1, log 19). -/
theorem tick_of_running (hs : s.startUp = false) :
    s.tick = (s.age.forEachCircuit State.expireDue).expireLinkDue := by
  unfold State.tick
  rw [hs]
  exact if_neg (by decide)

/-- A millisecond in which no timer falls due. -/
theorem tick_of_none_due (hs : s.startUp = false) (hlink : ∀ t, s.link.timer = some t → 2 ≤ t.remaining)
    (hc : ∀ c t, (s.circuit c).timer = some t → 2 ≤ t.remaining) : s.tick = s.age := by
  rw [tick_of_running hs, State.forEachCircuit, foldl_expireDue_of_none _ fun d _ => not_due_age (hc d),
    expireLinkDue_of_not_due (link_not_due_age hlink)]

/-- A millisecond in which one circuit's timer alone falls due. -/
theorem tick_of_one_due (hs : s.startUp = false) (hlink : ∀ t, s.link.timer = some t → 2 ≤ t.remaining)
    (hd : ∀ d t, d ≠ c → (s.circuit d).timer = some t → 2 ≤ t.remaining) : s.tick = s.age.expireDue c := by
  rw [tick_of_running hs, State.forEachCircuit, foldl_expireDue_of_one _ (List.nodup_finRange 64) (List.mem_finRange c)
    fun d hne => not_due_age fun t ht => hd d t hne ht, expireLinkDue_of_not_due]
  rw [(apart_expireDue s.age c).link]
  exact link_not_due_age hlink

end

/-- Settles O2: the state one millisecond later is the aged state, on which no timer is due, or one. -/
theorem aMillisecondPassesOnAnEmptyQueue : Obligations.AMillisecondPassesOnAnEmptyQueue := by
  intro s hp later
  have hlater : later = s.age := by
    have hlabel : (fun e : LabelEntry => (match e with
        | .resting n => if n ≤ 1 then .free else .resting (n - 1)
        | .free => .free
        | .bound c fixed => .bound c fixed : LabelEntry)) = LabelEntry.aged := by
      funext e
      cases e <;> rfl
    unfold State.age
    rw [← hlabel]
    rfl
  rw [step_of_empty hp, hlater]
  refine ⟨fun hs => ?_, fun hs hlink => ⟨fun hc => ?_, fun c purpose ht hd => ?_⟩⟩
  · unfold State.tick
    rw [if_pos hs]
  · rw [tick_of_none_due hs hlink hc]
  · rw [tick_of_one_due hs hlink hd]
    exact expireDue_of_due (by rw [age_circuit, ht]; rfl)

end Sys2Proof.Machine

/-! PROOFS. The arrivals the Receive Engine takes at an OPEN circuit: PROBE (R64), BLOCK-ABANDON (R63), BLOCK-END (R59
to R61), and the frames no correct sender could have sent (R72). -/

namespace Sys2Proof.Machine

section
variable {s : State} {dst : Label} {c : CircuitNo}

/-! ### Frames that reach an OPEN circuit (R103) -/

/-- A good frame of the block transfer is taken by the OPEN circuit it reaches (R103, R185). -/
theorem Reaches.arrive (h : Reaches s dst c) (ho : (s.circuit c).state = .opened) {f : Frame}
    (hf : f.wellFormed = true) (taken : CircuitNo → State → State) :
    s.arrive f (fun t => t.dispatchOpen dst taken) = taken c s.heard := by
  rw [arrive_of_hears h.1 hf, h.dispatchOpen ho]

section
variable {t : State}

theorem Reaches.exec_seg (h : Reaches s dst c) (ho : (s.circuit c).state = .opened) {number : BlockNumber}
    {index : Octet} {payload : List Octet} (hp : 1 ≤ payload.length) (hq : payload.length ≤ 256)
    (ht : State.segAt number index.toNat payload c s.heard = t) :
    exec (.segArrival dst number index payload) s = .next t :=
  congrArg Host.Outcome.next ((h.arrive ho (by simp [Frame.wellFormed, hp, hq]) _).trans ht)

theorem Reaches.exec_blockEnd (h : Reaches s dst c) (ho : (s.circuit c).state = .opened) {number : BlockNumber}
    {count : Octet} (ht : State.blockEndAt number count.toNat c s.heard = t) :
    exec (.blockEndArrival dst number count) s = .next t :=
  congrArg Host.Outcome.next ((h.arrive ho rfl _).trans ht)

theorem Reaches.exec_blockAbandon (h : Reaches s dst c) (ho : (s.circuit c).state = .opened) {number : BlockNumber}
    (ht : State.blockAbandonAt number c s.heard = t) : exec (.blockAbandonArrival dst number) s = .next t :=
  congrArg Host.Outcome.next ((h.arrive ho rfl _).trans ht)

theorem Reaches.exec_probe (h : Reaches s dst c) (ho : (s.circuit c).state = .opened)
    (ht : State.probeAt c s.heard = t) : exec (.probeArrival dst) s = .next t :=
  congrArg Host.Outcome.next ((h.arrive ho rfl _).trans ht)

end

/-- An absent max segments reads as 0 (R56, R59). -/
theorem getD_zero_eq_codeOf (limit : Option Nat) : limit.getD 0 = codeOf id limit := by cases limit <;> rfl

/-! ### What each reaction comes to (R56, R59, R63) -/

theorem segAt_previous {number : BlockNumber} {i : Nat} (payload : List Octet)
    (hi : i < codeOf id (s.circuit c).maxSegments) (hn : (s.circuit c).recv.classOf number = .previous) :
    State.segAt number i payload c s = s := by
  unfold State.segAt
  rw [getD_zero_eq_codeOf, if_neg (Nat.not_le.2 hi), hn]

theorem segAt_current {number : BlockNumber} {i : Nat} {payload : List Octet}
    (hi : i < codeOf id (s.circuit c).maxSegments) (hn : (s.circuit c).recv.classOf number = .current)
    (ha : announcedAllows (s.circuit c).recv.announced i payload.length = true) :
    State.segAt number i payload c s = s.segCurrent c i payload := by
  unfold State.segAt
  rw [getD_zero_eq_codeOf, if_neg (Nat.not_le.2 hi), hn]
  exact if_pos ha

/-- A SEG that fails one of the three checks of R56 is a protocol error. -/
theorem segAt_error {number : BlockNumber} {i : Nat} {payload : List Octet}
    (h : codeOf id (s.circuit c).maxSegments ≤ i ∨ (s.circuit c).recv.classOf number = .error ∨
      (s.circuit c).recv.classOf number = .current ∧
        announcedAllows (s.circuit c).recv.announced i payload.length = false) :
    State.segAt number i payload c s = s.protocolError c := by
  unfold State.segAt
  rw [getD_zero_eq_codeOf]
  split
  · rfl
  · next hi =>
    rcases h with h | h | ⟨h, ha⟩
    · exact absurd h hi
    · rw [h]
    · rw [h, ha]; rfl

theorem blockEndAt_previous {number : BlockNumber} {n : Nat} (h1 : 1 ≤ n)
    (hn : n ≤ codeOf id (s.circuit c).maxSegments) (hc : (s.circuit c).recv.classOf number = .previous) :
    State.blockEndAt number n c s = s.setAnswer c (some .blockStatus) := by
  unfold State.blockEndAt
  rw [getD_zero_eq_codeOf, if_neg (by omega), hc]

/-- A BLOCK-END of the current block that agrees with the slots stored completes it or announces the count (R60). -/
theorem blockEndAt_current {n : Nat} (h1 : 1 ≤ n) (hn : n ≤ codeOf id (s.circuit c).maxSegments)
    (ha : s.countAgrees c n = true) :
    State.blockEndAt (s.circuit c).recv.expected n c s =
      if s.hasAll c n then s.complete c
      else (s.onRecv c (fun x => { x with announced := some n })).setAnswer c (some .blockStatus) := by
  unfold State.blockEndAt
  rw [getD_zero_eq_codeOf, if_neg (by omega), classOf_expected]
  exact if_pos ha

/-- A BLOCK-END that fails one of the checks of R59 is a protocol error. -/
theorem blockEndAt_error {number : BlockNumber} {n : Nat}
    (h : n = 0 ∨ codeOf id (s.circuit c).maxSegments < n ∨ (s.circuit c).recv.classOf number = .error ∨
      (s.circuit c).recv.classOf number = .current ∧ s.countAgrees c n = false) :
    State.blockEndAt number n c s = s.protocolError c := by
  unfold State.blockEndAt
  rw [getD_zero_eq_codeOf]
  split
  · rfl
  · next hn =>
    rcases h with h | h | h | ⟨h, ha⟩
    · exact absurd (.inl h) hn
    · exact absurd (.inr h) hn
    · rw [h]
    · rw [h, ha]; rfl

theorem blockAbandonAt_previous {number : BlockNumber} (hc : (s.circuit c).recv.classOf number = .previous) :
    State.blockAbandonAt number c s = s.setAnswer c (some .blockStatus) := by
  unfold State.blockAbandonAt
  rw [hc]

theorem blockAbandonAt_error {number : BlockNumber} (hc : (s.circuit c).recv.classOf number = .error) :
    State.blockAbandonAt number c s = s.protocolError c := by
  unfold State.blockAbandonAt
  rw [hc]

/-- A BLOCK-ABANDON of the current block touches the record and the descriptors alone (R63). -/
theorem blockAbandonAt_current (s : State) (c : CircuitNo) :
    State.blockAbandonAt (s.circuit c).recv.expected c s = { s with
      circuits := s.circuits.set c.val { s.circuit c with
        answer := some .blockStatus
        recv := { (s.circuit c).recv with
          assembly := none, announced := none, expected := (s.circuit c).recv.expected + 1
          lastOutcome := .abandoned } }
      descriptors := (s.dropAssembly c).descriptors } := by
  unfold State.blockAbandonAt
  rw [classOf_expected]
  dsimp only
  rw [dropAssembly_eq]
  simp [State.onRecv, State.setAnswer, State.onCircuit, State.setCircuit, State.circuit, RecvContext.dropped]

/-! ### Protocol errors (R72) -/

/-- A protocol error begins a rewind with cause PROTOCOL and originator PART, and raises nothing (R72, R143). -/
theorem protocolError_spec (s : State) (c : CircuitNo) :
    EngineFrame c s (s.protocolError c) ∧
      (s.protocolError c).circuit c = rewindingRecord (s.circuit c) 0x09 .part s.link.config.rewindTimer ∧
      Requeued (s.circuit c) s (s.protocolError c) ∧ (s.protocolError c).events = s.events ∧
      (s.protocolError c).loose = s.loose := by
  have h := enterRewinding_eq s c Cause.protocol .part
  exact ⟨frame_enterRewinding .., enterRewinding_circuit s c _ _, enterRewinding_requeued s c _ _,
    (congrArg State.events h).trans rfl, (congrArg State.loose h).trans rfl⟩

/-- The announced-count test of R56 in its own words. -/
theorem announcedAllows_iff (announced : Option Nat) (i length : Nat) :
    announcedAllows announced i length = true ↔
      ∀ n, announced = some n → i < n ∧ (i + 1 < n → length = 256) := by
  cases announced with
  | none => simp [announcedAllows]
  | some n =>
    simp only [announcedAllows, Option.some.injEq, forall_eq', Bool.and_eq_true, Bool.or_eq_true, decide_eq_true_eq]
    omega

/-- A count that disagrees with the announced count or with a stored slot fails the checks of R59. -/
theorem countAgrees_eq_false {n : Nat}
    (h : (∃ m, (s.circuit c).recv.announced = some m ∧ m ≠ n) ∨
      ∃ y ∈ s.assemblySlots c, n ≤ y.index ∨ (y.index + 1 < n ∧ y.octets < 256)) :
    s.countAgrees c n = false := by
  rw [Bool.eq_false_iff, ne_eq, countAgrees_iff]
  rintro ⟨hann, hslots⟩
  rcases h with ⟨m, hm, hne⟩ | ⟨y, hy, hbad⟩
  · rcases hann with hann | hann
    · cases hm.symm.trans hann
    · exact hne (Option.some.inj (hm.symm.trans hann))
  · have := hslots y hy
    omega

end

/-- Settles O40: each frame fails a check of its rule, and every failed check is the protocol error of R72. -/
theorem protocolErrorBeginsARewind : Obligations.ProtocolErrorBeginsARewind := by
  intro s dst number index count payload c hr ho hp hq r limit stranger beyond disagrees rewinds
  have error : stranger → r.recv.classOf number = .error := fun h => classOf_stranger r.recv number h.1 h.2
  have rewinds_of {row : Instr} (h : exec row s = .next (s.heard.protocolError c)) : rewinds row :=
    ⟨_, h, protocolError_spec s.heard c⟩
  refine ⟨fun h => rewinds_of ?_, fun n hn hb => rewinds_of ?_, fun h => rewinds_of ?_, fun h => rewinds_of ?_,
    fun h => rewinds_of ?_⟩
  · exact hr.exec_seg ho hp hq (segAt_error (h.imp_right fun h => .inl (error h)))
  · have ha : announcedAllows r.recv.announced index.toNat payload.length = false := by
      rw [Bool.eq_false_iff, ne_eq, announcedAllows_iff]
      intro allowed
      obtain ⟨hlt, hfull⟩ := allowed n hn
      rcases hb with hb | ⟨hb, hshort⟩
      · omega
      · exact hshort (hfull hb)
    exact hr.exec_seg ho hp hq (segAt_error (.inr (.inr ⟨classOf_expected _, ha⟩)))
  · exact hr.exec_blockEnd ho (blockEndAt_error (h.imp_right (Or.imp_right fun h => .inl (error h))))
  · exact hr.exec_blockEnd ho
      (blockEndAt_error (.inr (.inr (.inr ⟨classOf_expected _, countAgrees_eq_false (s := s.heard) h⟩))))
  · exact hr.exec_blockAbandon ho (blockAbandonAt_error (error h))

/-- Settles O41: R59's checks pass, and R60 completes the block or announces its count. -/
theorem blockEndArrivalCompletesOrReports : Obligations.BlockEndArrivalCompletesOrReports := by
  intro s dst count c hr ho h1 hn r n row agreeing
  have agrees (h : agreeing) : s.heard.countAgrees c n = true := by
    obtain ⟨hann, hslots⟩ := h
    refine (countAgrees_iff s.heard c n).2 ⟨hann, fun y hy => ?_⟩
    have := hslots y hy
    omega
  refine ⟨fun d hd ha hall => ?_, fun ha ⟨i, hi, hmiss⟩ => ?_, fun hl => ?_⟩
  · obtain ⟨hframe, hrec, hdesc, hloose, hraised⟩ := complete_spec (s := s.heard) hd
    refine ⟨s.heard.complete c, ?_, hframe, hrec, hdesc, hloose, hraised⟩
    have has : s.heard.hasAll c n = true :=
      (hasAll_iff s.heard c n).2 (assemblySlots_of_some (s := s.heard) hd ▸ hall)
    exact hr.exec_blockEnd ho ((blockEndAt_current (s := s.heard) h1 hn (agrees ha)).trans (if_pos has))
  · have has : ¬ s.heard.hasAll c n = true := by
      rw [hasAll_iff]
      intro hall
      obtain ⟨y, hy, hyi⟩ := hall i hi
      exact hmiss y hy hyi
    refine hr.exec_blockEnd ho ((blockEndAt_current (s := s.heard) h1 hn (agrees ha)).trans ((if_neg has).trans ?_))
    rw [State.onRecv, State.setAnswer, onCircuit_onCircuit]
    rfl
  · exact hr.exec_blockEnd ho (blockEndAt_previous h1 hn (classOf_previous _ hl))

/-- Settles O42: the current block's record and descriptors by the drop of its assembly (R63). -/
theorem blockAbandonArrivalDiscardsTheAssembly : Obligations.BlockAbandonArrivalDiscardsTheAssembly := by
  intro s dst c hr ho r
  refine ⟨⟨(s.heard.dropAssembly c).descriptors, ?_, dropAssembly_descriptor s.heard c⟩, fun hl => ?_⟩
  · exact hr.exec_blockAbandon ho (blockAbandonAt_current s.heard c)
  · exact hr.exec_blockAbandon ho (blockAbandonAt_previous (classOf_previous _ hl))

/-- Settles O43, by the reaction of R64. -/
theorem probeArrivalOwesReady : Obligations.ProbeArrivalOwesReady := fun _ _ _ hr ho => hr.exec_probe ho rfl

end Sys2Proof.Machine

/-! PROOFS. The storing of a segment (R53, R56 to R58, R86), the completion it may bring (R61, R87), and TAKE (R70,
R71). -/

namespace Sys2Proof.Machine

/-! ### A segment stored (R57, R86) -/

/-- The state after a segment's payload is written to a page and descriptor d, now x, is the assembly of circuit c (R57,
R86). -/
def State.stored (s : State) (c : CircuitNo) (d : DescNo) (x : Descriptor) (page : Nat) (payload : List Octet) : State :=
  { s with
    memory := Memory.writeAll s.memory (page * Config.pageSize) payload
    circuits := s.circuits.set c.val
      { s.circuit c with recv := { (s.circuit c).recv with assembly := some d } }
    descriptors := s.descriptors.set d.val x }

/-- The descriptor of an assembly begun with its first slot (R57, R79). -/
def newAssembly (c : CircuitNo) (number : BlockNumber) (slot : Slot) : Descriptor :=
  { state := .assembling, circuit := some c, pages := [], slots := [slot], byteLength := none
    tag := some (number.setWidth 16), blockNumber := some number }

section
variable {s : State} {c : CircuitNo} {d : DescNo} {x : Descriptor} {page i : Nat} {payload : List Octet}

theorem stored_circuit (s : State) (c : CircuitNo) (d : DescNo) (x : Descriptor) (page : Nat) (payload : List Octet) :
    (s.stored c d x page payload).circuit c =
      { s.circuit c with recv := { (s.circuit c).recv with assembly := some d } } := Vector.getElem_set_self _

theorem stored_circuit_ne {e : CircuitNo} (h : e ≠ c) : (s.stored c d x page payload).circuit e = s.circuit e :=
  circuit_setCircuit_ne s _ h

theorem stored_descriptor (s : State) (c : CircuitNo) (d : DescNo) (x : Descriptor) (page : Nat)
    (payload : List Octet) : (s.stored c d x page payload).descriptor d = x := Vector.getElem_set_self _

theorem stored_stale (e : CircuitNo) : ((s.stored c d x page payload).circuit e).stale = (s.circuit e).stale :=
  stale_setCircuit s c { s.circuit c with recv := { (s.circuit c).recv with assembly := some d } } rfl e

theorem stored_assemblySlots : (s.stored c d x page payload).assemblySlots c = x.slots := by
  rw [assemblySlots_of_some (d := d) (by rw [stored_circuit]), stored_descriptor]

/-- What page memory holds after a segment is stored in a free page (R57, R78). -/
theorem stored_read (hm : s.memory.wf = true) (hp : s.pageFree page = true) (hl : payload.length ≤ 256) (a : Nat) :
    (s.stored c d x page payload).memory.read a =
      if 256 * page ≤ a ∧ a < 256 * page + payload.length then payload.getD (a - 256 * page) 0 else s.memory.read a := by
  have hlt : page < 1024 := ((pageFree_iff s page).1 hp).1
  have hmul : page * Config.pageSize = 256 * page := Nat.mul_comm page 256
  have hsize : Memory.size = 262144 := rfl
  show Memory.read (Memory.writeAll s.memory (page * Config.pageSize) payload) a = _
  rw [hmul]
  exact Memory.read_writeAll hm _ _ (by omega) a

/-- A circuit that has the assembly already keeps its record (R57). -/
theorem withAssembly_self {r : CircuitRecord} (h : r.recv.assembly = some d) :
    { r with recv := { r.recv with assembly := some d } } = r := by rw [← h]

/-- With an assembly present the segment takes the lowest free page (R57, R86). -/
theorem storeSegment_of_assembly (ha : (s.circuit c).recv.assembly = some d) (hp : s.lowestFreePage = some page) :
    s.storeSegment c i payload = some (s.stored c d
      { s.descriptor d with
        slots := insertSlot { index := i, page, octets := payload.length } (s.descriptor d).slots } page payload) := by
  have hc : s.circuits.set c.val (s.circuit c) = s.circuits := Vector.set_getElem_self _
  unfold State.storeSegment State.stored
  rw [ha, withAssembly_self ha, hc]
  dsimp only
  rw [hp]
  rfl

/-- With none, and room in the window, the segment begins an assembly in the lowest FREE descriptor (R53, R57, R86). -/
theorem storeSegment_of_room (ha : (s.circuit c).recv.assembly = none)
    (hw : (s.circuit c).recv.delivered.length < (s.circuit c).window) (hd : s.lowestFreeDescriptor = some d)
    (hp : s.lowestFreePage = some page) :
    s.storeSegment c i payload = some (s.stored c d
      (newAssembly c (s.circuit c).recv.expected { index := i, page, octets := payload.length }) page payload) := by
  unfold State.storeSegment
  rw [ha]
  dsimp only
  rw [if_pos ((readyFlag_iff _).2 hw), hd, hp]
  simp [State.fillSlot, State.onDescriptor, State.setDescriptor, State.descriptor, State.onRecv, State.onCircuit,
    State.setCircuit, State.stored, newAssembly, Descriptor.free, insertSlot, State.circuit]

/-- Without a free page no segment is stored (R86). -/
theorem storeSegment_of_no_page (hp : s.lowestFreePage = none) : s.storeSegment c i payload = none := by
  unfold State.storeSegment
  rw [hp]
  split
  · rfl
  · split
    · cases s.lowestFreeDescriptor <;> rfl
    · rfl

/-- Without room in the window, a FREE descriptor or a free page no assembly begins (R53, R86). -/
theorem storeSegment_of_no_room (ha : (s.circuit c).recv.assembly = none)
    (h : (s.circuit c).window ≤ (s.circuit c).recv.delivered.length ∨ s.lowestFreeDescriptor = none ∨
      s.lowestFreePage = none) : s.storeSegment c i payload = none := by
  rcases h with h | h | h
  · unfold State.storeSegment
    rw [ha]
    exact if_neg (by rw [readyFlag_iff]; omega)
  · unfold State.storeSegment
    rw [ha, h]
    exact ite_self _
  · exact storeSegment_of_no_page h

/-! ### A SEG of the current block (R56 to R58) -/

theorem not_hasSegment (h : ∀ y ∈ s.assemblySlots c, y.index ≠ i) : ¬ s.hasSegment c i = true := by
  rw [hasSegment_iff]
  rintro ⟨y, hy, hyi⟩
  exact h y hy hyi

theorem segCurrent_of_duplicate (h : s.hasSegment c i = true) : s.segCurrent c i payload = s := by
  unfold State.segCurrent
  rw [if_pos h]

theorem segCurrent_of_not_stored (h : s.storeSegment c i payload = none) : s.segCurrent c i payload = s := by
  unfold State.segCurrent
  rw [h]
  exact ite_self _

/-- The announced count is present and every slot below it is filled (R58). -/
def fillsAnnounced (announced : Option Nat) (x : Descriptor) : Prop :=
  ∃ n, announced = some n ∧ ∀ i, i < n → ∃ y ∈ x.slots, y.index = i

/-- A new segment that leaves a slot missing is stored and no more (R57). -/
theorem segCurrent_of_stored (hi : ∀ y ∈ s.assemblySlots c, y.index ≠ i)
    (hs : s.storeSegment c i payload = some (s.stored c d x page payload))
    (hf : ¬ fillsAnnounced (s.circuit c).recv.announced x) :
    s.segCurrent c i payload = s.stored c d x page payload := by
  unfold State.segCurrent
  rw [if_neg (not_hasSegment hi), hs]
  dsimp only
  split
  · rfl
  · next n ha =>
    refine if_neg fun hall => hf ⟨n, ha, ?_⟩
    rwa [hasAll_iff, stored_assemblySlots] at hall

/-- A new segment that fills the last missing slot completes the block (R58). -/
theorem segCurrent_of_filled (hi : ∀ y ∈ s.assemblySlots c, y.index ≠ i)
    (hs : s.storeSegment c i payload = some (s.stored c d x page payload))
    (hf : fillsAnnounced (s.circuit c).recv.announced x) :
    s.segCurrent c i payload = (s.stored c d x page payload).complete c := by
  obtain ⟨n, ha, hall⟩ := hf
  unfold State.segCurrent
  rw [if_neg (not_hasSegment hi), hs, ha]
  exact if_pos ((hasAll_iff ..).2 (stored_assemblySlots ▸ hall))

/-! ### Completion of a block just stored (R61, R87) -/

/-- A state of one circuit's frame, with the loose replies as they were, differs in its records, events and descriptors at most. -/
theorem EngineFrame.eq_of_loose {s t : State} (h : EngineFrame c s t) (hl : t.loose = s.loose) :
    t = { s with circuits := t.circuits, events := t.events, descriptors := t.descriptors } := by
  cases t
  rw [State.mk.injEq]
  exact ⟨rfl, h.listen, h.labels, h.allocPtr, hl, rfl, h.memory, h.latch, h.link, h.lineReady, h.receiver, h.tx, h.line,
    h.controlPos, h.dataPos, h.port, h.startUp, h.msCount, h.dataBus, rfl, h.linkStale, h.intEnable, h.freeCount,
    h.pending⟩

/-- The completion that a stored segment brings (R58, R61, R87). -/
theorem complete_stored (s : State) (c : CircuitNo) (d : DescNo) (x : Descriptor) (page : Nat) (payload : List Octet) :
    let length := (x.slots.map Slot.octets).sum
    let r := s.circuit c
    let t := (s.stored c d x page payload).complete c
    t.memory = (s.stored c d x page payload).memory ∧
    t = { s with
      memory := t.memory, circuits := t.circuits, events := t.events
      descriptors := s.descriptors.set d.val { x with
        state := .delivered, pages := x.slots.map Slot.page, slots := [], byteLength := some length } } ∧
    (∀ e, e ≠ c → t.circuit e = s.circuit e) ∧
    t.circuit c = { r with
      stale := (t.circuit c).stale, answer := some .blockStatus
      recv := { r.recv with
        assembly := none, announced := none, delivered := r.recv.delivered ++ [d]
        expected := r.recv.expected + 1, lastOutcome := .complete } } ∧
    Raised s t { kind := .blockArrived, circuit := some c, block := some r.recv.expected, count := some length } := by
  intro length r t
  have hc := stored_circuit s c d x page payload
  obtain ⟨hframe, hrec, hdesc, hloose, hraised⟩ :=
    complete_spec (s := s.stored c d x page payload) (c := c) (d := d) (by rw [hc])
  rw [hc] at hrec hraised
  rw [stored_descriptor] at hdesc hraised
  refine ⟨hframe.memory, ?_, fun e he => (hframe.others e he).trans (stored_circuit_ne he), hrec, fun hroom => ?_⟩
  · have hd : t.descriptors = s.descriptors.set d.val { x with
        state := .delivered, pages := x.slots.map Slot.page, slots := [], byteLength := some length } :=
      hdesc.trans (Vector.set_set ..)
    calc t = { s.stored c d x page payload with
              circuits := t.circuits, events := t.events, descriptors := t.descriptors } := hframe.eq_of_loose hloose
      _ = { s with memory := (s.stored c d x page payload).memory
                   circuits := t.circuits, events := t.events, descriptors := t.descriptors } := rfl
      _ = _ := by rw [← hframe.memory, hd]
  · obtain ⟨hevents, hstale, hstales⟩ := hraised hroom
    exact ⟨hevents, hstale, fun e => (hstales e).trans (stored_stale e)⟩

end

/-- Settles O39: a SEG that passes R56's checks is dropped, stored, or stored with the completion of its block. -/
theorem segArrivalIsStoredOrDropped : Obligations.SegArrivalIsStoredOrDropped := by
  intro s dst index payload c hr ho hp hq hi r row dropped
  refine ⟨fun hl => ?_, fun hann => ?_⟩
  · exact hr.exec_seg ho hp hq (segAt_previous payload hi (classOf_previous _ hl))
  have current {t : State} (ht : s.heard.segCurrent c index.toNat payload = t) : exec row s = .next t :=
    hr.exec_seg ho hp hq
      ((segAt_current (s := s.heard) hi (classOf_expected _) ((announcedAllows_iff ..).2 hann)).trans ht)
  refine ⟨fun d hd hdup => ?_, fun d _ hpage => ?_, fun ha hroom => ?_, fun d page hpage hm => ?_⟩
  · refine current (segCurrent_of_duplicate ((hasSegment_iff ..).2 ?_))
    rwa [assemblySlots_of_some (s := s.heard) hd]
  · exact current (segCurrent_of_not_stored (storeSegment_of_no_page (s := s.heard) hpage))
  · exact current (segCurrent_of_not_stored (storeSegment_of_no_room (s := s.heard) ha hroom))
  · intro slot writes fills stores completes
    have written (x : Descriptor) : writes (s.heard.stored c d x page payload).memory :=
      stored_read (s := s.heard) hm (lowestFreePage_free hpage) hq
    have completed {x : Descriptor} (hnew : ∀ y ∈ s.heard.assemblySlots c, y.index ≠ index.toNat)
        (hx : s.heard.storeSegment c index.toNat payload = some (s.heard.stored c d x page payload))
        (hf : fills x) : completes x := by
      obtain ⟨hmem, heq, hothers, hrec, hraised⟩ := complete_stored s.heard c d x page payload
      exact ⟨_, current (segCurrent_of_filled hnew hx hf), hmem ▸ written x, heq, hothers, hrec, hraised⟩
    have storing {q : CircuitRecord} {x : Descriptor}
        (hnew : ∀ y ∈ s.heard.assemblySlots c, y.index ≠ index.toNat)
        (hx : s.heard.storeSegment c index.toNat payload = some (s.heard.stored c d x page payload))
        (hrec : { r with recv := { r.recv with assembly := some d } } = q) (hf : ¬ fills x) : stores q x :=
      hrec ▸ ⟨_, written x, current (segCurrent_of_stored hnew hx hf)⟩
    refine ⟨fun ha hfree => ?_, fun ha hw hd => ?_⟩
    · have hnew : ∀ y ∈ s.heard.assemblySlots c, y.index ≠ index.toNat :=
        assemblySlots_of_some (s := s.heard) ha ▸ hfree
      have hx := storeSegment_of_assembly (s := s.heard) (i := index.toNat) (payload := payload) ha hpage
      exact ⟨storing hnew hx (withAssembly_self ha), completed hnew hx⟩
    · have hnew : ∀ y ∈ s.heard.assemblySlots c, y.index ≠ index.toNat := by
        simp [assemblySlots_of_none (s := s.heard) ha]
      have hx := storeSegment_of_room (s := s.heard) (i := index.toNat) (payload := payload) ha hw hd hpage
      exact ⟨storing hnew hx rfl, completed hnew hx⟩

/-! ### TAKE (R70, R71) -/

section
variable {s : State} {c : CircuitNo}

theorem exec_take (hs : Started .take s) : exec .take s = .next s.takeTake :=
  congrArg Host.Outcome.next (taking_of_started hs _)

theorem exec_take_of_unready (hs : Started .take s) (hn : NamesCircuit s 0 c)
    (hb : (s.circuit c).state = .opening ∨ (s.circuit c).state = .offered) :
    exec .take s = refusedWith s .badState := by
  rw [exec_take hs, State.takeTake, withCircuit_of_named hn, if_pos hb, next_reject]

theorem exec_take_of_empty (hs : Started .take s) (hn : NamesCircuit s 0 c)
    (hb : ¬ ((s.circuit c).state = .opening ∨ (s.circuit c).state = .offered))
    (hd : (s.circuit c).recv.delivered = []) : exec .take s = refusedWith s .empty := by
  rw [exec_take hs, State.takeTake, withCircuit_of_named hn, if_neg hb, hd]
  exact next_reject s .empty

theorem exec_take_of_head {d : DescNo} {rest : List DescNo} (hs : Started .take s) (hn : NamesCircuit s 0 c)
    (hb : ¬ ((s.circuit c).state = .opening ∨ (s.circuit c).state = .offered))
    (hd : (s.circuit c).recv.delivered = d :: rest) :
    exec .take s = answers (s.takeHead c d rest)
      [d.val, codeOf BitVec.toNat (s.descriptor d).blockNumber, codeOf id (s.descriptor d).byteLength,
       rest.length] := by
  rw [exec_take hs, State.takeTake, withCircuit_of_named hn, if_neg hb, hd]
  exact next_succeed ..

/-- The unsolicited READY, in the words of R70 and R71. -/
theorem offerReady_eq (r : CircuitRecord) : r.offerReady =
    if r.state = .opened ∧ r.recv.heldReported = true ∧ r.recv.delivered.length < r.window then
      { r with answer := some .ready, recv := { r.recv with heldReported := false } }
    else r := by
  unfold CircuitRecord.offerReady
  simp only [readyFlag_iff]

/-- The head of the delivery queue taken: its descriptor and the record, and nothing else (R70). -/
theorem takeHead_eq (s : State) (c : CircuitNo) (d : DescNo) (rest : List DescNo) :
    s.takeHead c d rest = { s with
      circuits := s.circuits.set c.val
        (CircuitRecord.offerReady { s.circuit c with recv := { (s.circuit c).recv with delivered := rest } })
      descriptors := s.descriptors.set d.val { s.descriptor d with state := .held } } := by
  unfold State.takeHead State.onRecv
  rw [onCircuit_onCircuit]
  rfl

end

/-- Settles O23: the refusals, then the two records TAKE can leave. -/
theorem takeGivesTheHeadBlock : Obligations.TakeGivesTheHeadBlock := by
  intro s c hs hn r
  refine ⟨exec_take_of_unready hs hn, fun hc hf => ?_⟩
  have hb : ¬ (r.state = .opening ∨ r.state = .offered) := not_or.2 ⟨hc, hf⟩
  refine ⟨exec_take_of_empty hs hn hb, fun d rest hd => ?_⟩
  intro x tells taken
  have htaken : exec .take s =
      taken (CircuitRecord.offerReady { r with recv := { r.recv with delivered := rest } }) := by
    rw [exec_take_of_head hs hn hb hd, takeHead_eq]
  rw [htaken, offerReady_eq]
  exact ⟨fun ht => congrArg taken (if_neg ht), fun ht => congrArg taken (if_pos ht)⟩

end Sys2Proof.Machine

/-! PROOFS. What a change of the state means to the Label Map (R96) and to the peer-label check (section 5.6): changes
that leave the face of every record, the part of it these two read, as it is; and changes that keep both laws. -/

namespace Sys2Proof.Machine

/-! ### Changes that no label notices -/

/-- What the Label Map and the peer-label check read of a record. -/
structure RecordFace where
  state      : CircuitState
  kind       : Option CircuitKind
  localLabel : Label
  peerLabel  : Option Label

/-- The face of a record. -/
def CircuitRecord.face (r : CircuitRecord) : RecordFace := ⟨r.state, r.kind, r.localLabel, r.peerLabel⟩

/-- A change that leaves the face of every record, the label entries and the listen table as they are. -/
structure Steady (s t : State) : Prop where
  face   : ∀ c, (t.circuit c).face = (s.circuit c).face
  labels : t.labels = s.labels
  listen : t.listen = s.listen

theorem Steady.refl (s : State) : Steady s s := ⟨fun _ => rfl, rfl, rfl⟩

theorem Steady.trans {s t u : State} (h : Steady s t) (k : Steady t u) : Steady s u :=
  ⟨fun c => (k.face c).trans (h.face c), k.labels.trans h.labels, k.listen.trans h.listen⟩

theorem Steady.state {s t : State} (h : Steady s t) (c : CircuitNo) : (t.circuit c).state = (s.circuit c).state :=
  congrArg RecordFace.state (h.face c)

/-- A change that keeps the records, the label entries and the listen table. -/
theorem steady_of_eq {s t : State} (hc : t.circuits = s.circuits) (hl : t.labels = s.labels)
    (hn : t.listen = s.listen) : Steady s t := ⟨fun c => by rw [circuit_of_circuits hc], hl, hn⟩

/-- A change of one record behind its face. -/
theorem steady_onCircuit {s : State} {c : CircuitNo} {f : CircuitRecord → CircuitRecord}
    (h : (f (s.circuit c)).face = (s.circuit c).face) : Steady s (s.onCircuit c f) := by
  refine ⟨fun d => ?_, rfl, rfl⟩
  rw [circuit_onCircuit]
  split
  · next hd => rw [hd]; exact h
  · rfl

/-- A change of one circuit that leaves the face of its record. -/
theorem steady_of_frame {s t : State} {c : CircuitNo} (hf : CircuitFrame c s t)
    (h : (t.circuit c).face = (s.circuit c).face) : Steady s t := by
  refine ⟨fun d => ?_, hf.labels, hf.listen⟩
  by_cases hd : d = c
  · rw [hd]; exact h
  · rw [hf.others d hd]

section
variable (s : State) (c : CircuitNo)

theorem steady_onSend (f : SendContext → SendContext) : Steady s (s.onSend c f) := steady_onCircuit rfl
theorem steady_onRecv (f : RecvContext → RecvContext) : Steady s (s.onRecv c f) := steady_onCircuit rfl
theorem steady_stopTimer : Steady s (s.stopTimer c) := steady_onCircuit rfl
theorem steady_setTransfer (k : Option TransferKind) : Steady s (s.setTransfer c k) := steady_onCircuit rfl
theorem steady_setAnswer (k : Option AnswerKind) : Steady s (s.setAnswer c k) := steady_onCircuit rfl
theorem steady_setProtocol (k : Option ProtocolKind) : Steady s (s.setProtocol c k) := steady_onCircuit rfl
theorem steady_startTimer (purpose : TimerPurpose) (ms : Nat) : Steady s (s.startTimer c purpose ms) :=
  steady_onCircuit rfl
theorem steady_onLink (f : Link → Link) : Steady s (s.onLink f) := steady_of_eq rfl rfl rfl
theorem steady_finish (code : ResultCode) (values : List Nat) : Steady s (s.finish code values) :=
  steady_of_eq rfl rfl rfl
theorem steady_countFree (b : Bool) : Steady s (s.countFree b) := steady_of_eq (by simp) (by simp) (by simp)
theorem steady_requestLoose (x : LooseReply) : Steady s (s.requestLoose x) := steady_of_eq (by simp) (by simp) (by simp)
theorem steady_setDescriptor (d : DescNo) (x : Descriptor) : Steady s (s.setDescriptor d x) := steady_of_eq rfl rfl rfl

/-- An event changes no record but in its stale flag (R204). -/
theorem steady_raise (e : Event) : Steady s (s.raise e) := by
  refine ⟨fun d => ?_, raise_labels s e, raise_listen s e⟩
  obtain ⟨b, hb⟩ := raise_circuit s e d
  rw [hb]
  rfl

theorem steady_freeDescriptor (d : DescNo) : Steady s (s.freeDescriptor d) := by
  rw [freeDescriptor_eq]; exact steady_setDescriptor ..

theorem steady_foldl_free (l : List DescNo) : Steady s (l.foldl State.freeDescriptor s) := by
  rw [foldl_freeDescriptor_eq]; exact steady_of_eq rfl rfl rfl

theorem steady_endPin (pin : Option (Nat × DescNo)) : Steady s (s.endPin pin) := by
  unfold State.endPin
  split
  · exact Steady.refl s
  · split
    · exact steady_setDescriptor ..
    · exact Steady.refl s

theorem steady_abortTransmission : Steady s s.abortTransmission := by
  unfold State.abortTransmission
  split
  · exact Steady.refl s
  · exact (steady_endPin s _).trans (steady_of_eq rfl rfl rfl)

/-! ### The Send Engine (R29 to R46) -/

theorem steady_startHead (l : List DescNo) : Steady s (s.startHead c l) := by
  induction l generalizing s with
  | nil => exact steady_onSend ..
  | cons d l ih =>
    unfold State.startHead
    split
    · exact ((steady_raise s _).trans (steady_freeDescriptor ..)).trans (ih _)
    · unfold State.startBlock
      exact (steady_setDescriptor ..).trans (steady_onSend ..)

theorem steady_startDecision (b : Bool) : Steady s (s.startDecision c b) := by
  unfold State.startDecision
  split
  · exact steady_onSend ..
  · split
    · exact steady_startHead ..
    · split
      · exact (steady_onSend ..).trans (steady_startTimer ..)
      · exact (steady_onSend ..).trans (steady_setTransfer ..)

theorem stopSendTimer_face (r : CircuitRecord) : r.stopSendTimer.face = r.face := by
  unfold CircuitRecord.stopSendTimer
  split <;> rfl

theorem steady_rewindSend : Steady s (s.rewindSend c) := by
  refine steady_of_frame (frame_rewindSend s c).toCircuitFrame ?_
  rw [rewindSend_circuit]
  exact stopSendTimer_face (s.circuit c)

theorem steady_takeAnswer : Steady s (s.takeAnswer c) := (steady_stopTimer s c).trans (steady_setTransfer ..)

theorem steady_advance (a : ActiveBlock) (ready : Bool) : Steady s (s.advance c a ready) :=
  ((steady_freeDescriptor s a.desc).trans (steady_onSend ..)).trans (steady_startDecision ..)

theorem steady_failActive (a : ActiveBlock) : Steady s (s.failActive c a) :=
  ((steady_raise s _).trans (steady_freeDescriptor ..)).trans (steady_onSend ..)

theorem steady_readyInHeld (ready : Bool) : Steady s (s.readyInHeld c ready) := by
  unfold State.readyInHeld
  dsimp only
  split
  · exact (((steady_onSend s c _).trans (steady_stopTimer ..)).trans (steady_setTransfer ..)).trans
      (steady_startDecision ..)
  · split
    · exact (steady_onSend s c _).trans (steady_stopTimer ..)
    · exact (steady_onSend s c _).trans (steady_startTimer ..)

theorem steady_readyAt (ready : Bool) : Steady s (State.readyAt ready c s) := by
  unfold State.readyAt
  split
  · exact steady_readyInHeld ..
  · exact steady_onSend ..
  all_goals exact Steady.refl s

/-- The end of a frame of a circuit changes its send context, its transfer class and its timer at most (R191). -/
theorem steady_reportToSender (f : Frame) : Steady s (s.reportToSender c f) := by
  unfold State.reportToSender
  split
  · unfold State.segSent
    split
    · split
      · dsimp only
        split
        · exact ((steady_onSend ..).trans (steady_onSend ..)).trans (steady_setTransfer ..)
        · exact steady_onSend ..
      · exact Steady.refl s
    · exact Steady.refl s
  · unfold State.blockEndSent
    split
    · split
      · exact (steady_onSend ..).trans (steady_startTimer ..)
      · exact Steady.refl s
    · exact Steady.refl s
  · unfold State.blockAbandonSent
    split
    · split
      · exact steady_startTimer ..
      · exact Steady.refl s
    · exact Steady.refl s
  · unfold State.probeSent
    split
    · exact steady_startTimer ..
    · exact Steady.refl s
  · exact Steady.refl s

/-! ### The Receive Engine (R52 to R75) -/

theorem steady_dropAssembly : Steady s (s.dropAssembly c) := by
  refine steady_of_frame (frame_dropAssembly s c).toCircuitFrame ?_
  rw [dropAssembly_circuit]
  rfl

theorem steady_rewindRecv : Steady s (s.rewindRecv c) := by
  refine steady_of_frame (frame_rewindRecv s c).toCircuitFrame ?_
  rw [rewindRecv_circuit]
  rfl

theorem steady_rewindBoth : Steady s ((s.rewindSend c).rewindRecv c) :=
  (steady_rewindSend s c).trans (steady_rewindRecv ..)

theorem steady_complete : Steady s (s.complete c) := by
  cases ha : (s.circuit c).recv.assembly with
  | none =>
    unfold State.complete
    rw [ha]
    exact Steady.refl s
  | some d =>
    obtain ⟨hframe, hrec, -⟩ := complete_spec ha
    refine steady_of_frame hframe.toCircuitFrame ?_
    rw [hrec]
    rfl

theorem steady_fillSlot (d : DescNo) (page i : Nat) (payload : List Octet) : Steady s (s.fillSlot d page i payload) :=
  steady_of_eq rfl rfl rfl

end

theorem steady_storeSegment {s t : State} {c : CircuitNo} {i : Nat} {payload : List Octet}
    (h : s.storeSegment c i payload = some t) : Steady s t := by
  unfold State.storeSegment at h
  split at h
  · obtain ⟨page, -, rfl⟩ := Option.map_eq_some_iff.1 h
    exact steady_fillSlot ..
  · split at h
    · split at h
      · cases h
        exact ((steady_setDescriptor ..).trans (steady_onRecv ..)).trans (steady_fillSlot ..)
      · cases h
    · cases h

theorem steady_segCurrent (s : State) (c : CircuitNo) (i : Nat) (payload : List Octet) :
    Steady s (s.segCurrent c i payload) := by
  unfold State.segCurrent
  split
  · exact Steady.refl s
  · split
    · exact Steady.refl s
    · next t ht =>
      refine (steady_storeSegment ht).trans ?_
      split
      · exact Steady.refl t
      · split
        · exact steady_complete ..
        · exact Steady.refl t

/-! ### The Command Port and the packet memory (R90, R194) -/

theorem steady_writeRegister (s : State) (address : WordAddress) (value : Word) :
    Steady s (s.writeRegister address value) := by
  unfold State.writeRegister State.writeCommand State.writeParam
  dsimp only
  repeat' split
  all_goals exact steady_of_eq rfl rfl rfl

theorem steady_reportRefusal (s : State) (p : Nat) : Steady s (s.reportRefusal p) := by
  unfold State.reportRefusal
  split
  · exact Steady.refl s
  · exact (steady_of_eq (s := s) (t := { s with latch := some p }) rfl rfl rfl).trans (steady_raise ..)

theorem steady_readPacket (s : State) (address : WordAddress) : Steady s (s.readPacket address) := by
  unfold State.readPacket
  split
  · exact steady_of_eq rfl rfl rfl
  · split
    · exact steady_of_eq rfl rfl rfl
    · exact (steady_of_eq (s := s) (t := { s with dataBus := 0 }) rfl rfl rfl).trans (steady_reportRefusal ..)

theorem steady_writePacket (s : State) (address : WordAddress) (value : Word) :
    Steady s (s.writePacket address value) := by
  unfold State.writePacket
  split
  · exact Steady.refl s
  · split
    · exact steady_of_eq rfl rfl rfl
    · exact steady_reportRefusal ..

/-! ### The transmitter (R187 to R191) -/

theorem steady_startClaim (s : State) (claim : Claim) : Steady s (s.startClaim claim) := by
  cases claim with
  | link p => exact steady_of_eq rfl rfl rfl
  | loose reply => exact steady_of_eq rfl rfl rfl
  | protocol c k => exact (steady_setProtocol s c none).trans (steady_of_eq rfl rfl rfl)
  | answer c k =>
    have hr : Steady (s.setAnswer c none) ((s.setAnswer c none).onCircuit c CircuitRecord.reportReady) :=
      steady_onCircuit rfl
    exact ((steady_setAnswer s c none).trans hr).trans (steady_of_eq rfl rfl rfl)
  | transfer c k => exact (steady_setTransfer s c none).trans (steady_of_eq rfl rfl rfl)
  | data c a i => exact steady_of_eq rfl rfl rfl

theorem steady_startTransmission (s : State) : Steady s s.startTransmission := by
  unfold State.startTransmission
  split
  · exact steady_startClaim ..
  · exact Steady.refl s

theorem steady_linkFrameSent (s : State) (f : Frame) : Steady s (s.linkFrameSent f) := by
  unfold State.linkFrameSent
  split
  · split
    · exact steady_onLink ..
    · exact Steady.refl s
  · exact Steady.refl s

theorem steady_endTransmission (s : State) : Steady s s.endTransmission := by
  unfold State.endTransmission
  split
  · exact Steady.refl s
  · next t _ =>
    have hr : Steady s (s.reportEnd t) := by
      unfold State.reportEnd
      split
      · exact steady_linkFrameSent ..
      · exact Steady.refl s
      · refine Steady.trans ?_ (steady_endPin ..)
        split
        · exact Steady.refl s
        · exact steady_reportToSender ..
    exact hr.trans (steady_of_eq rfl rfl rfl)

end Sys2Proof.Machine

/-! PROOFS. The correspondence of records and labels (R96, R97, R101) and the claims to peer labels (section 5.6) under
the part's moves: which changes keep both, and what a new record or a new claim adds. -/

namespace Sys2Proof.Machine

/-! ### Claims (section 5.6) -/

/-- The circuit states whose records claim their peer label (section 5.6). -/
def CircuitState.mayClaim (x : CircuitState) : Bool := x.holdsPeerLabel || decide (x = .dormant)

theorem claims_iff (r : CircuitRecord) (l : Label) :
    r.claims l ↔ r.state.mayClaim = true ∧ r.peerLabel = some l := by
  simp [CircuitRecord.claims, CircuitState.mayClaim]

/-- The claims of a record are read from its face. -/
theorem claims_of_face {r q : CircuitRecord} (h : q.face = r.face) {l : Label} (hq : q.claims l) : r.claims l := by
  rw [claims_iff] at *
  rwa [show q.state = r.state from congrArg RecordFace.state h,
    show q.peerLabel = r.peerLabel from congrArg RecordFace.peerLabel h] at hq

/-! ### The correspondence of records and labels (R96) -/

/-- A record is in use exactly as before, for the same kind of circuit and with the same label. -/
structure CircuitRecord.SameUse (r q : CircuitRecord) : Prop where
  kind       : q.kind = r.kind
  localLabel : q.localLabel = r.localLabel
  free       : q.state = .free ↔ r.state = .free

theorem CircuitRecord.SameUse.refl (r : CircuitRecord) : r.SameUse r := ⟨rfl, rfl, Iff.rfl⟩

theorem sameUse_of_face {r q : CircuitRecord} (h : q.face = r.face) : r.SameUse q where
  kind       := congrArg RecordFace.kind h
  localLabel := congrArg RecordFace.localLabel h
  free       := by rw [show q.state = r.state from congrArg RecordFace.state h]

section
variable {s t u : State} {c : CircuitNo} {l : Label}

/-- A change that keeps every record's use and every bound entry, and binds no label, keeps the correspondence. -/
theorem LabelsLaw.relabelled (h : LabelsLaw s)
    (hl : ∀ l c fixed, t.label l = .bound c fixed ↔ s.label l = .bound c fixed)
    (hu : ∀ c, (s.circuit c).SameUse (t.circuit c)) : LabelsLaw t where
  record c hc := by
    obtain ⟨hn, hb⟩ := h.record c (mt (hu c).free.2 hc)
    rw [(hu c).localLabel, (hu c).kind]
    exact ⟨hn, (hl ..).2 hb⟩
  label l c fixed hn hb := by
    obtain ⟨hf, he⟩ := h.label l c fixed hn ((hl ..).1 hb)
    exact ⟨mt (hu c).free.1 hf, (hu c).localLabel.trans he⟩

/-- A record becomes FREE and its label is bound no more (R97, R101). -/
theorem LabelsLaw.released (h : LabelsLaw s) (hc : (s.circuit c).state ≠ .free) {e : LabelEntry}
    (he : ∀ d fixed, e ≠ .bound d fixed) (hl : t.labels = (s.setLabel (s.circuit c).localLabel e).labels)
    (hf : (t.circuit c).state = .free) (ho : ∀ d, d ≠ c → t.circuit d = s.circuit d) : LabelsLaw t := by
  obtain ⟨hn, hb⟩ := h.record c hc
  have hself : t.label (s.circuit c).localLabel = e := (label_of_labels hl _).trans (label_setLabel_self s e hn)
  have hother : ∀ m, m ≠ 0 → m ≠ (s.circuit c).localLabel → t.label m = s.label m := fun m h0 hm =>
    (label_of_labels hl m).trans (label_setLabel_ne s e h0 hm)
  constructor
  · intro d hd
    have hdc : d ≠ c := by rintro rfl; exact hd hf
    rw [ho d hdc] at hd ⊢
    obtain ⟨hn', hb'⟩ := h.record d hd
    refine ⟨hn', (hother _ hn' fun k => hdc ?_).trans hb'⟩
    rw [k, hb] at hb'
    cases hb'
    rfl
  · intro m d fixed hm hb'
    have hne : m ≠ (s.circuit c).localLabel := by
      rintro rfl
      exact he d fixed (hself.symm.trans hb')
    rw [hother m hm hne] at hb'
    obtain ⟨hd, hdl⟩ := h.label m d fixed hm hb'
    have hdc : d ≠ c := by rintro rfl; exact hne hdl.symm
    rw [ho d hdc]
    exact ⟨hd, hdl⟩

/-- A record put in the FREE slot c, and the FREE label l bound to it (R1, R98, R100). -/
structure Creates (c : CircuitNo) (l : Label) (s t : State) : Prop where
  slot   : (s.circuit c).state = .free
  label  : l ≠ 0 ∧ s.label l = .free
  others : ∀ d, d ≠ c → t.circuit d = s.circuit d
  record : (t.circuit c).state ≠ .free ∧ (t.circuit c).localLabel = l
  labels : t.labels = (s.setLabel l (.bound c (decide ((t.circuit c).kind = some .fixed)))).labels
  listen : t.listen = s.listen

/-- A new record and its label name each other (R96). -/
theorem Creates.labelsLaw (h : Creates c l s t) (hs : LabelsLaw s) : LabelsLaw t := by
  obtain ⟨hslot, ⟨hn, hfree⟩, ho, ⟨hu, hll⟩, hlab, -⟩ := h
  have hself : t.label l = .bound c (decide ((t.circuit c).kind = some .fixed)) :=
    (label_of_labels hlab l).trans (label_setLabel_self s _ hn)
  have hother : ∀ m, m ≠ 0 → m ≠ l → t.label m = s.label m := fun m h0 hm =>
    (label_of_labels hlab m).trans (label_setLabel_ne s _ h0 hm)
  constructor
  · intro d hd
    by_cases hdc : d = c
    · subst hdc
      rw [hll]
      exact ⟨hn, hself⟩
    · rw [ho d hdc] at hd ⊢
      obtain ⟨hn', hb'⟩ := hs.record d hd
      refine ⟨hn', (hother _ hn' fun k => ?_).trans hb'⟩
      rw [k, hfree] at hb'
      cases hb'
  · intro m d fixed hm hb
    by_cases hml : m = l
    · subst hml
      rw [hself] at hb
      cases hb
      exact ⟨hu, hll⟩
    · rw [hother m hm hml] at hb
      obtain ⟨hd, hdl⟩ := hs.label m d fixed hm hb
      have hdc : d ≠ c := by rintro rfl; exact hd hslot
      rw [ho d hdc]
      exact ⟨hd, hdl⟩

/-! ### Changes that keep the laws -/

/-- A change that keeps the correspondence of records and labels, adds no claim to a peer label, and leaves the listen
table as it is. -/
structure Keeps (s t : State) : Prop where
  labels : LabelsLaw s → LabelsLaw t
  claims : ∀ c l, (t.circuit c).claims l → (s.circuit c).claims l
  listen : t.listen = s.listen

/-- As `Keeps`, but that one record may claim the peer label l newly. -/
structure Adds (l : Label) (s t : State) : Prop where
  labels : LabelsLaw s → LabelsLaw t
  claims : ∃ c, ∀ d m, (t.circuit d).claims m → (s.circuit d).claims m ∨ (d = c ∧ m = l)
  listen : t.listen = s.listen

theorem Keeps.refl (s : State) : Keeps s s := ⟨id, fun _ _ => id, rfl⟩

theorem Keeps.trans (h : Keeps s t) (k : Keeps t u) : Keeps s u :=
  ⟨k.labels ∘ h.labels, fun c l => h.claims c l ∘ k.claims c l, k.listen.trans h.listen⟩

theorem Keeps.adds (h : Keeps s t) (l : Label) : Adds l s t :=
  ⟨h.labels, ⟨0, fun d m hm => .inl (h.claims d m hm)⟩, h.listen⟩

theorem Adds.trans (h : Adds l s t) (k : Keeps t u) : Adds l s u := by
  obtain ⟨c, hc⟩ := h.claims
  exact ⟨k.labels ∘ h.labels, ⟨c, fun d m hm => hc d m (k.claims d m hm)⟩, k.listen.trans h.listen⟩

/-- A change behind the face of every record keeps the laws. -/
theorem Steady.keeps (h : Steady s t) : Keeps s t where
  labels hs := hs.relabelled (fun l _ _ => by rw [label_of_labels h.labels l]) fun c => sameUse_of_face (h.face c)
  claims c _ := claims_of_face (h.face c)
  listen    := h.listen

theorem keeps_of_eq (hc : t.circuits = s.circuits) (hl : t.labels = s.labels) (hn : t.listen = s.listen) :
    Keeps s t := (steady_of_eq hc hl hn).keeps

/-- A change of one record to the state x, its kind and both labels kept: it stays in use, and claims its peer label
only where it did before. -/
theorem keeps_of_state {x : CircuitState} (hf : CircuitFrame c s t)
    (hq : (t.circuit c).face = { (s.circuit c).face with state := x }) (hs : (s.circuit c).state ≠ .free)
    (hx : x ≠ .free) (hm : x.mayClaim = true → (s.circuit c).state.mayClaim = true) : Keeps s t := by
  have hstate : (t.circuit c).state = x := congrArg RecordFace.state hq
  have hpeer : (t.circuit c).peerLabel = (s.circuit c).peerLabel := congrArg RecordFace.peerLabel hq
  have huse : (s.circuit c).SameUse (t.circuit c) :=
    ⟨congrArg RecordFace.kind hq, congrArg RecordFace.localLabel hq, by rw [hstate]; exact iff_of_false hx hs⟩
  refine ⟨fun h => h.relabelled (fun m _ _ => by rw [label_of_labels hf.labels m]) fun d => ?_, fun d m => ?_,
    hf.listen⟩
  · by_cases hd : d = c
    · rw [hd]; exact huse
    · rw [hf.others d hd]; exact .refl _
  · by_cases hd : d = c
    · rw [hd, claims_iff, claims_iff, hstate, hpeer]
      exact And.imp_left hm
    · rw [hf.others d hd]; exact id

/-- A record that enters CLOSED claims nothing any more. -/
theorem keeps_of_closed (hf : CircuitFrame c s t)
    (hq : (t.circuit c).face = { (s.circuit c).face with state := .closed }) (hs : (s.circuit c).state ≠ .free) :
    Keeps s t := keeps_of_state hf hq hs (by simp) fun h => by cases h

theorem ne_free_of_mayClaim {x : CircuitState} (h : x.mayClaim = true) : x ≠ .free := by
  rintro rfl; cases h

/-- A record that claims its peer label moves to another state in use. -/
theorem keeps_of_claiming {x : CircuitState} (hf : CircuitFrame c s t)
    (hq : (t.circuit c).face = { (s.circuit c).face with state := x })
    (hs : (s.circuit c).state.mayClaim = true) (hx : x ≠ .free) : Keeps s t :=
  keeps_of_state hf hq (ne_free_of_mayClaim hs) hx fun _ => hs

/-- A new record that claims nothing keeps the laws. -/
theorem Creates.keeps (h : Creates c l s t) (hm : (t.circuit c).state.mayClaim = false) : Keeps s t := by
  refine ⟨h.labelsLaw, fun d m => ?_, h.listen⟩
  by_cases hd : d = c
  · rw [hd, claims_iff, hm]
    rintro ⟨hk, -⟩
    cases hk
  · rw [h.others d hd]; exact id

/-- A new record adds its claim to its peer label. -/
theorem Creates.adds (h : Creates c l s t) {peer : Label} (hp : (t.circuit c).peerLabel = some peer) :
    Adds peer s t := by
  refine ⟨h.labelsLaw, ⟨c, fun d m hm => ?_⟩, h.listen⟩
  by_cases hd : d = c
  · subst hd
    obtain ⟨-, hk⟩ := (claims_iff ..).1 hm
    rw [hp] at hk
    cases hk
    exact .inr ⟨rfl, rfl⟩
  · rw [h.others d hd] at hm
    exact .inl hm

/-- A dialled record created with a label of the allocation scan (R1, R3, R98). -/
theorem creates_createDialled {r : CircuitRecord} (hc : s.lowestFreeCircuit = some c) (hl : s.scanFreeLabel = some l)
    (hs : r.state ≠ .free) (hk : r.kind = some .dialled) : Creates c l s (s.createDialled c l r) := by
  have hrec : (s.createDialled c l r).circuit c = { r with stale := (s.circuit c).stale, localLabel := l } :=
    circuit_setCircuit_self ..
  refine ⟨lowestFreeCircuit_state hc, scanFreeLabel_spec hl, (apart_createDialled s c l r).others, ?_, ?_,
    setLabel_listen ..⟩
  · rw [hrec]; exact ⟨hs, rfl⟩
  · rw [hrec]
    simp only [hk]
    rfl

/-- A record that becomes FREE (R12, R97, R101). -/
theorem keeps_endRecord (hs : (s.circuit c).state ≠ .free) : Keeps s (s.endRecord c) := by
  have hrec : (s.endRecord c).circuit c = CircuitRecord.free (s.circuit c).stale := circuit_setCircuit_self ..
  have hothers := (apart_endRecord s c).others
  refine ⟨fun h => h.released hs (e := s.restEntry) ?_ rfl (by rw [hrec]; rfl) hothers, fun d m => ?_,
    setLabel_listen ..⟩
  · intro d fixed
    unfold State.restEntry
    split <;> simp
  · by_cases hd : d = c
    · rw [hd, hrec, claims_iff]
      rintro ⟨hk, -⟩
      cases hk
    · rw [hothers d hd]; exact id

end

end Sys2Proof.Machine

/-! PROOFS. The part's moves keep the correspondence of records and labels, and add no claim to a peer label: the close
and rewind exchanges, the moves with the link, the expiries, and the frames at an OPEN circuit. -/

namespace Sys2Proof.Machine

section
variable {s : State} {c : CircuitNo}

/-! ### Closing and rewinding (R9, R135, R143) -/

theorem keeps_toClosed (hs : (s.circuit c).state ≠ .free) (cause diagnostic : Octet) (originator : Originator)
    (confirmed : Bool) (owed : Option ProtocolKind) :
    Keeps s (s.toClosed c cause diagnostic originator confirmed owed) :=
  keeps_of_closed (frame_toClosed ..).toCircuitFrame (by rw [toClosed_circuit]; rfl) hs

theorem keeps_enterClosed (hs : (s.circuit c).state ≠ .free) (cause diagnostic : Octet) (originator : Originator)
    (confirmed : Bool) (owed : Option ProtocolKind) :
    Keeps s (s.enterClosed c cause diagnostic originator confirmed owed) :=
  (keeps_toClosed hs ..).trans (steady_raise ..).keeps

theorem keeps_finishClosing (hs : (s.circuit c).state = .closing) (confirmed : Bool) (owed : Option ProtocolKind) :
    Keeps s (s.finishClosing c confirmed owed) :=
  (keeps_of_closed (frame_onCircuit ..).toCircuitFrame (by rw [circuit_onCircuit_self]; rfl) (by simp [hs])).trans
    (steady_raise ..).keeps

theorem keeps_endCircuit (hs : (s.circuit c).state ≠ .free) (cause : Octet) : Keeps s (s.endCircuit c cause) := by
  unfold State.endCircuit
  split
  · next hc => exact keeps_finishClosing hc ..
  · exact keeps_enterClosed hs ..

/-- An OPEN or REWINDING record claims its peer label (section 5.6). -/
theorem mayClaim_of_running {x : CircuitState} (h : x = .opened ∨ x = .rewinding) : x.mayClaim = true := by
  rcases h with rfl | rfl <;> rfl

theorem keeps_enterClosing (hs : (s.circuit c).state = .opened ∨ (s.circuit c).state = .rewinding)
    (cause diagnostic : Octet) (originator : Originator) : Keeps s (s.enterClosing c cause diagnostic originator) :=
  keeps_of_claiming (x := .closing) (frame_enterClosing ..).toCircuitFrame (by rw [enterClosing_circuit]; rfl)
    (mayClaim_of_running hs) (by simp)

theorem keeps_enterRewinding (hs : (s.circuit c).state = .opened) (cause : Octet) (originator : Originator) :
    Keeps s (s.enterRewinding c cause originator) :=
  keeps_of_claiming (x := .rewinding) (frame_enterRewinding ..).toCircuitFrame (by rw [enterRewinding_circuit]; rfl)
    (mayClaim_of_running (.inl hs)) (by simp)

theorem keeps_protocolError (hs : (s.circuit c).state = .opened) : Keeps s (s.protocolError c) :=
  keeps_enterRewinding hs ..

/-- A record put back in OPEN by a change of its own, its kind and labels kept (R122, R147, R148, R159). -/
theorem keeps_reopened {f : CircuitRecord → CircuitRecord} (hs : (s.circuit c).state.mayClaim = true)
    (hf : (f (s.circuit c)).face = { (s.circuit c).face with state := .opened }) : Keeps s (s.onCircuit c f) :=
  keeps_of_claiming (frame_onCircuit ..).toCircuitFrame (by rw [circuit_onCircuit_self]; exact hf) hs (by simp)

theorem keeps_finishRewinding (hs : (s.circuit c).state = .rewinding) (owed : Option ProtocolKind) :
    Keeps s (s.finishRewinding c owed) :=
  ((keeps_reopened (mayClaim_of_running (.inr hs)) rfl).trans (steady_startDecision ..).keeps).trans
    (steady_raise ..).keeps

theorem keeps_rewindInOpen (s : State) (c : CircuitNo) (cause : Octet) : Keeps s (s.rewindInOpen c cause) :=
  ((((steady_rewindBoth s c).trans (steady_setProtocol ..)).trans (steady_startDecision ..)).trans
    (steady_raise ..)).keeps

/-! ### Moves with the link (R159 to R161) -/

theorem keeps_enterDormant (hs : (s.circuit c).state = .opened ∨ (s.circuit c).state = .rewinding) :
    Keeps s (s.enterDormant c) :=
  keeps_of_claiming (x := .dormant) (frame_enterDormant ..).toCircuitFrame (by rw [enterDormant_circuit]; rfl)
    (mayClaim_of_running hs) (by simp)

theorem keeps_leaveRecord (cause : Octet) (s : State) (c : CircuitNo) : Keeps s (s.leaveRecord cause c) := by
  unfold State.leaveRecord
  split
  iterate 5
    next hs => exact keeps_endCircuit (by simp [hs]) cause
  · next hs => exact keeps_enterDormant (.inl hs)
  · next hs => exact keeps_enterDormant (.inr hs)
  · exact (steady_setProtocol ..).keeps
  · exact Keeps.refl s

theorem keeps_wakeRecord (agreed : Nat) (s : State) (c : CircuitNo) : Keeps s (s.wakeRecord agreed c) := by
  unfold State.wakeRecord
  split
  · next hs => exact (keeps_reopened (by rw [hs.2]; rfl) rfl).trans (steady_startDecision ..).keeps
  · exact Keeps.refl s

/-- A fixed circuit in OPEN or REWINDING at a peer restart (R161). -/
theorem keeps_rewound (hs : (s.circuit c).state = .opened ∨ (s.circuit c).state = .rewinding) :
    Keeps s (((s.rewindSend c).rewindRecv c).onCircuit c (fun r =>
      { (r.enter .opened).emptyTransfer with protocol := none })) := by
  have hsteady := steady_rewindBoth s c
  refine hsteady.keeps.trans (keeps_reopened ?_ rfl)
  rw [hsteady.state c]
  exact mayClaim_of_running hs

theorem keeps_restartRecord (s : State) (c : CircuitNo) : Keeps s (s.restartRecord c) := by
  unfold State.restartRecord
  split
  · next hs => exact keeps_rewound (.inl hs)
  · next hs => exact keeps_rewound (.inr hs)
  · exact keeps_leaveRecord ..

theorem keeps_reagreeRecord (agreed : Nat) (s : State) (c : CircuitNo) : Keeps s (s.reagreeRecord agreed c) := by
  unfold State.reagreeRecord
  split
  · exact (Steady.trans (steady_onCircuit rfl) (steady_startDecision ..)).keeps
  · exact Keeps.refl s

theorem keeps_forEachCircuit {f : State → CircuitNo → State} (hf : ∀ s c, Keeps s (f s c)) (s : State) :
    Keeps s (s.forEachCircuit f) := by
  have foldl (l : List CircuitNo) : ∀ s, Keeps s (l.foldl f s) := by
    induction l with
    | nil => exact Keeps.refl
    | cons d l ih => exact fun s => (hf s d).trans (ih _)
  exact foldl _ s

theorem keeps_leaveUp (s : State) (cause : Octet) (follows : LinkState) : Keeps s (s.leaveUp cause follows) := by
  have hmoved := keeps_forEachCircuit (keeps_leaveRecord cause) s
  unfold State.leaveUp
  generalize s.forEachCircuit (State.leaveRecord cause) = u at hmoved
  have hloose : Steady u { u with loose := [] } := steady_of_eq rfl rfl rfl
  exact hmoved.trans (hloose.trans (steady_raise ..)).keeps

theorem keeps_linkLost (s : State) : Keeps s s.linkLost := by
  have habort := steady_abortTransmission s
  unfold State.linkLost
  split
  · exact Keeps.refl s
  · exact ((habort.trans (steady_onLink ..)).trans (steady_raise ..)).keeps
  · exact (habort.keeps.trans (keeps_leaveUp ..)).trans (steady_onLink ..).keeps
  · exact (habort.trans (steady_onLink ..)).keeps

theorem keeps_reachUp (s : State) (offered : Nat) (identity start : Word) :
    Keeps s (s.reachUp offered identity start) :=
  ((steady_onLink ..).keeps.trans (keeps_forEachCircuit (keeps_wakeRecord _) _)).trans (steady_raise ..).keeps

theorem keeps_peerRestart (s : State) (offered : Nat) (identity start : Word) :
    Keeps s (s.peerRestart offered identity start) := by
  have hfirst := keeps_forEachCircuit keeps_restartRecord s
  unfold State.peerRestart
  generalize s.forEachCircuit State.restartRecord = u at hfirst
  dsimp only
  generalize hv : State.onLink { u with loose := [] } _ = v
  have hlink : Steady u v := hv ▸ steady_of_eq rfl rfl rfl
  have hsecond := keeps_forEachCircuit (keeps_reagreeRecord (s.agreedWith offered)) v
  generalize v.forEachCircuit (State.reagreeRecord (s.agreedWith offered)) = w at hsecond
  refine ((hfirst.trans hlink.keeps).trans hsecond).trans ?_
  exact (((steady_onLink ..).trans (steady_raise ..)).trans (steady_raise ..)).keeps

/-! ### The Send Engine at an OPEN circuit (R34 to R46) -/

theorem keeps_pollExhausted (hs : (s.circuit c).state = .opened) : Keeps s (s.pollExhausted c) := by
  unfold State.pollExhausted
  split
  · exact keeps_enterRewinding hs ..
  · exact keeps_enterClosing (.inl hs) ..

theorem keeps_giveUp (hs : (s.circuit c).state = .opened) (a : ActiveBlock) : Keeps s (s.giveUp c a) := by
  have hfail := steady_failActive s c a
  have ho : ((s.failActive c a).circuit c).state = .opened := (hfail.state c).trans hs
  have hbegin : Steady s (s.beginAbandon c) := (steady_onSend ..).trans (steady_setTransfer ..)
  unfold State.giveUp
  split
  · exact hfail.keeps.trans (keeps_enterRewinding ho ..)
  · exact hfail.keeps.trans (keeps_enterClosing (.inl ho) ..)
  · exact hbegin.keeps
  · exact hbegin.keeps

theorem keeps_missingAnswer (hs : (s.circuit c).state = .opened) (a : ActiveBlock) (map : SegSet) :
    Keeps s (s.missingAnswer c a map) := by
  unfold State.missingAnswer
  split
  · split
    · exact (steady_onSend ..).keeps
    · exact keeps_giveUp hs a
  · exact keeps_protocolError hs

theorem keeps_pollAnswer (hs : (s.circuit c).state = .opened) (a : ActiveBlock) (outcome : StatusOutcome)
    (ready : Bool) : Keeps s (s.pollAnswer c a outcome ready) := by
  have htake := steady_takeAnswer s c
  have ho : ((s.takeAnswer c).circuit c).state = .opened := (htake.state c).trans hs
  cases outcome with
  | missing map => exact htake.keeps.trans (keeps_missingAnswer ho ..)
  | complete => exact ((htake.trans (steady_raise ..)).trans (steady_advance ..)).keeps
  | abandoned => exact htake.keeps.trans (keeps_protocolError ho)

theorem keeps_abandonAnswer (s : State) (c : CircuitNo) (a : ActiveBlock) (outcome : StatusOutcome) (ready : Bool) :
    Keeps s (s.abandonAnswer c a outcome ready) := by
  cases outcome with
  | missing _ => exact Keeps.refl s
  | complete => exact (((steady_takeAnswer ..).trans (steady_raise ..)).trans (steady_advance ..)).keeps
  | abandoned => exact (((steady_takeAnswer ..).trans (steady_raise ..)).trans (steady_advance ..)).keeps

theorem keeps_statusAt (hs : (s.circuit c).state = .opened) (number : BlockNumber) (outcome : StatusOutcome)
    (ready : Bool) : Keeps s (State.statusAt number outcome ready c s) := by
  unfold State.statusAt
  split
  · split
    · exact keeps_pollAnswer hs ..
    · exact Keeps.refl s
  · split
    · exact keeps_abandonAnswer ..
    · exact Keeps.refl s
  · split
    · exact Keeps.refl s
    all_goals
      split
      · exact (steady_readyInHeld ..).keeps
      · exact Keeps.refl s
  · exact Keeps.refl s

/-! ### The Receive Engine at an OPEN circuit (R56 to R64) -/

theorem keeps_segAt (hs : (s.circuit c).state = .opened) (number : BlockNumber) (i : Nat) (payload : List Octet) :
    Keeps s (State.segAt number i payload c s) := by
  unfold State.segAt
  split
  · exact keeps_protocolError hs
  · split
    · exact Keeps.refl s
    · exact keeps_protocolError hs
    · split
      · exact (steady_segCurrent ..).keeps
      · exact keeps_protocolError hs

theorem keeps_blockEndAt (hs : (s.circuit c).state = .opened) (number : BlockNumber) (n : Nat) :
    Keeps s (State.blockEndAt number n c s) := by
  unfold State.blockEndAt
  split
  · exact keeps_protocolError hs
  · split
    · exact keeps_protocolError hs
    · exact (steady_setAnswer ..).keeps
    · split
      · split
        · exact (steady_complete ..).keeps
        · exact ((steady_onRecv ..).trans (steady_setAnswer ..)).keeps
      · exact keeps_protocolError hs

theorem keeps_blockAbandonAt (hs : (s.circuit c).state = .opened) (number : BlockNumber) :
    Keeps s (State.blockAbandonAt number c s) := by
  unfold State.blockAbandonAt
  split
  · exact keeps_protocolError hs
  · exact (steady_setAnswer ..).keeps
  · exact (((steady_dropAssembly ..).trans (steady_onRecv ..)).trans (steady_setAnswer ..)).keeps

/-! ### Expiries (R14, R97, R158) -/

theorem keeps_expire (s : State) (c : CircuitNo) (purpose : TimerPurpose) {owner : State → State}
    (ho : ∀ u, Keeps u (owner u)) : Keeps s (s.expire c purpose owner) := by
  unfold State.expire
  split
  · exact (steady_stopTimer s c).keeps.trans (ho _)
  · exact Keeps.refl s

theorem keeps_openExpired (c : CircuitNo) (s : State) : Keeps s (State.openExpired c s) := by
  unfold State.openExpired
  split
  · next hs => exact keeps_enterClosed (by simp [hs]) ..
  · exact Keeps.refl s

theorem keeps_offerExpired (c : CircuitNo) (s : State) : Keeps s (State.offerExpired c s) := by
  unfold State.offerExpired
  split
  · next hs =>
    have hsteady := (steady_requestLoose s ((s.circuit c).offerRefusal Cause.noAnswer 0)).trans
      (steady_raise _ ((s.circuit c).offerExpiredEvent c))
    exact hsteady.keeps.trans (keeps_endRecord (by rw [hsteady.state c, hs]; simp))
  · exact Keeps.refl s

theorem keeps_pollAgain (hs : (s.circuit c).state = .opened) (k : TransferKind) : Keeps s (s.pollAgain c k) := by
  unfold State.pollAgain
  split
  · exact ((steady_onSend ..).trans (steady_setTransfer ..)).keeps
  · exact keeps_pollExhausted hs

theorem keeps_statusExpired (c : CircuitNo) (s : State) : Keeps s (State.statusExpired c s) := by
  unfold State.statusExpired
  split
  · next hs _ => exact keeps_pollAgain hs _
  · next hs _ => exact keeps_pollAgain hs _
  · exact Keeps.refl s

theorem keeps_probeExpired (c : CircuitNo) (s : State) : Keeps s (State.probeExpired c s) := by
  unfold State.probeExpired
  split
  · next hs _ => exact keeps_pollAgain hs _
  · exact Keeps.refl s

theorem steady_retry (s : State) (c : CircuitNo) (k : ProtocolKind) (purpose : TimerPurpose) (ms : Nat) :
    Steady s (s.retry c k purpose ms) :=
  ((steady_setProtocol s c (some k)).trans (steady_onCircuit rfl)).trans (steady_startTimer ..)

theorem keeps_closeExpired (c : CircuitNo) (s : State) : Keeps s (State.closeExpired c s) := by
  unfold State.closeExpired
  split
  · next hs =>
    split
    · exact (steady_retry ..).keeps
    · exact keeps_finishClosing hs ..
  · exact Keeps.refl s

theorem keeps_rewindExpired (c : CircuitNo) (s : State) : Keeps s (State.rewindExpired c s) := by
  unfold State.rewindExpired
  split
  · next hs =>
    split
    · exact (steady_retry ..).keeps
    · exact keeps_enterClosing (.inr hs) ..
  · exact Keeps.refl s

theorem steady_expireLink (s : State) (purpose : LinkPurpose) {owner : State → State}
    (ho : ∀ u, Steady u (owner u)) : Steady s (s.expireLink purpose owner) := by
  unfold State.expireLink
  split
  · exact (steady_onLink s _).trans (ho _)
  · exact Steady.refl s

theorem steady_startExpired (s : State) : Steady s s.startExpired := by
  unfold State.startExpired
  split
  · exact steady_of_eq rfl rfl rfl
  · exact Steady.refl s

theorem steady_stopExpired (s : State) : Steady s s.stopExpired := by
  unfold State.stopExpired
  split
  · exact steady_onLink ..
  · exact Steady.refl s

/-- A label entry that was not bound is set free (R97). -/
theorem keeps_restExpired (s : State) (l : Label) : Keeps s (s.restExpired l) := by
  unfold State.restExpired
  split
  · next n hl =>
    refine ⟨fun h => h.relabelled (fun m d fixed => ?_) fun d => ?_, fun d m => ?_, setLabel_listen ..⟩
    · unfold State.setLabel State.label
      split
      · rfl
      · rw [Vector.getElem_set]
        split
        · next hm =>
          have : s.labels[(labelIndex m).val] = .resting n := by
            rw [← hl]
            unfold State.label
            simp only [hm]
          simp [this]
        · rfl
    · rw [circuit_of_circuits (setLabel_circuits ..)]; exact .refl _
    · rw [circuit_of_circuits (setLabel_circuits ..)]; exact id
  · exact Keeps.refl s
  · exact Keeps.refl s

/-! ### One millisecond (R14, R97) -/

theorem aged_eq_bound_iff (e : LabelEntry) (d : CircuitNo) (fixed : Bool) :
    e.aged = .bound d fixed ↔ e = .bound d fixed := by
  unfold LabelEntry.aged
  split
  · split <;> simp
  · rfl
  · rfl

theorem keeps_age (s : State) : Keeps s s.age := by
  have hface : ∀ d, (s.age.circuit d).face = (s.circuit d).face := fun d => by rw [age_circuit]; rfl
  refine ⟨fun h => h.relabelled (fun l d fixed => ?_) fun d => sameUse_of_face (hface d),
    fun d _ => claims_of_face (hface d), rfl⟩
  rw [← aged_eq_bound_iff (s.label l)]
  simp [State.age, State.label]

theorem keeps_expireDue (s : State) (c : CircuitNo) : Keeps s (s.expireDue c) := by
  unfold State.expireDue
  split
  · next purpose _ =>
    cases purpose with
    | openT => exact keeps_expire _ _ _ (keeps_openExpired c)
    | offer => exact keeps_expire _ _ _ (keeps_offerExpired c)
    | status => exact keeps_expire _ _ _ (keeps_statusExpired c)
    | probe => exact keeps_expire _ _ _ (keeps_probeExpired c)
    | close => exact keeps_expire _ _ _ (keeps_closeExpired c)
    | rewind => exact keeps_expire _ _ _ (keeps_rewindExpired c)
  · exact Keeps.refl s

theorem steady_expireLinkDue (s : State) : Steady s s.expireLinkDue := by
  unfold State.expireLinkDue
  split
  · exact steady_expireLink _ _ steady_startExpired
  · exact steady_expireLink _ _ steady_stopExpired
  · exact Steady.refl s

theorem keeps_tick (s : State) : Keeps s s.tick := by
  unfold State.tick
  split
  · exact Keeps.refl s
  · exact ((keeps_age s).trans (keeps_forEachCircuit keeps_expireDue _)).trans (steady_expireLinkDue _).keeps

end

end Sys2Proof.Machine

/-! PROOFS. The takings of the host commands under the correspondence of records and labels and the claims to peer
labels, with INITIALISE (R199), FIX (R172) and the two commands that write the listen table (R113, R114). -/

namespace Sys2Proof.Machine

/-! ### Every row's account -/

/-- No record claims the peer label l. -/
def Vacant (s : State) (l : Label) : Prop := ∀ c, ¬ (s.circuit c).claims l

/-- A change that keeps the three laws of the tables of labels, peer labels and listened services, the second of a
lawful state. -/
structure Preserves (s t : State) : Prop where
  labels : LabelsLaw s → LabelsLaw t
  peers  : Lawful s → PeersLaw s → PeersLaw t
  listen : ListenLaw s → ListenLaw t

section
variable {s t u : State} {c : CircuitNo} {l : Label}

/-- A claim to a peer label that nobody claims keeps the claims distinct (section 5.6). -/
theorem Adds.peersLaw (h : Adds l s t) (hp : PeersLaw s) (hv : Vacant s l) : PeersLaw t := by
  obtain ⟨c, hc⟩ := h.claims
  intro d e m hd he
  rcases hc d m hd with hd | ⟨rfl, rfl⟩ <;> rcases hc e m he with he | ⟨rfl, hm⟩
  · exact hp d e m hd he
  · exact absurd (hm ▸ hd) (hv d)
  · exact absurd he (hv e)
  · rfl

theorem Keeps.peersLaw (h : Keeps s t) (hp : PeersLaw s) : PeersLaw t :=
  fun d e m hd he => hp d e m (h.claims d m hd) (h.claims e m he)

theorem listenLaw_of_eq (h : t.listen = s.listen) (hs : ListenLaw s) : ListenLaw t := by
  unfold ListenLaw at *
  rwa [h]

theorem Keeps.preserves (h : Keeps s t) : Preserves s t :=
  ⟨h.labels, fun _ => h.peersLaw, listenLaw_of_eq h.listen⟩

theorem preserves_of_eq (hc : t.circuits = s.circuits) (hl : t.labels = s.labels) (hn : t.listen = s.listen) :
    Preserves s t := (keeps_of_eq hc hl hn).preserves

/-- What a change does to a state, it does to one with the same records, labels, listen table and link state. -/
theorem preserves_from (hc : u.circuits = s.circuits) (hl : u.labels = s.labels) (hn : u.listen = s.listen)
    (hk : u.link.state = s.link.state) (h : Preserves u t) : Preserves s t where
  labels := h.labels ∘ (keeps_of_eq hc hl hn).labels
  peers hs hp := h.peers (hs.same hc hk) ((keeps_of_eq hc hl hn).peersLaw hp)
  listen := h.listen ∘ listenLaw_of_eq hn

/-- A change that keeps the laws, and then one that adds a claim to a label nobody claims by then. -/
theorem preserves_of_adds (hk : Keeps s u) (ha : Adds l u t) (hv : Lawful s → PeersLaw s → Vacant u l) :
    Preserves s t where
  labels := ha.labels ∘ hk.labels
  peers hs hp := ha.peersLaw (hk.peersLaw hp) (hv hs hp)
  listen := listenLaw_of_eq (ha.listen.trans hk.listen)

/-! ### Takings (R196) -/

theorem keeps_finish (s : State) (code : ResultCode) (values : List Nat) : Keeps s (s.finish code values) :=
  (steady_finish s code values).keeps

theorem keeps_succeed (s : State) (values : List Nat) : Keeps s (s.succeed values) := keeps_finish ..

theorem keeps_reject (s : State) (code : ResultCode) : Keeps s (s.reject code) := keeps_finish ..

theorem Keeps.succeed (h : Keeps s t) (values : List Nat) : Keeps s (t.succeed values) := h.trans (keeps_succeed ..)

theorem Keeps.countFree (h : Keeps s t) (b : Bool) : Keeps s (t.countFree b) := h.trans (steady_countFree ..).keeps

theorem keeps_taking (command : Instr) {body : State → State} (hb : Keeps s (body s)) :
    Keeps s (s.taking command body) := by
  unfold State.taking
  split
  · exact hb
  · exact Keeps.refl s

theorem preserves_taking (command : Instr) {body : State → State} (hb : Preserves s (body s)) :
    Preserves s (s.taking command body) := by
  unfold State.taking
  split
  · exact hb
  · exact (Keeps.refl s).preserves

/-- A command acts on a circuit in use, or is refused (R2). -/
theorem keeps_withCircuit (n : Nat) {body : CircuitNo → State}
    (hb : ∀ c, (s.circuit c).state ≠ .free → Keeps s (body c)) : Keeps s (s.withCircuit n body) := by
  unfold State.withCircuit
  split
  · exact keeps_reject ..
  · next c hc =>
    unfold State.namedCircuit at hc
    split at hc
    · split at hc
      · cases hc
      · next hf => cases hc; exact hb _ hf
    · cases hc

/-! ### The commands of the Link Supervisor (R155, R162, R167, R174) -/

theorem keeps_takeSetLink (s : State) : Keeps s s.takeSetLink := by
  unfold State.takeSetLink
  split
  · exact keeps_reject ..
  · split
    · exact keeps_reject ..
    · split
      · exact keeps_reject ..
      · exact (steady_onLink ..).keeps.succeed _

theorem keeps_takeReadLink (s : State) : Keeps s s.takeReadLink := by
  unfold State.takeReadLink
  split
  · exact (keeps_of_eq (s := s) (t := { s with linkStale := false }) rfl rfl rfl).succeed _
  iterate 3 exact keeps_succeed ..
  exact keeps_reject ..

theorem keeps_takeStartLink (s : State) : Keeps s s.takeStartLink := by
  unfold State.takeStartLink
  split
  · exact keeps_reject ..
  · split
    · exact keeps_reject ..
    · exact (steady_onLink ..).keeps.succeed _

theorem keeps_takeStopLink (s : State) : Keeps s s.takeStopLink := by
  unfold State.takeStopLink
  split
  · exact keeps_reject ..
  · exact (steady_onLink ..).keeps.succeed _
  · refine Keeps.succeed ?_ _
    unfold State.stopFromUp State.enterStopping
    exact (keeps_leaveUp ..).trans (steady_onLink ..).keeps
  · exact keeps_reject ..

/-! ### The commands of the Circuit Controller (R18 to R21, R115 to R142, R173) -/

/-- An OPENING record claims no peer label: it has none yet (R4, R115). -/
theorem keeps_takeOpen (s : State) : Keeps s s.takeOpen := by
  unfold State.takeOpen
  split
  · exact keeps_reject ..
  · split
    · exact keeps_reject ..
    · split
      · exact keeps_reject ..
      · unfold State.openCircuit
        split
        · exact keeps_reject ..
        · split
          · exact keeps_reject ..
          · split
            · exact keeps_reject ..
            · exact keeps_reject ..
            · next hc hl =>
              refine ((creates_createDialled hc hl (by simp [openingRecord]) rfl).keeps ?_).succeed _
              unfold State.createDialled
              rw [circuit_setCircuit_self]
              rfl

theorem keeps_acceptOffer (hs : (s.circuit c).state = .offered) (limits : Limits) (agreed : Nat) :
    Keeps s (s.acceptOffer c limits agreed) :=
  (keeps_reopened (by rw [hs]; rfl) rfl).trans (steady_startDecision ..).keeps

theorem keeps_refuseOffer (hs : (s.circuit c).state ≠ .free) (diagnostic : Octet) :
    Keeps s (s.refuseOffer c diagnostic) := by
  have hsteady := steady_requestLoose s ((s.circuit c).offerRefusal Cause.refused diagnostic)
  exact hsteady.keeps.trans (keeps_endRecord (by rw [hsteady.state c]; exact hs))

theorem keeps_takeAnswerCommand (s : State) : Keeps s s.takeAnswerCommand := by
  refine keeps_withCircuit _ fun c hc => ?_
  split
  · exact keeps_reject ..
  · next hs =>
    split
    · split
      · exact keeps_reject ..
      · split
        · exact keeps_reject ..
        · exact (keeps_acceptOffer (Classical.byContradiction hs) ..).succeed _
    · exact ((keeps_refuseOffer hc _).countFree _).succeed _
    · exact keeps_reject ..

theorem keeps_takeClose (s : State) : Keeps s s.takeClose := by
  refine keeps_withCircuit _ fun c hc => ?_
  unfold State.closeCircuit
  split
  · exact ((keeps_enterClosed hc ..).countFree _).succeed _
  · next hs _ => exact ((keeps_enterClosing (.inl hs) ..).countFree _).succeed _
  · next hs _ => exact ((keeps_enterClosing (.inr hs) ..).countFree _).succeed _
  · exact keeps_reject ..

theorem keeps_takeRewind (s : State) : Keeps s s.takeRewind := by
  refine keeps_withCircuit _ fun c _ => ?_
  split
  · next hs => exact (keeps_enterRewinding hs ..).succeed _
  · exact keeps_reject ..

theorem keeps_takeRetire (s : State) : Keeps s s.takeRetire := by
  refine keeps_withCircuit _ fun c hc => ?_
  have hsteady := steady_foldl_free s (s.circuit c).recv.delivered
  split
  · exact (hsteady.keeps.trans (keeps_endRecord (by rw [hsteady.state c]; exact hc))).succeed _
  · exact keeps_reject ..

theorem keeps_takeUnfix (s : State) : Keeps s s.takeUnfix := by
  refine keeps_withCircuit _ fun c hc => ?_
  split
  · exact (keeps_toClosed hc ..).succeed _
  · exact keeps_reject ..

theorem keeps_takeReadCircuit (s : State) : Keeps s s.takeReadCircuit := by
  unfold State.takeReadCircuit
  split
  · split
    · exact keeps_reject ..
    · split
      · exact Keeps.succeed (steady_onCircuit rfl).keeps _
      · exact keeps_succeed ..
  · exact keeps_reject ..

theorem offerReady_face (r : CircuitRecord) : r.offerReady.face = r.face := by
  unfold CircuitRecord.offerReady
  split <;> rfl

theorem steady_setLimits (s : State) (c : CircuitNo) (limits : Limits) :
    Steady s (s.onCircuit c fun r => r.setLimits limits) := steady_onCircuit (offerReady_face _)

theorem keeps_takeSetCircuit (s : State) : Keeps s s.takeSetCircuit := by
  refine keeps_withCircuit _ fun c _ => ?_
  split
  · exact keeps_reject ..
  · split
    · exact keeps_reject ..
    · exact (steady_setLimits s c _).keeps.succeed _

/-! ### The commands about blocks and labels (R26, R70, R82 to R93, R109) -/

theorem keeps_takeAlloc (s : State) : Keeps s s.takeAlloc := by
  unfold State.takeAlloc
  dsimp only
  split
  · exact keeps_reject ..
  · split
    · exact keeps_reject ..
    · split
      · exact keeps_reject ..
      · exact (steady_setDescriptor ..).keeps.succeed _

theorem keeps_takeFree (s : State) : Keeps s s.takeFree := by
  unfold State.takeFree
  split
  · exact keeps_reject ..
  · exact (steady_freeDescriptor ..).keeps.succeed _

theorem steady_enqueue (s : State) (c : CircuitNo) (d : DescNo) (length : Nat) (tag : Word) :
    Steady s ((s.enqueue c d length tag).startIfIdle c) := by
  have hqueued : Steady s (s.enqueue c d length tag) := (steady_setDescriptor ..).trans (steady_onSend ..)
  unfold State.startIfIdle
  split
  · exact hqueued.trans (steady_startDecision ..)
  · exact hqueued

theorem keeps_takeSubmit (s : State) : Keeps s s.takeSubmit := by
  refine keeps_withCircuit _ fun c _ => ?_
  split
  · exact keeps_reject ..
  · unfold State.submitTo
    dsimp only
    iterate 4
      split
      · exact keeps_reject ..
    exact ((steady_enqueue ..).keeps.countFree _).succeed _

theorem keeps_takeTake (s : State) : Keeps s s.takeTake := by
  refine keeps_withCircuit _ fun c _ => ?_
  split
  · exact keeps_reject ..
  · split
    · exact keeps_reject ..
    · exact Keeps.succeed (((steady_setDescriptor ..).trans (steady_onRecv ..)).trans
        (steady_onCircuit (offerReady_face _))).keeps _

theorem keeps_takeReadDescriptor (s : State) : Keeps s s.takeReadDescriptor := by
  unfold State.takeReadDescriptor
  split
  · exact keeps_reject ..
  · split
    · exact keeps_reject ..
    · split <;> exact keeps_succeed ..

theorem keeps_takeReadLabel (s : State) : Keeps s s.takeReadLabel := by
  unfold State.takeReadLabel
  split
  · exact keeps_reject ..
  · split <;> exact keeps_succeed ..

theorem keeps_takeReadListen (s : State) : Keeps s s.takeReadListen := by
  unfold State.takeReadListen
  split
  · exact keeps_succeed ..
  · exact keeps_reject ..

/-! ### INITIALISE (R23, R111, R199) -/

/-- A fixed definition is FIXED, in a state that claims its peer label (R23). -/
theorem definition_claims {r : CircuitRecord} (h : r.isDefinition = true) :
    r.kind = some .fixed ∧ r.state.mayClaim = true := by
  unfold CircuitRecord.isDefinition at h
  cases hs : r.state <;> simp_all [CircuitState.mayClaim, CircuitState.holdsPeerLabel]

theorem initialised_of_definition {r : CircuitRecord} (h : r.isDefinition = true) :
    r.initialised.face = { r.face with state := .dormant } := by
  unfold CircuitRecord.initialised
  rw [if_pos h]
  rfl

theorem initialised_of_not {r : CircuitRecord} (h : r.isDefinition ≠ true) : r.initialised.state = .free := by
  unfold CircuitRecord.initialised
  rw [if_neg h]
  rfl

theorem initialised_state_iff (r : CircuitRecord) :
    (r.initialised.state = .dormant ↔ r.isDefinition = true) ∧
      (r.initialised.state ≠ .free ↔ r.isDefinition = true) := by
  by_cases h : r.isDefinition = true
  · have hd : r.initialised.state = .dormant := congrArg RecordFace.state (initialised_of_definition h)
    simp [hd, h]
  · simp [initialised_of_not h, h]

/-- INITIALISE keeps the bound entries of the records it leaves DORMANT (R111). -/
theorem initialised_eq_bound_iff (circuits : Vector CircuitRecord 64) (e : LabelEntry) (c : CircuitNo) (fixed : Bool) :
    e.initialised circuits = .bound c fixed ↔
      e = .bound c true ∧ fixed = true ∧ circuits[c.val].state = .dormant := by
  unfold LabelEntry.initialised
  split
  · next d =>
    split
    · next hd =>
      simp only [LabelEntry.bound.injEq, and_true]
      constructor
      · rintro ⟨rfl, rfl⟩; exact ⟨rfl, rfl, hd⟩
      · rintro ⟨rfl, rfl, -⟩; exact ⟨rfl, rfl⟩
    · next hd =>
      simp only [reduceCtorEq, LabelEntry.bound.injEq, and_true, false_iff]
      rintro ⟨rfl, -, hk⟩
      exact hd hk
  all_goals simp

theorem takeInitialise_circuit (s : State) (c : CircuitNo) :
    s.takeInitialise.circuit c = (s.circuit c).initialised := by
  have hc : s.abortTransmission.circuits = s.circuits := by
    unfold State.abortTransmission State.endPin
    repeat' split
    all_goals rfl
  show (s.abortTransmission.circuits.map CircuitRecord.initialised)[c.val] = _
  rw [hc, Vector.getElem_map]
  rfl

/-- A label is bound after INITIALISE where it was bound as fixed to a fixed definition (R111). -/
theorem takeInitialise_bound_iff (s : State) (l : Label) (c : CircuitNo) (fixed : Bool) :
    s.takeInitialise.label l = .bound c fixed ↔
      s.label l = .bound c true ∧ fixed = true ∧ (s.circuit c).isDefinition = true := by
  have hl : s.takeInitialise.label l = (s.abortTransmission.label l).initialised s.takeInitialise.circuits :=
    Vector.getElem_map ..
  rw [hl, initialised_eq_bound_iff, label_of_labels (steady_abortTransmission s).labels]
  show _ ∧ _ ∧ (s.takeInitialise.circuit c).state = .dormant ↔ _
  rw [takeInitialise_circuit, (initialised_state_iff _).1]

theorem keeps_takeInitialise (s : State) : Keeps s s.takeInitialise where
  labels h := by
    constructor
    · intro c hc
      rw [takeInitialise_circuit] at hc ⊢
      have hd := (initialised_state_iff _).2.1 hc
      obtain ⟨hk, hm⟩ := definition_claims hd
      obtain ⟨hn, hb⟩ := h.record c (ne_free_of_mayClaim hm)
      have hlocal : (s.circuit c).initialised.localLabel = (s.circuit c).localLabel :=
        congrArg RecordFace.localLabel (initialised_of_definition hd)
      have hkind : (s.circuit c).initialised.kind = (s.circuit c).kind :=
        congrArg RecordFace.kind (initialised_of_definition hd)
      rw [hlocal, hkind]
      refine ⟨hn, (takeInitialise_bound_iff ..).2 ⟨?_, by simp [hk], hd⟩⟩
      simpa [hk] using hb
    · intro l c fixed hn hb
      obtain ⟨hb, -, hd⟩ := (takeInitialise_bound_iff ..).1 hb
      rw [takeInitialise_circuit]
      exact ⟨(initialised_state_iff _).2.2 hd,
        (congrArg RecordFace.localLabel (initialised_of_definition hd)).trans (h.label l c true hn hb).2⟩
  claims c l hc := by
    rw [takeInitialise_circuit, claims_iff] at hc
    obtain ⟨hm, hp⟩ := hc
    have hd := (initialised_state_iff _).2.1 (ne_free_of_mayClaim hm)
    refine (claims_iff ..).2 ⟨(definition_claims hd).2, ?_⟩
    rw [← hp]
    exact (congrArg RecordFace.peerLabel (initialised_of_definition hd)).symm
  listen := (steady_abortTransmission s).listen

/-! ### FIX (R172) -/

theorem dormant_of_mayClaim {x : CircuitState} (hm : x.mayClaim = true) (hl : x.live = false) : x = .dormant := by
  cases x <;> revert hm hl <;> decide

/-- In a lawful state with the link not in UP, DORMANT fixed records alone claim a peer label (R154). -/
theorem vacant_of_no_dormant (h : Lawful s) (hd : s.link.state ≠ .up) (hn : s.dormantHolder l = false) :
    Vacant s l := by
  intro c hc
  obtain ⟨hm, hp⟩ := (claims_iff ..).1 hc
  have hs := dormant_of_mayClaim hm ((h c).2.1 hd)
  have := List.any_eq_false.1 hn (s.circuit c) (Vector.mem_toList_iff.2 (Vector.getElem_mem _))
  simp [(h c).1.dormant hs, hs, hp] at this

theorem fixLabel_spec {value : Nat} (h : s.fixLabel value = some l) : l ≠ 0 ∧ s.label l = .free := by
  unfold State.fixLabel at h
  obtain ⟨m, hm, h⟩ := Option.bind_eq_some_iff.1 h
  split at h
  · next hf =>
    cases h
    refine ⟨?_, hf⟩
    unfold labelOf at hm
    split at hm
    · cases hm
    · cases hm
      intro hz
      have := congrArg BitVec.toNat hz
      simp at this
      omega
  · cases h

/-- A fixed record put in the FREE slot c, its label bound to it (R172). -/
theorem creates_fixed {value : Nat} (hc : s.lowestFreeCircuit = some c) (hl : s.fixLabel value = some l) (peer : Label)
    (service : Word) (limits : Limits) (maximum : Nat) (stale : Bool) :
    Creates c l s ((s.setLabel l (.bound c true)).setCircuit c (fixedRecord l peer service limits maximum stale)) := by
  refine ⟨lowestFreeCircuit_state hc, fixLabel_spec hl, fun d hd => ?_, ?_, ?_, setLabel_listen ..⟩
  · rw [circuit_setCircuit_ne _ _ hd, circuit_of_circuits (setLabel_circuits ..)]
  · rw [circuit_setCircuit_self]; simp [fixedRecord]
  · rw [circuit_setCircuit_self]; rfl

/-- FIX binds a peer label that no DORMANT record holds, while the link is DOWN (R108, R172). -/
theorem preserves_fixCircuit (s : State) (peer : Label) (service : Word) (maximum : Nat) (limits : Limits) :
    Preserves s (s.fixCircuit peer service maximum limits) := by
  unfold State.fixCircuit
  split
  · exact (keeps_reject ..).preserves
  · next hdown =>
    split
    · exact (keeps_reject ..).preserves
    · next hl =>
      split
      · exact (keeps_reject ..).preserves
      · next hn =>
        split
        · exact (keeps_reject ..).preserves
        · next c hc =>
          have hnew := (creates_fixed hc hl peer service limits maximum (s.circuit c).stale).adds
            (by rw [circuit_setCircuit_self]; rfl)
          refine preserves_of_adds (Keeps.refl s) (hnew.trans (keeps_succeed ..)) fun h _ =>
            vacant_of_no_dormant h ?_ (by simpa using hn)
          rw [Classical.byContradiction hdown]
          simp

theorem preserves_takeFix (s : State) : Preserves s s.takeFix := by
  unfold State.takeFix
  split
  · split
    · exact (keeps_reject ..).preserves
    · split
      · exact (keeps_reject ..).preserves
      · exact preserves_fixCircuit ..
  · exact (keeps_reject ..).preserves

/-! ### LISTEN and UNLISTEN (R113, R114) -/

/-- A slot of the listen table written changes neither records nor labels. -/
theorem preserves_setListen (k : Fin 16) (e : Option ListenEntry)
    (h : ListenLaw s → ListenLaw (s.setListen k e)) : Preserves s (s.setListen k e) where
  labels hs := hs.relabelled (fun _ _ _ => Iff.rfl) fun _ => .refl _
  peers _ hp := hp
  listen := h

theorem Preserves.succeed (h : Preserves s t) (values : List Nat) : Preserves s (t.succeed values) where
  labels := (keeps_succeed t values).labels ∘ h.labels
  peers hs hp := (keeps_succeed t values).peersLaw (h.peers hs hp)
  listen := h.listen

/-- What the listen table holds after one of its slots is written. -/
theorem setListen_getElem (s : State) (k j : Fin 16) (e : Option ListenEntry) :
    (s.setListen k e).listen[j.val] = if j = k then e else s.listen[j.val] := by
  simp only [State.setListen, Vector.getElem_set, Fin.ext_iff, eq_comm (a := k.val)]

/-- An entry put where every entry for its service already stands keeps the services distinct (R113). -/
theorem listenLaw_setListen_some (h : ListenLaw s) {k : Fin 16} {e : ListenEntry}
    (hk : ∀ (j : Fin 16) (f : ListenEntry), s.listen[j.val] = some f → f.service = e.service → j = k) :
    ListenLaw (s.setListen k (some e)) := by
  intro i j a b hi hj hab
  rw [setListen_getElem] at hi hj
  split at hi <;> split at hj
  · next hik hjk => rw [hik, hjk]
  · next hik _ => cases hi; rw [hik]; exact (hk j b hj hab.symm).symm
  · next _ hjk => cases hj; rw [hjk]; exact hk i a hi hab
  · exact h i j a b hi hj hab

/-- An entry removed keeps the services distinct (R114). -/
theorem listenLaw_setListen_none (h : ListenLaw s) (k : Fin 16) : ListenLaw (s.setListen k none) := by
  intro i j a b hi hj hab
  rw [setListen_getElem] at hi hj
  split at hi
  · cases hi
  · split at hj
    · cases hj
    · exact h i j a b hi hj hab

/-- The slot LISTEN writes is that of the service's entry, where it has one (R113). -/
theorem slot_of_service (h : ListenLaw s) {service : Word} {k : Fin 16}
    (hk : (s.listenSlot service.toNat).or s.emptySlot = some k) (j : Fin 16) (f : ListenEntry)
    (hj : s.listen[j.val] = some f) (hf : f.service = service) : j = k := by
  cases hslot : s.listenSlot service.toNat with
  | none =>
    have := List.find?_eq_none.1 hslot j (List.mem_finRange j)
    exact absurd ((listenTest_iff s service j).2 ⟨f, hj, hf⟩) this
  | some i =>
    rw [hslot, Option.some_or] at hk
    cases hk
    have hfound := List.find?_some hslot
    obtain ⟨e, he, hes⟩ := (listenTest_iff s service k).1 hfound
    exact h j k f e hj he (hf.trans hes.symm)

theorem preserves_takeListen (s : State) : Preserves s s.takeListen := by
  unfold State.takeListen
  split
  · split
    · exact (keeps_reject ..).preserves
    · split
      · exact (keeps_reject ..).preserves
      · split
        · exact (keeps_reject ..).preserves
        · next hk =>
          exact (preserves_setListen _ _ fun h => listenLaw_setListen_some h (slot_of_service h hk)).succeed _
  · exact (keeps_reject ..).preserves

theorem preserves_takeUnlisten (s : State) : Preserves s s.takeUnlisten := by
  unfold State.takeUnlisten
  split
  · exact (keeps_reject ..).preserves
  · exact (preserves_setListen _ _ fun h => listenLaw_setListen_none h _).succeed _

end

end Sys2Proof.Machine

/-! PROOFS. The arrivals, and so every row and every step, under the correspondence of records and labels and the
claims to peer labels: the settling of LabelsAreKept and PeerLabelsAndListenEntriesAreKept. -/

namespace Sys2Proof.Machine

section
variable {s t : State} {c : CircuitNo} {l : Label}

/-! ### Arrivals (R102 to R104, R180) -/

theorem keeps_arrive (s : State) (f : Frame) {owner : State → State} (ho : ∀ u, Keeps u (owner u)) :
    Keeps s (s.arrive f owner) := by
  have hheard : Keeps s { s with receiver := Receiver.opened } := keeps_of_eq rfl rfl rfl
  unfold State.arrive
  split
  · split
    · exact hheard.trans (ho _)
    · exact hheard
  · exact Keeps.refl s

theorem preserves_arrive (s : State) (f : Frame) {owner : State → State} (ho : ∀ u, Preserves u (owner u)) :
    Preserves s (s.arrive f owner) := by
  unfold State.arrive
  split
  · split
    · exact preserves_from (u := { s with receiver := Receiver.opened }) rfl rfl rfl rfl (ho _)
    · exact preserves_of_eq rfl rfl rfl
  · exact (Keeps.refl s).preserves

theorem keeps_dispatch (s : State) (dst : Label) {bound : CircuitNo → State → State} {unbound : State → State}
    (hb : ∀ c, Keeps s (bound c s)) (hu : Keeps s (unbound s)) : Keeps s (s.dispatch dst bound unbound) := by
  unfold State.dispatch
  split
  · split
    · exact hb _
    · exact hu
    · exact hu
  · exact Keeps.refl s

theorem keeps_dispatchOpen (s : State) (dst : Label) {taken : CircuitNo → State → State}
    (ht : ∀ c, (s.circuit c).state = .opened → Keeps s (taken c s)) : Keeps s (s.dispatchOpen dst taken) := by
  refine keeps_dispatch s dst (fun c => ?_) (Keeps.refl s)
  split
  · next hs => exact ht c hs
  · exact Keeps.refl s

/-! ### Peer labels nobody claims (R107, R108) -/

/-- With the link in UP, a peer label that the search does not find is claimed by no record (R107). -/
theorem vacant_of_unheld (h : Lawful s) (hu : s.link.state = .up) (hp : s.peerHolder l = none) : Vacant s l := by
  rintro c ⟨hm | hd, hl⟩
  · have := List.find?_eq_none.1 hp c (List.mem_finRange c)
    simp [hm, hl] at this
  · exact (h c).2.2 hu hd

/-- The one record that claimed a peer label has ended, and nobody claims it any more (R107). -/
theorem vacant_of_ended (h : Lawful s) (hpeers : PeersLaw s) (hp : s.peerHolder l = some c) (cause : Octet) :
    Vacant (s.endCircuit c cause) l := by
  have hfound := List.find?_some hp
  simp only [Bool.and_eq_true, decide_eq_true_eq] at hfound
  obtain ⟨hm, hl⟩ := hfound
  have hf := ne_free_of_holds hm
  intro d hd
  have hdc : d = c := hpeers d c l ((keeps_endCircuit hf cause).claims d l hd) ⟨.inl hm, hl⟩
  rw [hdc, claims_iff, (endCircuit_closed (h c).1 hf cause).2] at hd
  exact absurd hd.1 (by decide)

/-! ### OPEN (R117) -/

/-- An OPEN frame past the peer-label check adds at most its source label's claim (R117 to R120). -/
theorem adds_openListed (s : State) (x : OpenFields) : Adds x.src s (s.openListed x) := by
  have refused (cause : Octet) : Adds x.src s (s.refuseOpen x.src cause) := (steady_requestLoose ..).keeps.adds _
  have created {r : CircuitRecord} {c : CircuitNo} {l : Label} (hc : s.lowestFreeCircuit = some c)
      (hl : s.scanFreeLabel = some l) (hs : r.state ≠ .free) (hk : r.kind = some .dialled)
      (hp : r.peerLabel = some x.src) (e : Event) : Adds x.src s ((s.createDialled c l r).raise e) := by
    refine ((creates_createDialled hc hl hs hk).adds ?_).trans (steady_raise ..).keeps
    unfold State.createDialled
    rw [circuit_setCircuit_self]
    exact hp
  unfold State.openListed
  split
  · exact refused _
  · split
    · exact refused _
    · split
      · next hc hl =>
        split
        · exact created hc hl (by simp [autoRecord]) rfl rfl _
        · exact created hc hl (by simp [offeredRecord]) rfl rfl _
      · exact refused _

theorem preserves_openFrameAt (s : State) (dst : Label) (x : OpenFields) : Preserves s (s.openFrameAt dst x) := by
  unfold State.openFrameAt
  split
  · next hu =>
    unfold State.openAt
    split
    · next hp => exact preserves_of_adds (Keeps.refl s) (adds_openListed s x) fun h _ => vacant_of_unheld h hu.1 hp
    · next c hp =>
      split
      · exact (steady_requestLoose ..).keeps.preserves
      · exact preserves_of_adds (keeps_endCircuit (ne_free_of_holds (peerHolder_holds hp)) _) (adds_openListed _ x)
          fun h hpeers => vacant_of_ended h hpeers hp _
  · exact (Keeps.refl s).preserves

/-! ### ACCEPT (R127, R128) -/

/-- An ACCEPT opens a record, which then claims the frame's source label (R128). -/
theorem adds_openByAccept (hs : (s.circuit c).state = .opening) (src : Label) (agreed : Nat) :
    Adds src s (s.openByAccept c src agreed) := by
  unfold State.openByAccept
  dsimp only
  generalize hv : s.onCircuit c _ = v
  have hrec : v.circuit c = { (s.circuit c).enter .opened with
      peerLabel := some src, maxSegments := some agreed, openRequest := none
      protocol := (s.circuit c).withoutPending .openK, send := { (s.circuit c).send with peerReady := true } } := by
    rw [← hv, circuit_onCircuit_self]
  have hf : EngineFrame c s v := hv ▸ frame_onCircuit ..
  have hopened : Adds src s v := by
    refine ⟨fun h => h.relabelled (fun l _ _ => by rw [label_of_labels hf.labels l]) fun d => ?_,
      ⟨c, fun d m hm => ?_⟩, hf.listen⟩
    · by_cases hd : d = c
      · rw [hd, hrec]
        exact ⟨rfl, rfl, by simp [CircuitRecord.enter, hs]⟩
      · rw [hf.others d hd]; exact .refl _
    · by_cases hd : d = c
      · rw [hd, hrec, claims_iff] at hm
        exact .inr ⟨hd, (Option.some.inj hm.2).symm⟩
      · rw [hf.others d hd] at hm; exact .inl hm
  exact hopened.trans ((steady_raise ..).trans (steady_startDecision ..)).keeps

theorem keeps_refuseAccept (hs : (s.circuit c).state = .opening) (src : Label) : Keeps s (s.refuseAccept c src) := by
  have hsteady := steady_requestLoose s (badAcceptReply src (s.circuit c).localLabel)
  exact hsteady.keeps.trans (keeps_enterClosed (by rw [hsteady.state c, hs]; simp) ..)

theorem preserves_acceptOpening (hs : (s.circuit c).state = .opening) (src : Label) (agreed : Nat) :
    Preserves s (s.acceptOpening c src agreed) := by
  unfold State.acceptOpening
  split
  · split
    · next hp =>
      exact preserves_of_adds (Keeps.refl s) (adds_openByAccept hs src agreed) fun h _ =>
        vacant_of_unheld h (h.up (c := c) (by rw [hs]; rfl)) hp
    · next d hd =>
      split
      · exact (keeps_refuseAccept hs src).preserves
      · have hm := peerHolder_holds hd
        have hne : c ≠ d := by
          rintro rfl
          rw [hs] at hm
          cases hm
        have hs' : ((s.endCircuit d Cause.stale).circuit c).state = .opening := by
          rw [(frame_endCircuit ..).others c hne, hs]
        exact preserves_of_adds (keeps_endCircuit (ne_free_of_holds hm) _) (adds_openByAccept hs' src agreed)
          fun h hpeers => vacant_of_ended h hpeers hd _
  · exact (keeps_refuseAccept hs src).preserves

theorem preserves_acceptAt (s : State) (dst src : Label) (agreed : Octet) :
    Preserves s (s.acceptAt dst src agreed) := by
  have stale : Preserves s (s.requestLoose (staleClose dst src)) := (steady_requestLoose ..).keeps.preserves
  unfold State.acceptAt
  split
  · exact (Keeps.refl s).preserves
  · unfold State.dispatch
    split
    · split
      · dsimp only
        split
        · next hs => exact preserves_acceptOpening hs ..
        · exact stale
      · exact stale
      · exact stale
    · exact (Keeps.refl s).preserves

/-! ### REFUSE, CLOSE, CLOSE-DONE, REWIND and REWIND-DONE (R130, R138, R139, R146 to R148) -/

theorem keeps_refuseAt (s : State) (dst : Label) (cause diagnostic : Octet) :
    Keeps s (s.refuseAt dst cause diagnostic) := by
  refine keeps_dispatch s dst (fun c => ?_) (Keeps.refl s)
  split
  · next hs => exact keeps_enterClosed (by simp [hs]) ..
  · exact Keeps.refl s

theorem keeps_closeDialled (s : State) (c : CircuitNo) (dst src : Label) (cause diagnostic : Octet) :
    Keeps s (s.closeDialled c dst src cause diagnostic) := by
  unfold State.closeDialled
  split
  · next hs => exact keeps_enterClosed (by simp [hs]) ..
  · next hs => exact keeps_enterClosed (by simp [hs]) ..
  · next hs => exact keeps_finishClosing hs ..
  · unfold State.closeRepeated
    split
    · exact (steady_setProtocol ..).keeps
    · exact (steady_requestLoose ..).keeps
  all_goals exact Keeps.refl s

theorem keeps_closeAt (s : State) (dst src : Label) (cause diagnostic : Octet) :
    Keeps s (s.closeAt dst src cause diagnostic) := by
  unfold State.closeAt
  split
  · exact Keeps.refl s
  · refine keeps_dispatch s dst (fun c => ?_) (steady_requestLoose ..).keeps
    split
    · exact Keeps.refl s
    · exact keeps_closeDialled ..

theorem keeps_closeDoneAt (s : State) (dst : Label) : Keeps s (s.closeDoneAt dst) := by
  refine keeps_dispatch s dst (fun c => ?_) (Keeps.refl s)
  split
  · next hs => exact keeps_finishClosing hs ..
  · exact Keeps.refl s

theorem keeps_rewindTaken (s : State) (c : CircuitNo) (cause : Octet) : Keeps s (s.rewindTaken c cause) := by
  unfold State.rewindTaken
  split
  · exact keeps_rewindInOpen ..
  · next hs => exact keeps_finishRewinding hs _
  all_goals exact Keeps.refl s

theorem keeps_rewindDoneTaken (s : State) (c : CircuitNo) : Keeps s (s.rewindDoneTaken c) := by
  unfold State.rewindDoneTaken
  split
  · next hs => exact keeps_finishRewinding hs _
  · exact Keeps.refl s

/-! ### Link frames (R163 to R168) -/

theorem steady_setPendingLink (s : State) (p : Option PendingLink) : Steady s (s.setPendingLink p) := steady_onLink ..

theorem keeps_startTaken (s : State) (maxSegments : Octet) (identity startNumber : Word) :
    Keeps s (s.startTaken maxSegments identity startNumber) := by
  unfold State.startTaken
  split
  · exact (steady_setPendingLink ..).keeps.trans (keeps_reachUp ..)
  · split
    · exact (steady_setPendingLink ..).keeps
    · exact keeps_peerRestart ..
  · exact Keeps.refl s
  · exact Keeps.refl s

theorem keeps_linkStartAt (s : State) (version maxSegments : Octet) (identity startNumber : Word) :
    Keeps s (s.linkStartAt version maxSegments identity startNumber) := by
  unfold State.linkStartAt
  split
  · exact Keeps.refl s
  · split
    · unfold State.loopSeen
      split
      · exact ((steady_onLink ..).trans (steady_raise ..)).keeps
      · exact Keeps.refl s
    · split
      · exact (steady_setPendingLink ..).keeps
      · split
        · exact keeps_startTaken ..
        · exact Keeps.refl s

theorem keeps_linkAgreeAt (s : State) (maxSegments : Octet) (identity startNumber : Word) :
    Keeps s (s.linkAgreeAt maxSegments identity startNumber) := by
  unfold State.linkAgreeAt
  split
  · exact (steady_setPendingLink ..).keeps.trans (keeps_reachUp ..)
  · exact Keeps.refl s

theorem keeps_linkStopAt (s : State) (cause : Octet) : Keeps s (s.linkStopAt cause) := by
  have hnote : Steady s (s.noteStop cause) := steady_onLink ..
  unfold State.linkStopAt
  split
  · exact Keeps.refl s
  · exact hnote.keeps
  · unfold State.enterStopping
    exact (hnote.keeps.trans (keeps_leaveUp ..)).trans (steady_onLink ..).keeps
  · exact hnote.keeps.trans (steady_onLink ..).keeps

/-! ### Every row and every step -/

/-- The laws kept, where an outcome is a state. -/
def PreservesOutcome (s : State) : Host.Outcome State Fault Refusal → Prop
  | .next t => Preserves s t
  | .fault _ => True
  | .refused _ => True

/-- The RESET input leaves the laws of the state after reset (R201). -/
theorem preserves_hardwareReset (hc : t.circuits = State.reset.circuits) (hl : t.labels = State.reset.labels)
    (hn : t.listen = State.reset.listen) : Preserves s t := by
  have h := (steady_of_eq hc hl hn).keeps
  exact ⟨fun _ => h.labels reset_labels, fun _ _ => h.peersLaw reset_peers,
    fun _ => listenLaw_of_eq h.listen reset_listenLaw⟩

/-- Every row of the table keeps the laws of labels, peer labels and listened services. -/
theorem exec_preserves (s : State) (i : Instr) : PreservesOutcome s (exec i s) := by
  cases i with
  | setLink => exact (keeps_taking _ (keeps_takeSetLink s)).preserves
  | readLink => exact (keeps_taking _ (keeps_takeReadLink s)).preserves
  | startLink => exact (keeps_taking _ (keeps_takeStartLink s)).preserves
  | stopLink => exact (keeps_taking _ (keeps_takeStopLink s)).preserves
  | listen => exact preserves_taking _ (preserves_takeListen s)
  | unlisten => exact preserves_taking _ (preserves_takeUnlisten s)
  | readListen => exact (keeps_taking _ (keeps_takeReadListen s)).preserves
  | openCommand => exact (keeps_taking _ (keeps_takeOpen s)).preserves
  | answer => exact (keeps_taking _ (keeps_takeAnswerCommand s)).preserves
  | closeCommand => exact (keeps_taking _ (keeps_takeClose s)).preserves
  | rewindCommand => exact (keeps_taking _ (keeps_takeRewind s)).preserves
  | retire => exact (keeps_taking _ (keeps_takeRetire s)).preserves
  | fix => exact preserves_taking _ (preserves_takeFix s)
  | unfix => exact (keeps_taking _ (keeps_takeUnfix s)).preserves
  | readCircuit => exact (keeps_taking _ (keeps_takeReadCircuit s)).preserves
  | setCircuit => exact (keeps_taking _ (keeps_takeSetCircuit s)).preserves
  | alloc => exact (keeps_taking _ (keeps_takeAlloc s)).preserves
  | freeCommand => exact (keeps_taking _ (keeps_takeFree s)).preserves
  | submit => exact (keeps_taking _ (keeps_takeSubmit s)).preserves
  | take => exact (keeps_taking _ (keeps_takeTake s)).preserves
  | readDescriptor => exact (keeps_taking _ (keeps_takeReadDescriptor s)).preserves
  | readPool =>
    have hlatch : Steady s { s with latch := none } := steady_of_eq rfl rfl rfl
    exact (keeps_taking _ (hlatch.keeps.succeed _)).preserves
  | initialise => exact (keeps_taking _ (keeps_takeInitialise s)).preserves
  | readLabel => exact (keeps_taking _ (keeps_takeReadLabel s)).preserves
  | unknownCommand =>
    show Preserves s (if _ then _ else _)
    split
    · exact (keeps_reject ..).preserves
    · exact (Keeps.refl s).preserves
  | registerWrite address value => exact (steady_writeRegister ..).keeps.preserves
  | portControlWrite value => exact preserves_of_eq rfl rfl rfl
  | eventPop => exact preserves_of_eq rfl rfl rfl
  | packetMemoryRead address => exact (steady_readPacket ..).keeps.preserves
  | packetMemoryWrite address value => exact (steady_writePacket ..).keeps.preserves
  | hardwareReset => exact preserves_hardwareReset rfl rfl rfl
  | startUpEnd =>
    show Preserves s (if _ then _ else _)
    split
    · exact preserves_of_eq rfl rfl rfl
    · exact (Keeps.refl s).preserves
  | lineReadyFall =>
    show Preserves s (if _ then _ else _)
    split
    · have hfall : Steady s { s with lineReady := false, receiver := Receiver.hunting } := steady_of_eq rfl rfl rfl
      exact (hfall.keeps.trans (keeps_linkLost _)).preserves
    · exact (Keeps.refl s).preserves
  | lineReadyRise => exact preserves_of_eq rfl rfl rfl
  | candidateDiscard octets =>
    show Preserves s (if _ then _ else _)
    split
    · exact preserves_of_eq rfl rfl rfl
    · exact (Keeps.refl s).preserves
  | linkStartArrival version maxSegments identity startNumber =>
    exact (keeps_arrive _ _ fun _ => keeps_linkStartAt ..).preserves
  | linkAgreeArrival maxSegments identity startNumber =>
    exact (keeps_arrive _ _ fun _ => keeps_linkAgreeAt ..).preserves
  | linkStopArrival cause => exact (keeps_arrive _ _ fun _ => keeps_linkStopAt ..).preserves
  | openFrameArrival dst src requested service data => exact preserves_arrive _ _ fun _ => preserves_openFrameAt ..
  | acceptArrival dst src agreed => exact preserves_arrive _ _ fun _ => preserves_acceptAt ..
  | refuseArrival dst src cause diagnostic => exact (keeps_arrive _ _ fun _ => keeps_refuseAt ..).preserves
  | closeFrameArrival dst src cause diagnostic => exact (keeps_arrive _ _ fun _ => keeps_closeAt ..).preserves
  | closeDoneArrival dst src => exact (keeps_arrive _ _ fun _ => keeps_closeDoneAt ..).preserves
  | rewindFrameArrival dst cause =>
    exact (keeps_arrive _ _ fun u => keeps_dispatch u dst (fun _ => keeps_rewindTaken ..) (Keeps.refl u)).preserves
  | rewindDoneArrival dst =>
    exact (keeps_arrive _ _ fun u => keeps_dispatch u dst (fun _ => keeps_rewindDoneTaken ..) (Keeps.refl u)).preserves
  | segArrival dst number index payload =>
    exact (keeps_arrive _ _ fun u => keeps_dispatchOpen u dst fun _ hs => keeps_segAt hs ..).preserves
  | blockEndArrival dst number count =>
    exact (keeps_arrive _ _ fun u => keeps_dispatchOpen u dst fun _ hs => keeps_blockEndAt hs ..).preserves
  | blockAbandonArrival dst number =>
    exact (keeps_arrive _ _ fun u => keeps_dispatchOpen u dst fun _ hs => keeps_blockAbandonAt hs _).preserves
  | blockStatusArrival dst number outcome ready =>
    exact (keeps_arrive _ _ fun u => keeps_dispatchOpen u dst fun _ hs => keeps_statusAt hs ..).preserves
  | probeArrival dst =>
    exact (keeps_arrive _ _ fun u => keeps_dispatchOpen u dst fun _ _ => (steady_setAnswer ..).keeps).preserves
  | readyArrival dst ready =>
    exact (keeps_arrive _ _ fun u => keeps_dispatchOpen u dst fun _ _ => (steady_readyAt ..).keeps).preserves
  | openTimerExpiry circuit => exact (keeps_expire _ _ _ (keeps_openExpired circuit)).preserves
  | offerTimerExpiry circuit => exact (keeps_expire _ _ _ (keeps_offerExpired circuit)).preserves
  | statusTimerExpiry circuit => exact (keeps_expire _ _ _ (keeps_statusExpired circuit)).preserves
  | probeTimerExpiry circuit => exact (keeps_expire _ _ _ (keeps_probeExpired circuit)).preserves
  | closeTimerExpiry circuit => exact (keeps_expire _ _ _ (keeps_closeExpired circuit)).preserves
  | rewindTimerExpiry circuit => exact (keeps_expire _ _ _ (keeps_rewindExpired circuit)).preserves
  | startTimerExpiry => exact (steady_expireLink _ _ steady_startExpired).keeps.preserves
  | stopTimerExpiry => exact (steady_expireLink _ _ steady_stopExpired).keeps.preserves
  | restTimeExpiry label => exact (keeps_restExpired ..).preserves
  | transmissionStart => exact (steady_startTransmission s).keeps.preserves
  | transmissionEnd => exact (steady_endTransmission s).keeps.preserves
  | huntDelimiterReceived =>
    show Preserves s (if _ then _ else _)
    split
    · exact preserves_of_eq rfl rfl rfl
    · exact (Keeps.refl s).preserves

/-- Every step keeps the laws of labels, peer labels and listened services. -/
theorem step_preserves (h : step s = .next t) : Preserves s t := by
  unfold step at h
  split at h
  · cases h
    exact (keeps_tick s).preserves
  · next i rest _ =>
    have hexec := exec_preserves { s with pending := rest } i
    rw [h] at hexec
    exact preserves_from (u := { s with pending := rest }) rfl rfl rfl rfl hexec

end

/-- Settles O57: the correspondence of records and labels, kept row by row. -/
theorem labelsAreKept : Obligations.LabelsAreKept := fun _ _ hl ht => (step_preserves ht).labels hl

/-- Settles O60: a row adds at most one claim to a peer label, to a label nobody claims in a lawful state; and LISTEN
writes the one slot that may hold its service. -/
theorem peerLabelsAndListenEntriesAreKept : Obligations.PeerLabelsAndListenEntriesAreKept :=
  ⟨fun s _ hr hl hp ht => (step_preserves ht).peers ((lawful_iff s).2 ⟨hr, hl⟩) hp,
    fun _ _ hl ht => (step_preserves ht).listen hl⟩

end Sys2Proof.Machine

/-! PROOFS. The Label Map's dispatch (R102 to R104, R55): the circuit frames it discards, with nothing changed but the
receiver. -/

namespace Sys2Proof.Machine

/-- What the part does with a frame past the line's checks, kind by kind (R102, R103, R185). -/
def frameOwner : Frame → State → State
  | .linkStart version maxSegments identity startNumber => State.linkStartAt version maxSegments identity startNumber
  | .linkAgree maxSegments identity startNumber => State.linkAgreeAt maxSegments identity startNumber
  | .linkStop cause => State.linkStopAt cause
  | .openFrame dst src requested service data =>
    State.openFrameAt dst { src, terms := { requested := requested.toNat, data }, service }
  | .accept dst src agreed => State.acceptAt dst src agreed
  | .refuse dst _ cause diagnostic => State.refuseAt dst cause diagnostic
  | .close dst src cause diagnostic => State.closeAt dst src cause diagnostic
  | .closeDone dst _ => State.closeDoneAt dst
  | .rewind dst cause => fun s => s.dispatch dst (fun c t => t.rewindTaken c cause) id
  | .rewindDone dst => fun s => s.dispatch dst (fun c t => t.rewindDoneTaken c) id
  | .seg dst number index payload => fun s => s.dispatchOpen dst (State.segAt number index.toNat payload)
  | .blockEnd dst number count => fun s => s.dispatchOpen dst (State.blockEndAt number count.toNat)
  | .blockAbandon dst number => fun s => s.dispatchOpen dst (State.blockAbandonAt number)
  | .blockStatus dst number outcome ready => fun s => s.dispatchOpen dst (State.statusAt number outcome ready)
  | .probe dst => fun s => s.dispatchOpen dst State.probeAt
  | .ready dst ready => fun s => s.dispatchOpen dst (State.readyAt ready)

/-- The row of a frame is its arrival at its owner (R185). -/
theorem exec_frame {row : Instr} {f : Frame} (hf : row.frame = some f) (s : State) :
    exec row s = .next (s.arrive f (frameOwner f)) := by
  cases row <;> cases hf <;> rfl

section
variable {s : State} {dst : Label} {bound : CircuitNo → State → State} {unbound : State → State}

/-- A frame that its owner ignores is discarded, and so is one that is no good frame (R182). -/
theorem arrive_ignored (hs : Hears s) {f : Frame} {owner : State → State} (ho : owner s.heard = s.heard) :
    s.arrive f owner = s.heard := by
  unfold State.arrive
  rw [if_pos hs.lineHeard]
  split
  · exact ho
  · rfl

/-! ### Dispatches that come to nothing (R102 to R104) -/

theorem dispatch_of_not_up (h : s.link.state ≠ .up) : s.dispatch dst bound unbound = s := by
  unfold State.dispatch
  rw [if_neg fun k => h k.1]

theorem dispatch_of_zero (h : dst = 0) : s.dispatch dst bound unbound = s := by
  unfold State.dispatch
  rw [if_neg fun k => k.2 h]

/-- A label that is not bound discards a frame that draws no reply there (R104). -/
theorem dispatch_of_unbound (h : s.label dst = .free ∨ ∃ n, s.label dst = .resting n) :
    s.dispatch dst bound id = s := by
  unfold State.dispatch
  split
  · obtain h | ⟨n, h⟩ := h <;> rw [h] <;> rfl
  · rfl

/-- A circuit that is not OPEN discards a frame of the block transfer (R103). -/
theorem dispatchOpen_of_not_opened {c : CircuitNo} {fixed : Bool} (hl : s.label dst = .bound c fixed)
    (ho : (s.circuit c).state ≠ .opened) {taken : CircuitNo → State → State} : s.dispatchOpen dst taken = s := by
  unfold State.dispatchOpen State.dispatch
  split
  · rw [hl]
    exact if_neg ho
  · rfl

/-! ### Owners that ignore a frame -/

/-- While the link is not UP every circuit frame is ignored (R102). -/
theorem frameOwner_of_not_up (h : s.link.state ≠ .up) {f : Frame} (hc : f.isCircuit = true) :
    frameOwner f s = s := by
  cases f with
  | openFrame => exact if_neg fun k => h k.1
  | accept => exact ite_eq_left_iff.2 fun _ => dispatch_of_not_up h
  | close => exact ite_eq_left_iff.2 fun _ => dispatch_of_not_up h
  | linkStart | linkAgree | linkStop => cases hc
  | refuse | closeDone => exact dispatch_of_not_up h
  | rewind | rewindDone => unfold frameOwner; exact dispatch_of_not_up h
  | seg | blockEnd | blockAbandon | blockStatus | probe | ready => exact dispatch_of_not_up h

/-- An OPEN to a destination label other than 0 is ignored (R102). -/
theorem frameOwner_openFrame (h : dst ≠ 0) (src : Label) (requested : Octet) (service : Word) (data : List Octet) :
    frameOwner (.openFrame dst src requested service data) s = s := if_neg fun k => h k.2.1

/-- Any other circuit frame to destination label 0 is ignored (R102). -/
theorem frameOwner_of_zero {f : Frame} (hc : f.isCircuit = true)
    (hn : ∀ src requested service data, f ≠ .openFrame 0 src requested service data) (h : f.destination = 0) :
    frameOwner f s = s := by
  cases f with
  | openFrame d src requested service data => exact frameOwner_openFrame (fun k => hn _ _ _ _ (by rw [k])) ..
  | accept => exact ite_eq_left_iff.2 fun _ => dispatch_of_zero h
  | close => exact ite_eq_left_iff.2 fun _ => dispatch_of_zero h
  | linkStart | linkAgree | linkStop => cases hc
  | refuse | closeDone => exact dispatch_of_zero h
  | rewind | rewindDone => unfold frameOwner; exact dispatch_of_zero h
  | seg | blockEnd | blockAbandon | blockStatus | probe | ready => exact dispatch_of_zero h

/-- An OPEN, ACCEPT or CLOSE with source label 0 is ignored (R102). -/
theorem frameOwner_of_source_zero {f : Frame} (h : f.askingSource = some 0) : frameOwner f s = s := by
  cases f with
  | openFrame d src requested service data => exact if_neg fun k => k.2.2 (Option.some.inj h)
  | accept d src agreed => exact if_pos (Option.some.inj h)
  | close d src cause diagnostic => exact if_pos (Option.some.inj h)
  | _ => cases h

/-- A frame of the block transfer at a circuit that is not OPEN is ignored (R55, R103). -/
theorem frameOwner_of_not_opened {f : Frame} (ht : f.isTransfer = true) {c : CircuitNo} {fixed : Bool}
    (hl : s.label f.destination = .bound c fixed) (ho : (s.circuit c).state ≠ .opened) : frameOwner f s = s := by
  cases f with
  | seg | blockEnd | blockAbandon | blockStatus | probe | ready => exact dispatchOpen_of_not_opened hl ho
  | _ => cases ht

/-- At a label that is not bound, every kind but OPEN, ACCEPT and CLOSE is ignored (R104). -/
theorem frameOwner_of_unbound {f : Frame} (hc : f.isCircuit = true) (ha : f.askingSource = none)
    (h : s.label f.destination = .free ∨ ∃ n, s.label f.destination = .resting n) : frameOwner f s = s := by
  cases f with
  | openFrame | accept | close => cases ha
  | linkStart | linkAgree | linkStop => cases hc
  | refuse | closeDone => exact dispatch_of_unbound h
  | rewind | rewindDone => unfold frameOwner; exact dispatch_of_unbound h
  | seg | blockEnd | blockAbandon | blockStatus | probe | ready => exact dispatch_of_unbound h

end

/-- Settles O34, discard by discard: in each the owner of the frame leaves the state as it is. -/
theorem framesAreDiscardedAtDispatch : Obligations.FramesAreDiscardedAtDispatch := by
  intro s row f hf hc hs
  have discard (h : frameOwner f s.heard = s.heard) : exec row s = .next s.heard := by
    rw [exec_frame hf, arrive_ignored hs h]
  refine ⟨fun hu => discard (frameOwner_of_not_up (s := s.heard) hu hc), ?_,
    fun hn hd => discard (frameOwner_of_zero hc hn hd), fun ha => discard (frameOwner_of_source_zero ha),
    fun c fixed ht hl ho => discard ?_, fun ha hl => discard (frameOwner_of_unbound hc ha hl)⟩
  · rintro dst src requested service data rfl hd
    exact discard (frameOwner_openFrame hd ..)
  · exact frameOwner_of_not_opened ht hl ho

end Sys2Proof.Machine

/-! PROOFS. The commands of the listen table: LISTEN (R113), UNLISTEN and READ-LISTEN (R114). -/

namespace Sys2Proof.Machine

section
variable {s : State} {service : Nat} {k : Fin 16}

/-! ### Service numbers and slots (R112, R113) -/

/-- A service number in range is kept as it is (R112, log 10). -/
theorem serviceOf_of_range (h1 : 1 ≤ service) (h2 : service ≤ 65535) :
    serviceOf service = some (BitVec.ofNat 16 service) := if_neg (by omega)

theorem serviceOf_of_outside (h : service = 0 ∨ 65535 < service) : serviceOf service = none := if_pos h

/-- Slot k holds an entry for a service number (R112). -/
def State.Lists (s : State) (service : Nat) (k : Fin 16) : Prop :=
  ∃ e, s.listen[k.val] = some e ∧ e.service.toNat = service

/-- The test of the slot search, in the words of R112. -/
theorem slotTest_iff (s : State) (service : Nat) (k : Fin 16) :
    s.listen[k.val].any (fun e => e.service.toNat == service) = true ↔ s.Lists service k := by
  rw [Option.any_eq_true]
  simp only [beq_iff_eq, State.Lists]

theorem listenSlot_eq_some (hk : s.Lists service k) (low : ∀ j, j < k → ¬ s.Lists service j) :
    s.listenSlot service = some k :=
  find?_finRange_of_lowest ((slotTest_iff s service k).2 hk) fun j hj =>
    Bool.eq_false_iff.2 fun ht => low j hj ((slotTest_iff s service j).1 ht)

theorem listenSlot_eq_none (h : ∀ j, ¬ s.Lists service j) : s.listenSlot service = none :=
  find?_finRange_of_none fun j => Bool.eq_false_iff.2 fun ht => h j ((slotTest_iff s service j).1 ht)

theorem emptySlot_eq_some (hk : s.listen[k.val] = none) (low : ∀ j : Fin 16, j < k → s.listen[j.val] ≠ none) :
    s.emptySlot = some k :=
  find?_finRange_of_lowest (by rw [hk]; rfl) fun j hj => by
    simpa [Option.isSome_iff_ne_none] using low j hj

theorem emptySlot_eq_none (h : ∀ j : Fin 16, s.listen[j.val] ≠ none) : s.emptySlot = none :=
  find?_finRange_of_none fun j => by simpa [Option.isSome_iff_ne_none] using h j

/-! ### LISTEN (R113) -/

theorem exec_listen (hs : Started .listen s) : exec .listen s = .next s.takeListen :=
  congrArg Host.Outcome.next (taking_of_started hs _)

/-- LISTEN with a field that fails its check (R113). -/
theorem takeListen_of_bad (h : s.param 0 = 0 ∨ 65535 < s.param 0 ∨ listenPolicyOf (s.param 1) = none ∨ 64 < s.param 2 ∨
    limitsOf (s.param 4) (s.param 5) (s.param 3) false = none) : s.takeListen = s.reject .badParam := by
  unfold State.takeListen
  split
  · next service policy hservice hpolicy =>
    split
    · rfl
    · next hsegments =>
      split
      · rfl
      · next limits hlimits =>
        rw [hpolicy, hlimits] at h
        have hrange : s.param 0 = 0 ∨ 65535 < s.param 0 := by simpa [hsegments] using h
        rw [serviceOf_of_outside hrange] at hservice
        cases hservice
  · rfl

/-- LISTEN with good fields writes the slot it finds, and is refused where it finds none (R113). -/
theorem takeListen_of_good {policy : ListenPolicy} {limits : Limits} (h1 : 1 ≤ s.param 0) (h2 : s.param 0 ≤ 65535)
    (hp : listenPolicyOf (s.param 1) = some policy) (hm : s.param 2 ≤ 64)
    (hl : limitsOf (s.param 4) (s.param 5) (s.param 3) false = some limits) :
    s.takeListen = ((s.listenSlot (s.param 0)).or s.emptySlot).elim (s.reject .noSlot) fun k =>
      (s.setListen k (some
        { service := BitVec.ofNat 16 (s.param 0), policy, maxSegments := segmentsOf (s.param 2) 64
          window := limits.window, roundLimit := limits.roundLimit, giveUp := limits.policy })).succeed [k.val] := by
  have hn : (BitVec.ofNat 16 (s.param 0)).toNat = s.param 0 := by rw [BitVec.toNat_ofNat]; omega
  unfold State.takeListen
  rw [serviceOf_of_range h1 h2, hp]
  dsimp only
  rw [if_neg (Nat.not_lt.2 hm), hl]
  dsimp only
  rw [hn]
  cases (s.listenSlot (s.param 0)).or s.emptySlot <;> rfl

/-! ### UNLISTEN and READ-LISTEN (R114) -/

theorem exec_unlisten_of_slot (hs : Started .unlisten s) (hk : s.listenSlot (s.param 0) = some k) :
    exec .unlisten s = answers (s.setListen k none) [] := by
  show Host.Outcome.next (s.taking .unlisten State.takeUnlisten) = _
  rw [taking_of_started hs, State.takeUnlisten, hk, next_succeed]

theorem exec_unlisten_of_none (hs : Started .unlisten s) (hk : s.listenSlot (s.param 0) = none) :
    exec .unlisten s = refusedWith s .badParam := by
  show Host.Outcome.next (s.taking .unlisten State.takeUnlisten) = _
  rw [taking_of_started hs, State.takeUnlisten, hk]
  exact next_reject s .badParam

theorem occupiedSlots_eq (s : State) : s.occupiedSlots = (s.listen.toList.filter Option.isSome).length :=
  List.countP_eq_length_filter

/-- READ-LISTEN of a slot: whether it holds an entry, the fields, and the occupied slots (R114). -/
theorem exec_readListen_of_slot (hs : Started .readListen s) (hk : s.param 0 = k.val) :
    exec .readListen s = answers s
      ([flagCode s.listen[k.val].isSome] ++ listenFields s.listen[k.val] ++ [s.occupiedSlots]) := by
  show Host.Outcome.next (s.taking .readListen State.takeReadListen) = _
  have hlt : s.param 0 < 16 := hk ▸ k.isLt
  rw [taking_of_started hs, State.takeReadListen, dif_pos hlt, next_succeed]
  simp only [hk]

theorem exec_readListen_of_outside (hs : Started .readListen s) (h : 15 < s.param 0) :
    exec .readListen s = refusedWith s .badParam := by
  show Host.Outcome.next (s.taking .readListen State.takeReadListen) = _
  rw [taking_of_started hs, State.takeReadListen, dif_neg (by omega), next_reject]

end

/-- Settles O11, command by command: each by the slot its search finds. -/
theorem listenTableCommandsKeepOneEntryEach : Obligations.ListenTableCommandsKeepOneEntryEach := by
  intro s holds first
  have found (k : Fin 16) (hk : first k) : s.listenSlot (s.param 0) = some k := listenSlot_eq_some hk.1 hk.2
  refine ⟨fun limits policy hs h1 h2 hp hm hl => ⟨fun k hk => ?_, fun hfull => ?_⟩, fun hs hbad => ?_,
    fun hs => ⟨fun k hk => exec_unlisten_of_slot hs (found k hk),
      fun hnone => exec_unlisten_of_none hs (listenSlot_eq_none hnone)⟩,
    fun hs => ⟨fun k hk => ⟨fun he => ?_, fun e he => ?_⟩, exec_readListen_of_outside hs⟩⟩
  · have hslot : (s.listenSlot (s.param 0)).or s.emptySlot = some k := by
      obtain hk | ⟨hnone, hempty, hlow⟩ := hk
      · rw [found k hk, Option.some_or]
      · rw [listenSlot_eq_none hnone, Option.none_or, emptySlot_eq_some hempty hlow]
    rw [exec_listen hs, takeListen_of_good h1 h2 hp hm hl, hslot]
    exact next_succeed ..
  · have hslot : (s.listenSlot (s.param 0)).or s.emptySlot = none := by
      rw [listenSlot_eq_none fun j => (hfull j).1, Option.none_or, emptySlot_eq_none fun j => (hfull j).2]
    rw [exec_listen hs, takeListen_of_good h1 h2 hp hm hl, hslot]
    exact next_reject s .noSlot
  · rw [exec_listen hs, takeListen_of_bad hbad, next_reject]
  · rw [exec_readListen_of_slot hs hk, he, occupiedSlots_eq]
    rfl
  · rw [exec_readListen_of_slot hs hk, he, occupiedSlots_eq]
    rfl

end Sys2Proof.Machine

/-! PROOFS. The commands that begin and end a dialled circuit: OPEN (R115), ANSWER (R121 to R123) and CLOSE (R130,
R134). -/

namespace Sys2Proof.Machine

section
variable {s : State} {c : CircuitNo} {l : Label}

/-! ### OPEN (R115) -/

theorem exec_openCommand (hs : Started .openCommand s) : exec .openCommand s = .next s.takeOpen :=
  congrArg Host.Outcome.next (taking_of_started hs _)

/-- OPEN with a field that fails its check, the link not yet looked at (R115 checks 1 and 2). -/
theorem takeOpen_of_bad (h : (s.param 0 = 0 ∨ 65535 < s.param 0 ∨ 64 < (s.paramOctet 1 0).toNat ∨ 16 < s.param 2) ∨
    limitsOf (s.paramOctet 1 2).toNat (s.paramOctet 1 3).toNat (s.paramOctet 1 1).toNat false = none) :
    s.takeOpen = s.reject .badParam := by
  unfold State.takeOpen
  split
  · rfl
  · next service hservice =>
    split
    · rfl
    · next hfields =>
      split
      · rfl
      · next limits hlimits =>
        have hrange : s.param 0 = 0 ∨ 65535 < s.param 0 := by
          rw [hlimits] at h
          simp only [not_or] at hfields
          simpa [hfields.1, hfields.2] using h
        rw [serviceOf_of_outside hrange] at hservice
        cases hservice

/-- OPEN with good fields goes on to the link (R115 check 3). -/
theorem takeOpen_of_good {limits : Limits}
    (h : ¬ (s.param 0 = 0 ∨ 65535 < s.param 0 ∨ 64 < (s.paramOctet 1 0).toNat ∨ 16 < s.param 2))
    (hl : limitsOf (s.paramOctet 1 2).toNat (s.paramOctet 1 3).toNat (s.paramOctet 1 1).toNat false = some limits) :
    s.takeOpen = s.openCircuit (BitVec.ofNat 16 (s.param 0)) limits (s.paramOctet 1 0).toNat
      (s.paramData (s.param 2)) := by
  obtain ⟨h0, h1, h2⟩ : s.param 0 ≠ 0 ∧ ¬ 65535 < s.param 0 ∧ ¬ (64 < (s.paramOctet 1 0).toNat ∨ 16 < s.param 2) := by
    simpa only [not_or] using h
  unfold State.takeOpen
  rw [serviceOf_of_range (Nat.one_le_iff_ne_zero.2 h0) (Nat.not_lt.1 h1)]
  dsimp only
  rw [if_neg h2, hl]

section
variable {service : Word} {limits : Limits} {requested : Nat} {data : List Octet}

theorem openCircuit_of_not_up (h : s.link.state ≠ .up) :
    s.openCircuit service limits requested data = s.reject .linkNotUp := if_pos h

/-- More segments are requested than the link agreed on (R115 check 4). -/
theorem openCircuit_of_excess (hu : s.link.state = .up) (h : s.link.agreed.getD 0 < requested) :
    s.openCircuit service limits requested data = s.reject .badParam := by
  have hr : segmentsOf requested (s.link.agreed.getD 0) = requested := if_neg (by omega)
  unfold State.openCircuit
  rw [if_neg (not_not_intro hu), hr, if_pos h]

/-- A request within the agreed value stays within it where 0 selects it (R115). -/
theorem segmentsOf_within {value agreed : Nat} (h : value ≤ agreed) : ¬ agreed < segmentsOf value agreed := by
  unfold segmentsOf
  split
  · exact Nat.lt_irrefl _
  · exact Nat.not_lt.2 h

section
variable (hu : s.link.state = .up) (ha : requested ≤ s.link.agreed.getD 0)
include hu ha

theorem openCircuit_of_no_slot (hc : s.lowestFreeCircuit = none) :
    s.openCircuit service limits requested data = s.reject .noSlot := by
  unfold State.openCircuit
  rw [if_neg (not_not_intro hu), if_neg (segmentsOf_within ha), hc]

theorem openCircuit_of_no_label (hc : s.lowestFreeCircuit ≠ none) (hl : s.scanFreeLabel = none) :
    s.openCircuit service limits requested data = s.reject .noLabel := by
  obtain ⟨c, hc⟩ := Option.ne_none_iff_exists'.1 hc
  unfold State.openCircuit
  rw [if_neg (not_not_intro hu), if_neg (segmentsOf_within ha), hc, hl]

/-- With a FREE record and a FREE label the OPENING record is created (R115). -/
theorem openCircuit_of_room (hc : s.lowestFreeCircuit = some c) (hl : s.scanFreeLabel = some l) :
    s.openCircuit service limits requested data =
      (s.createDialled c l (openingRecord service limits
        { requested := segmentsOf requested (s.link.agreed.getD 0), data } s.link.config.openTimer)).succeed
        [c.val, l.toNat] := by
  unfold State.openCircuit
  rw [if_neg (not_not_intro hu), if_neg (segmentsOf_within ha), hc, hl]

end
end

/-! ### ANSWER (R121 to R123) -/

theorem exec_answer (hs : Started .answer s) : exec .answer s = .next s.takeAnswerCommand :=
  congrArg Host.Outcome.next (taking_of_started hs _)

section
variable (hs : Started .answer s) (hn : NamesCircuit s 0 c)
include hs hn

theorem exec_answer_of_not_offered (ho : (s.circuit c).state ≠ .offered) :
    exec .answer s = refusedWith s .badState := by
  rw [exec_answer hs, State.takeAnswerCommand, withCircuit_of_named hn, if_pos ho, next_reject]

section
variable (ho : (s.circuit c).state = .offered)
include ho

/-- A decision that is neither accept nor refuse (R121). -/
theorem exec_answer_of_unknown (h1 : s.param 1 ≠ 1) (h2 : s.param 1 ≠ 2) :
    exec .answer s = refusedWith s .badParam := by
  rw [exec_answer hs, State.takeAnswerCommand, withCircuit_of_named hn, if_neg (not_not_intro ho)]
  split
  · next h => exact absurd h h1
  · next h => exact absurd h h2
  · exact next_reject s .badParam

/-- Accept with a field that fails its check (R6, R121). -/
theorem exec_answer_of_bad (h1 : s.param 1 = 1)
    (h : 64 < s.param 2 ∨ limitsOf (s.param 4) (s.param 5) (s.param 3) false = none) :
    exec .answer s = refusedWith s .badParam := by
  rw [exec_answer hs, State.takeAnswerCommand, withCircuit_of_named hn, if_neg (not_not_intro ho), h1]
  by_cases hm : 64 < s.param 2
  · rw [if_pos hm]
    exact next_reject s .badParam
  · rw [if_neg hm, h.resolve_left hm]
    exact next_reject s .badParam

theorem exec_answer_of_accept {limits : Limits} (h1 : s.param 1 = 1) (hm : s.param 2 ≤ 64)
    (hl : limitsOf (s.param 4) (s.param 5) (s.param 3) false = some limits) :
    exec .answer s =
      answers (s.acceptOffer c limits (s.answerAgreed c (s.param 2))) [s.answerAgreed c (s.param 2)] := by
  rw [exec_answer hs, State.takeAnswerCommand, withCircuit_of_named hn, if_neg (not_not_intro ho), h1]
  rw [if_neg (Nat.not_lt.2 hm), hl]
  exact next_succeed ..

theorem exec_answer_of_refuse (h2 : s.param 1 = 2) :
    exec .answer s =
      answers ((s.refuseOffer c (s.diagnosticOf (s.param 2))).countFree (decide (256 ≤ s.param 2))) [] := by
  rw [exec_answer hs, State.takeAnswerCommand, withCircuit_of_named hn, if_neg (not_not_intro ho), h2]
  exact next_succeed ..

end
end

/-- An accepted offer with nothing queued: the record is OPEN and its sender IDLE (R29, R122). -/
theorem acceptOffer_eq (hq : (s.circuit c).send.queue = []) (limits : Limits) (agreed : Nat) :
    s.acceptOffer c limits agreed = s.setCircuit c { s.circuit c with
      state := .opened, timer := none, retryCount := 0, note := none, maxSegments := some agreed
      window := limits.window, roundLimit := limits.roundLimit, policy := some limits.policy
      protocol := some .accept, send := { (s.circuit c).send with sender := .idle } } := by
  unfold State.acceptOffer
  rw [startDecision_empty (by rw [circuit_onCircuit_self]; exact hq), State.onSend, onCircuit_onCircuit]
  rfl

/-- A record that becomes FREE after a loose reply was requested (R12, R105). -/
theorem endRecord_requestLoose (hl : (s.circuit c).localLabel ≠ 0) (x : LooseReply) :
    (s.requestLoose x).endRecord c = { s.withoutRecord c with loose := (s.requestLoose x).loose } := by
  rw [requestLoose_eq s s x rfl]
  exact endRecord_eq (s := { s with loose := (s.requestLoose x).loose }) hl

/-! ### Diagnostics and the counter of free values (R121, R134, log 9) -/

theorem countFree_eq (s : State) (taken : Bool) :
    s.countFree taken = { s with freeCount := if taken then s.freeCount + 1 else s.freeCount } := by
  cases taken <;> rfl

/-- A value that fits an octet is stored as it is (R121, R134). -/
theorem diagnosticOf_toNat {value : Nat} (h : value < 256) : (s.diagnosticOf value).toNat = value := by
  unfold State.diagnosticOf
  rw [if_pos h, BitVec.toNat_ofNat]
  omega

end

/-- Settles O13, check by check in R115's order. -/
theorem openCommandCreatesAnOpeningRecord : Obligations.OpenCommandCreatesAnOpeningRecord := by
  intro s hs asked badFields checked agreed
  rw [exec_openCommand hs]
  refine ⟨fun hbad => ?_, fun limits hgood hl => ?_⟩
  · rw [takeOpen_of_bad hbad, next_reject]
  rw [takeOpen_of_good hgood hl]
  refine ⟨fun hu => ?_, fun hu ha => ?_, fun hu ha => ⟨fun hc => ?_, fun hc hl => ?_, fun c l hc hl => ?_⟩⟩
  · rw [openCircuit_of_not_up hu, next_reject]
  · rw [openCircuit_of_excess hu ha, next_reject]
  · rw [openCircuit_of_no_slot hu ha hc, next_reject]
  · rw [openCircuit_of_no_label hu ha hc hl, next_reject]
  · rw [openCircuit_of_room hu ha hc hl, createDialled_eq _ _ _ _ (scanFreeLabel_spec hl).1]
    exact next_succeed ..

/-- Settles O15: the refusals in their order, then the accepted and the refused offer. -/
theorem answerAcceptsOrRefusesTheOffer : Obligations.AnswerAcceptsOrRefusesTheOffer := by
  intro s c hs hn r checked
  refine ⟨exec_answer_of_not_offered hs hn, fun ho => ⟨exec_answer_of_unknown hs hn ho,
    exec_answer_of_bad hs hn ho, fun limits terms linkAgreed h1 hm hl hoffer hagreed hq => ?_,
    fun peer h2 hpeer hlabel => ?_⟩⟩
  · have hvalue : s.answerAgreed c (s.param 2) =
        min (min terms.requested (if s.param 2 = 0 then 64 else s.param 2)) linkAgreed := by
      unfold State.answerAgreed segmentsOf
      rw [hagreed, show (s.circuit c).offer = some terms from hoffer]
      rfl
    rw [exec_answer_of_accept hs hn ho h1 hm hl, hvalue, acceptOffer_eq hq]
    rfl
  · refine ⟨s.diagnosticOf (s.param 2), if 256 ≤ s.param 2 then s.freeCount + 1 else s.freeCount,
      fun hd => ⟨diagnosticOf_toNat hd, if_neg (Nat.not_le.2 hd)⟩, ?_⟩
    have hreply : (s.circuit c).offerRefusal Cause.refused (s.diagnosticOf (s.param 2)) =
        { body := .refuse 0x02 (s.diagnosticOf (s.param 2)), dst := peer, src := r.localLabel } := by
      unfold CircuitRecord.offerRefusal
      rw [show (s.circuit c).peerLabel = some peer from hpeer]
      rfl
    rw [exec_answer_of_refuse hs hn ho h2, State.refuseOffer, hreply, endRecord_requestLoose hlabel, countFree_eq]
    simp only [decide_eq_true_eq]
    rfl

/-! ### CLOSE (R130, R134) -/

section
variable {s : State} {c : CircuitNo}

/-- A record that enters CLOSING: its blocks are freed, and nothing else changes but the record (R135). -/
theorem enterClosing_spec (s : State) (c : CircuitNo) (cause diagnostic : Octet) (originator : Originator) :
    let t := s.enterClosing c cause diagnostic originator
    EngineFrame c s t ∧ Dropped (s.circuit c) s t ∧ t.events = s.events ∧ t.loose = s.loose ∧
      t.circuit c = closingRecord (s.circuit c) cause diagnostic originator s.link.config.closeTimer := by
  refine ⟨frame_enterClosing .., fun d => ?_, by rw [enterClosing_eq], by rw [enterClosing_eq], enterClosing_circuit ..⟩
  rw [enterClosing_descriptor]
  exact ⟨fun h => if_pos h, fun h => if_neg h⟩

/-- An OPENING record that enters CLOSED: OPEN-FAILED is its event (R130, R132). -/
theorem enterClosed_opening (ho : (s.circuit c).state = .opening) (cause diagnostic : Octet) (originator : Originator)
    (confirmed : Bool) (owed : Option ProtocolKind) :
    let t := s.enterClosed c cause diagnostic originator confirmed owed
    EngineFrame c s t ∧ Dropped (s.circuit c) s t ∧
      t.circuit c = { closedRecord (s.circuit c) cause diagnostic originator confirmed owed with
        stale := (t.circuit c).stale } ∧
      t.loose = s.loose ∧ Raised s t (openFailedOf c (s.circuit c) cause originator) := by
  obtain ⟨hframe, hdrop, hrec, hloose, hraised⟩ := enterClosed_spec s c cause diagnostic originator confirmed owed
  rw [if_pos ho] at hraised
  exact ⟨hframe, hdrop, hrec, hloose, hraised⟩

/-- The taking of CLOSE on the circuit it names (R134). -/
theorem exec_closeCommand (hs : Started .closeCommand s) (hn : NamesCircuit s 0 c) :
    exec .closeCommand s = .next (s.closeCircuit c (s.param 1)) := by
  show Host.Outcome.next (s.taking .closeCommand State.takeClose) = _
  rw [taking_of_started hs, State.takeClose, withCircuit_of_named hn]

theorem closeCircuit_opening (ho : (s.circuit c).state = .opening) (value : Nat) :
    s.closeCircuit c value =
      ((s.enterClosed c Cause.local (s.diagnosticOf value) .local false none).countFree
        (decide (256 ≤ value))).succeed [s.discardCount c] := by
  unfold State.closeCircuit
  rw [ho]

theorem closeCircuit_running (ho : (s.circuit c).state = .opened ∨ (s.circuit c).state = .rewinding)
    (hk : (s.circuit c).kind = some .dialled) (value : Nat) :
    s.closeCircuit c value =
      ((s.enterClosing c Cause.local (s.diagnosticOf value) .local).countFree
        (decide (256 ≤ value))).succeed [s.discardCount c] := by
  unfold State.closeCircuit
  obtain ho | ho := ho <;> rw [ho, hk]

theorem closeCircuit_refused
    (h : (s.circuit c).state = .offered ∨ (s.circuit c).state = .closing ∨ (s.circuit c).state = .closed ∨
      ((s.circuit c).state ≠ .opening ∧ (s.circuit c).kind = some .fixed)) (value : Nat) :
    s.closeCircuit c value = s.reject .badState := by
  unfold State.closeCircuit
  split
  · next ho => simp [ho] at h
  · next ho hk => simp [ho, hk] at h
  · next ho hk => simp [ho, hk] at h
  · rfl

/-- The end of a command changes no record (R196, log 9). -/
theorem circuit_countFree_succeed (u : State) (taken : Bool) (values : List Nat) (d : CircuitNo) :
    ((u.countFree taken).succeed values).circuit d = u.circuit d := circuit_of_circuits (countFree_circuits ..) d

/-- The end of a CLOSE that has moved the record: the counter of free values and the port beside what the move did
(R134, R196, log 9). -/
theorem closeCommand_done {u : State} (hf : EngineFrame c s u) (hd : Dropped (s.circuit c) s u) (hl : u.loose = s.loose)
    (value : Nat) :
    let t := (u.countFree (decide (256 ≤ value))).succeed [(s.circuit c).send.blocks.length]
    (value < 256 → (s.diagnosticOf value).toNat = value ∧ t.freeCount = s.freeCount) ∧ CircuitFrame c s t ∧
      Dropped (s.circuit c) s t ∧ t.loose = s.loose ∧ t.receiver = s.receiver ∧
      t.port = donePort s.port .ok [(s.circuit c).send.blocks.length] := by
  rw [countFree_eq]
  refine ⟨fun hv => ⟨diagnosticOf_toNat hv, ?_⟩, ?_, hd, hl, hf.receiver, congrArg (donePort · _ _) hf.port⟩
  · exact (if_neg (by simpa using hv)).trans hf.freeCount
  · rw [← countFree_eq]
    exact (hf.toCircuitFrame.trans (frame_countFree ..)).trans (frame_finish ..)

end

/-- Settles O16: CLOSE by the state of the record it names. -/
theorem closeCommandClosesTheCircuit : Obligations.CloseCommandClosesTheCircuit := by
  intro s c hs hn r done
  have hexec := exec_closeCommand hs hn
  refine ⟨fun ho => ?_, fun ho hk => ?_, fun h => ?_⟩
  · obtain ⟨hframe, hdrop, hrec, hloose, hraised⟩ :=
      enterClosed_opening ho Cause.local (s.diagnosticOf (s.param 1)) .local false none
    rw [closeCircuit_opening ho] at hexec
    exact ⟨_, s.diagnosticOf (s.param 1), ⟨hexec, closeCommand_done hframe hdrop hloose _⟩,
      by rw [circuit_countFree_succeed]; exact hrec,
      hraised.then (countFree_events ..) (countFree_linkStale ..) fun d => by rw [circuit_countFree_succeed]⟩
  · obtain ⟨hframe, hdrop, hevents, hloose, hrec⟩ :=
      enterClosing_spec s c Cause.local (s.diagnosticOf (s.param 1)) .local
    rw [closeCircuit_running ho hk] at hexec
    exact ⟨_, s.diagnosticOf (s.param 1), ⟨hexec, closeCommand_done hframe hdrop hloose _⟩,
      by rw [circuit_countFree_succeed]; exact hrec,
      (countFree_events ..).trans hevents⟩
  · rw [hexec, closeCircuit_refused h, next_reject]

end Sys2Proof.Machine

/-! PROOFS. The expiries of the OPEN, OFFER, CLOSE and REWIND timers (R124, R129, R137, R145), at whatever time left
(log 2). -/

namespace Sys2Proof.Machine

section
variable {s : State} {c : CircuitNo}

/-! ### The timer becomes empty (R14) -/

/-- A timer that runs with the purpose expires: it is emptied and its owner acts (R14). -/
theorem expire_of_runs {purpose : TimerPurpose} {ms : Nat}
    (h : (s.circuit c).timer = some { purpose, remaining := ms }) (owner : State → State) :
    s.expire c purpose owner = owner (s.stopTimer c) := by
  unfold State.expire CircuitRecord.runs
  rw [h]
  exact if_pos (by simp)

/-- A timer that does not run with the purpose does not expire (log 2). -/
theorem expire_of_other {purpose : TimerPurpose} (h : ∀ t, (s.circuit c).timer = some t → t.purpose ≠ purpose)
    (owner : State → State) : s.expire c purpose owner = s := by
  refine if_neg fun hr => ?_
  obtain ⟨t, ht, hp⟩ := (Option.any_eq_true _ _).1 hr
  exact h t ht (of_decide_eq_true hp)

theorem exec_of_other {purpose : TimerPurpose} (h : ∀ t, (s.circuit c).timer = some t → t.purpose ≠ purpose) :
    exec (expiryRow c purpose) s = .next s := by
  cases purpose <;> exact congrArg Host.Outcome.next (expire_of_other h _)

@[simp] theorem stopTimer_circuit (s : State) (c : CircuitNo) :
    (s.stopTimer c).circuit c = { s.circuit c with timer := none } := circuit_onCircuit_self ..

theorem frame_stopTimer (s : State) (c : CircuitNo) : EngineFrame c s (s.stopTimer c) := frame_onCircuit ..

/-- An event raised after the timer has become empty is an event raised before it. -/
theorem Raised.of_stopTimer {t : State} {e : Event} (h : Raised (s.stopTimer c) t e) : Raised s t e := by
  intro hr
  obtain ⟨hevents, hlink, hstale⟩ := h hr
  exact ⟨hevents, hlink, fun d => (hstale d).trans (stale_onCircuit s c _ rfl d)⟩

/-! ### What each expiry comes to -/

/-- The OPEN expiry of an OPENING record (R129). -/
theorem openTimer_expires (ho : (s.circuit c).state = .opening) :
    let t := State.openExpired c (s.stopTimer c)
    EngineFrame c s t ∧ Dropped (s.circuit c) s t ∧
      t.circuit c = { closedRecord (s.circuit c) 0x06 0 .part false none with stale := (t.circuit c).stale } ∧
      t.loose = s.loose ∧ Raised s t (openFailedOf c (s.circuit c) 0x06 .part) := by
  have ho' : ((s.stopTimer c).circuit c).state = .opening := by rw [stopTimer_circuit]; exact ho
  obtain ⟨hframe, hdrop, hrec, hloose, hraised⟩ := enterClosed_opening ho' Cause.timeout 0 .part false none
  rw [stopTimer_circuit] at hdrop hrec hraised
  unfold State.openExpired
  rw [if_pos ho']
  exact ⟨(frame_stopTimer s c).trans hframe, hdrop, hrec, hloose, hraised.of_stopTimer⟩

/-- An OFFERED record whose offer is not answered, with room for its event (R124). -/
theorem offerExpired_eq {peer : Label} (ho : (s.circuit c).state = .offered)
    (hp : (s.circuit c).peerLabel = some peer) (hl : (s.circuit c).localLabel ≠ 0) (hroom : s.events.length ≤ 126) :
    State.offerExpired c s = { s.withoutRecord c with
      loose := (s.requestLoose { body := .refuse 0x05 0, dst := peer, src := (s.circuit c).localLabel }).loose
      events := s.events ++
        [{ kind := .openFailed, circuit := some c, cause := some 0x05, originator := some .part
           tag := some (s.circuit c).service, count := some 0 }] } := by
  have hreply : (s.circuit c).offerRefusal Cause.noAnswer 0 =
      { body := .refuse 0x05 0, dst := peer, src := (s.circuit c).localLabel } := by
    unfold CircuitRecord.offerRefusal
    rw [hp]
    rfl
  unfold State.offerExpired
  rw [if_pos ho, hreply, requestLoose_eq s s _ rfl, raise_of_room _ _ (by exact Nat.lt_succ_of_le hroom)]
  exact endRecord_eq hl

theorem withoutRecord_stopTimer (s : State) (c : CircuitNo) : (s.stopTimer c).withoutRecord c = s.withoutRecord c := by
  simp only [State.withoutRecord, stopTimer_circuit]
  exact congrArg (fun circuits => { s.withoutRecord c with circuits }) (Vector.set_set ..)

/-- The OFFER expiry of an OFFERED record, with room for its event (R124). -/
theorem offerTimer_expires {peer : Label} (ho : (s.circuit c).state = .offered)
    (hp : (s.circuit c).peerLabel = some peer) (hl : (s.circuit c).localLabel ≠ 0) (hroom : s.events.length ≤ 126) :
    State.offerExpired c (s.stopTimer c) = { s.withoutRecord c with
      loose := (s.requestLoose { body := .refuse 0x05 0, dst := peer, src := (s.circuit c).localLabel }).loose
      events := s.events ++
        [{ kind := .openFailed, circuit := some c, cause := some 0x05, originator := some .part
           tag := some (s.circuit c).service, count := some 0 }] } := by
  have hloose (x : LooseReply) : ((s.stopTimer c).requestLoose x).loose = (s.requestLoose x).loose := by
    rw [requestLoose_eq s (s.stopTimer c) x rfl]
  rw [offerExpired_eq (s := s.stopTimer c) (peer := peer) (by simpa using ho) (by simpa using hp) (by simpa using hl)
    hroom, withoutRecord_stopTimer, hloose, stopTimer_circuit]
  rfl

/-- CLOSE or REWIND sent again: the record alone changes (R16, R137, R145). -/
theorem retry_stopTimer (s : State) (c : CircuitNo) (k : ProtocolKind) (purpose : TimerPurpose) (ms : Nat) :
    (s.stopTimer c).retry c k purpose ms = s.setCircuit c { s.circuit c with
      protocol := some k, retryCount := min ((s.circuit c).retryCount + 1) 255
      timer := some { purpose, remaining := ms } } := by
  simp only [State.retry, State.setProtocol, State.startTimer, State.stopTimer, onCircuit_onCircuit]
  rfl

section
variable (ho : (s.circuit c).state = .closing)
include ho

/-- The CLOSE expiry while retries remain (R137). -/
theorem closeTimer_resends (h : (s.circuit c).retryCount < s.link.config.closeRetries) :
    State.closeExpired c (s.stopTimer c) = (s.stopTimer c).retry c .close .close s.link.config.closeTimer := by
  unfold State.closeExpired
  rw [stopTimer_circuit, if_pos ho]
  exact if_pos h

/-- The CLOSE expiry with the retries used up (R137). -/
theorem closeTimer_expires {k : CloseRecord} (h : s.link.config.closeRetries ≤ (s.circuit c).retryCount)
    (hk : (s.circuit c).closeRecord = some k) :
    let t := State.closeExpired c (s.stopTimer c)
    EngineFrame c s t ∧
      t.circuit c = { closedFromClosing (s.circuit c) false none with stale := (t.circuit c).stale } ∧
      t.descriptors = s.descriptors ∧ t.loose = s.loose ∧
      Raised s t (closedOf c (s.circuit c) k.cause k.originator k.confirmed k.discarded) := by
  have ht : State.closeExpired c (s.stopTimer c) = (s.stopTimer c).finishClosing c false none := by
    unfold State.closeExpired
    rw [stopTimer_circuit, if_pos ho]
    exact if_neg (Nat.not_lt.2 h)
  have hk' : ((s.stopTimer c).circuit c).closeRecord = some k := by rw [stopTimer_circuit]; exact hk
  obtain ⟨hframe, hrec, hdesc, hloose, hraised⟩ := finishClosing_spec (s.stopTimer c) c false none k hk'
  rw [stopTimer_circuit] at hrec hraised
  rw [Bool.or_false] at hraised
  rw [ht]
  exact ⟨(frame_stopTimer s c).trans hframe, hrec, hdesc, hloose, hraised.of_stopTimer⟩

end

section
variable (ho : (s.circuit c).state = .rewinding)
include ho

/-- The REWIND expiry of a fixed record, and of a dialled one while retries remain (R145). -/
theorem rewindTimer_resends
    (h : (s.circuit c).kind = some .fixed ∨ (s.circuit c).retryCount < s.link.config.rewindRetries) :
    State.rewindExpired c (s.stopTimer c) = (s.stopTimer c).retry c .rewind .rewind s.link.config.rewindTimer := by
  unfold State.rewindExpired
  rw [stopTimer_circuit, if_pos ho]
  exact if_pos h

/-- The REWIND expiry of a dialled record with its retries used up (R145). -/
theorem rewindTimer_expires (hk : (s.circuit c).kind = some .dialled)
    (h : s.link.config.rewindRetries ≤ (s.circuit c).retryCount) :
    let t := State.rewindExpired c (s.stopTimer c)
    EngineFrame c s t ∧ Dropped (s.circuit c) s t ∧ t.events = s.events ∧ t.loose = s.loose ∧
      t.circuit c = closingRecord (s.circuit c) 0x07 0 .part s.link.config.closeTimer := by
  have ht : State.rewindExpired c (s.stopTimer c) = (s.stopTimer c).enterClosing c Cause.noResponse 0 .part := by
    unfold State.rewindExpired
    rw [stopTimer_circuit, if_pos ho]
    exact if_neg (not_or.2 ⟨fun hf => absurd (hk.symm.trans hf) (by decide), Nat.not_lt.2 h⟩)
  obtain ⟨hframe, hdrop, hevents, hloose, hrec⟩ := enterClosing_spec (s.stopTimer c) c Cause.noResponse 0 .part
  rw [stopTimer_circuit] at hdrop hrec
  rw [ht]
  exact ⟨(frame_stopTimer s c).trans hframe, hdrop, hevents, hloose, hrec⟩

end
end

/-- Settles O47, timer by timer: each expiry is its owner's act after the timer has become empty. -/
theorem exchangeTimersExpire : Obligations.ExchangeTimersExpire := by
  intro s c ms r again
  have expires {purpose : TimerPurpose} (ht : r.timer = some { purpose, remaining := ms }) (owner : State → State) :
      (Host.Outcome.next (s.expire c purpose owner) : Host.Outcome State Fault Refusal) =
        .next (owner (s.stopTimer c)) := congrArg _ (expire_of_runs ht owner)
  refine ⟨fun ht ho => ⟨_, expires ht _, openTimer_expires ho⟩,
    fun peer ht ho hp hl hroom => (expires ht _).trans (congrArg _ (offerTimer_expires ho hp hl hroom)),
    fun ht ho => ⟨fun hn => ?_, fun k hn hk => ⟨_, expires ht _, closeTimer_expires ho hn hk⟩⟩,
    fun ht ho => ⟨fun hn => ?_, fun hk hn => ⟨_, expires ht _, rewindTimer_expires ho hk hn⟩⟩,
    fun purpose => exec_of_other⟩
  · exact (expires ht _).trans (congrArg _ ((closeTimer_resends ho hn).trans (retry_stopTimer ..)))
  · exact (expires ht _).trans (congrArg _ ((rewindTimer_resends ho hn).trans (retry_stopTimer ..)))

end Sys2Proof.Machine

/-! PROOFS. A peer label used again (R107, R108): the one dialled record that held it has ended, and the state it
leaves takes the frame as if no record had held the label. -/

namespace Sys2Proof.Machine

section
variable {s : State} {c : CircuitNo} {l : Label}

/-- A CLOSING record that enters CLOSED: the record alone changes before its event (R10, R151). -/
theorem finishClosing_eq (s : State) (c : CircuitNo) (confirmed : Bool) (owed : Option ProtocolKind) :
    s.finishClosing c confirmed owed = (s.setCircuit c (closedFromClosing (s.circuit c) confirmed owed)).raise
      ((closedFromClosing (s.circuit c) confirmed owed).closedEvent c) := by
  unfold State.finishClosing
  dsimp only
  rw [circuit_onCircuit_self]
  rfl

/-- A CLOSING record without a close record, which no run reaches and PeersLaw does not exclude, is ended like every
other (R107, log 21). -/
theorem endCircuit_unrecorded (hk : (s.circuit c).kind = some .dialled) (hs : (s.circuit c).state = .closing)
    (hn : (s.circuit c).closeRecord = none) : EndedStale c s (s.endCircuit c Cause.stale) := by
  have he : s.endCircuit c Cause.stale = s.finishClosing c false none := if_pos hs
  rw [he]
  refine ⟨frame_finishClosing .., ?_, fun d => ?_, ?_, fun e hev => ?_⟩
  · obtain ⟨b, hb⟩ := raise_circuit (s.setCircuit c (closedFromClosing (s.circuit c) false none))
      ((closedFromClosing (s.circuit c) false none).closedEvent c) c
    rw [finishClosing_eq, hb, circuit_setCircuit_self]
    unfold leftUpRecord
    rw [hk, hs]
  · unfold State.leftUpDescriptor State.descriptor
    rw [hk, hs, finishClosing_eq, raise_descriptors]
    rfl
  · rw [finishClosing_eq, raise_loose]
    rfl
  · have hevent : (closedFromClosing (s.circuit c) false none).closedEvent c = e := by
      unfold leftUpEvent at hev
      rw [hk, hs] at hev
      rw [← Option.some.inj hev]
      simp [CircuitRecord.closedEvent, closedFromClosing, hn]
    rw [finishClosing_eq, hevent]
    exact raised_of_raise rfl rfl (stale_setCircuit s c _ rfl)

/-- The dialled record that holds a reused peer label is ended with cause STALE (R107). -/
theorem endCircuit_stale (hk : (s.circuit c).kind = some .dialled)
    (hs : (s.circuit c).state.holdsPeerLabel = true) : EndedStale c s (s.endCircuit c Cause.stale) := by
  by_cases hn : (s.circuit c).state = .closing ∧ (s.circuit c).closeRecord = none
  · exact endCircuit_unrecorded hk hn.1 hn.2
  · exact endCircuit_spec s c hk hs fun hc h => hn ⟨hc, h⟩

/-- A dialled record that held a peer label is in CLOSED once it has ended (R107). -/
theorem EndedStale.state {t : State} (h : EndedStale c s t) (hk : (s.circuit c).kind = some .dialled)
    (hs : (s.circuit c).state.holdsPeerLabel = true) : (t.circuit c).state = .closed := by
  rw [h.record]
  unfold leftUpRecord
  rw [hk]
  obtain ho | ho | ho | ho := (holdsPeerLabel_iff _).1 hs <;> rw [ho] <;> rfl

/-- The record a peer label's search finds claims the label (section 5.6). -/
theorem peerHolder_claims (h : s.peerHolder l = some c) : (s.circuit c).claims l := by
  have hfound := List.find?_some h
  simp only [Bool.and_eq_true, decide_eq_true_eq] at hfound
  exact ⟨.inl hfound.1, hfound.2⟩

/-- A peer label that one record alone claimed is held by none once that record has ended (R107). -/
theorem peerHolder_of_ended {t : State} (h : EndedStale c s t) (hk : (s.circuit c).kind = some .dialled)
    (hpeers : PeersLaw s) (hp : s.peerHolder l = some c) : t.peerHolder l = none := by
  refine find?_finRange_of_none fun d => ?_
  by_cases hd : d = c
  · rw [hd, h.state hk (peerHolder_holds hp)]
    rfl
  · rw [h.frame.others d hd]
    refine Bool.eq_false_iff.2 fun ht => hd ?_
    simp only [Bool.and_eq_true, decide_eq_true_eq] at ht
    exact hpeers d c l ⟨.inl ht.1, ht.2⟩ (peerHolder_claims hp)

/-- The dialled record that holds the source label of a frame just received ends, and the state it leaves hears the
same frame with the label held by none and the link as it was (R107, R108). -/
theorem peerLabel_freed (hs : Hears s) (hpeers : PeersLaw s) (hp : s.peerHolder l = some c)
    (hk : (s.circuit c).kind = some .dialled) :
    let u := s.heard.endCircuit c Cause.stale
    EndedStale c s.heard u ∧ u.peerHolder l = none ∧ Hears u ∧ u.link = s.link ∧ u.heard = u := by
  intro u
  have hended : EndedStale c s.heard u := endCircuit_stale (s := s.heard) hk (peerHolder_holds hp)
  have hreceiver : u.receiver = { phase := .collect, buffer := [] } := hended.frame.receiver
  refine ⟨hended, peerHolder_of_ended (s := s.heard) hended hk hpeers hp,
    ⟨hended.frame.lineReady.trans hs.1, by rw [hreceiver]; simp⟩, hended.frame.link, ?_⟩
  unfold State.heard
  rw [← hreceiver]

end

end Sys2Proof.Machine

/-! PROOFS. The arrival of an OPEN frame (R117 to R120, R107): its refusals, and the circuits it creates. -/

namespace Sys2Proof.Machine

section
variable {s : State} {c : CircuitNo} {l : Label}

/-! ### A record and its event (R3, R204) -/

/-- A change of one record, in the table of records. -/
theorem circuits_of_others {t : State} (h : ∀ d, d ≠ c → t.circuit d = s.circuit d) :
    t.circuits = s.circuits.set c.val (t.circuit c) := by
  refine Vector.ext fun i hi => ?_
  by_cases hc : c.val = i
  · subst hc
    rw [Vector.getElem_set_self]
    rfl
  · rw [Vector.getElem_set_ne _ _ hc]
    exact h ⟨i, hi⟩ fun hd => hc (congrArg Fin.val hd).symm

/-- An event that names a circuit changes the event queue and that circuit's stale flag at most (R204). -/
theorem raise_eq (s : State) {e : Event} (he : e.circuit = some c) :
    s.raise e = { s with
      circuits := s.circuits.set c.val { s.circuit c with stale := ((s.raise e).circuit c).stale }
      events := (s.raise e).events } := by
  have hframe := frame_raise s he
  obtain ⟨b, hb⟩ := raise_circuit s e c
  have hrec : (s.raise e).circuit c = { s.circuit c with stale := ((s.raise e).circuit c).stale } := by rw [hb]
  rw [← hrec, ← circuits_of_others hframe.others]
  exact (hframe.eq_of_loose (raise_loose ..)).trans (by rw [raise_descriptors])

theorem createDialled_circuit (s : State) (c : CircuitNo) (l : Label) (r : CircuitRecord) :
    (s.createDialled c l r).circuit c = { r with stale := (s.circuit c).stale, localLabel := l } :=
  circuit_setCircuit_self ..

/-- A dialled circuit created with an event: its record, its label, the allocation pointer and the event (R3, R98,
R132). -/
theorem created_spec {r : CircuitRecord} {e : Event} (hl : l ≠ 0) (he : e.circuit = some c) :
    let t := (s.createDialled c l r).raise e
    t = { s with
      circuits := s.circuits.set c.val { r with stale := (t.circuit c).stale, localLabel := l }
      labels := s.labels.set (labelIndex l).val (.bound c false)
      allocPtr := pointerAfter l
      events := t.events } ∧ Raised s t e := by
  have hu := createDialled_eq s c l r hl
  constructor
  · refine (raise_eq _ he).trans ?_
    rw [createDialled_circuit]
    generalize (s.createDialled c l r).raise e = t
    rw [hu]
    simp only [Vector.set_set]
  · rw [hu]
    refine raised_of_raise rfl rfl fun d => ?_
    exact stale_setCircuit s c { r with stale := (s.circuit c).stale, localLabel := l } rfl d

/-! ### The steps of R117 -/

theorem refuseOpen_heard (s : State) (src : Label) (cause : Octet) :
    s.heard.refuseOpen src cause = { s.heard with
      loose := (s.requestLoose { body := .refuse cause 0, dst := src, src := 0 }).loose } :=
  requestLoose_eq s s.heard _ rfl

theorem exec_openFrame (hs : Hears s) (hu : s.link.state = .up) {src : Label} (hsrc : src ≠ 0) {data : List Octet}
    (hd : data.length ≤ 16) (requested : Octet) (service : Word) :
    exec (.openFrameArrival 0 src requested service data) s =
      .next (s.heard.openAt { src, terms := { requested := requested.toNat, data }, service }) := by
  show Host.Outcome.next (s.arrive _ _) = _
  rw [arrive_of_hears hs (by simpa [Frame.wellFormed] using hd)]
  exact congrArg Host.Outcome.next (if_pos ⟨hu, rfl, hsrc⟩)

section
variable {x : OpenFields}

theorem openAt_of_unheld (h : s.peerHolder x.src = none) : s.openAt x = s.openListed x := by
  unfold State.openAt
  rw [h]

/-- A source label that a fixed record holds (R107). -/
theorem openAt_of_fixed (h : s.peerHolder x.src = some c) (hk : (s.circuit c).kind = some .fixed) :
    s.openAt x = s.refuseOpen x.src Cause.protocol := by
  unfold State.openAt
  rw [h]
  exact if_pos hk

/-- A source label that a dialled record holds (R107). -/
theorem openAt_of_dialled (h : s.peerHolder x.src = some c) (hk : (s.circuit c).kind = some .dialled) :
    s.openAt x = (s.endCircuit c Cause.stale).openListed x := by
  unfold State.openAt
  rw [h]
  exact if_neg (by rw [hk]; simp)

theorem openListed_of_outside (h : ¬ (1 ≤ x.terms.requested ∧ x.terms.requested ≤ 64)) :
    s.openListed x = s.refuseOpen x.src Cause.protocol := if_pos (by omega)

section
variable (h : 1 ≤ x.terms.requested ∧ x.terms.requested ≤ 64)
include h

theorem openListed_of_unlisted (he : s.listenEntry x.service = none) :
    s.openListed x = s.refuseOpen x.src Cause.noService := by
  unfold State.openListed
  rw [if_neg (by omega), he]

section
variable {e : ListenEntry} (he : s.listenEntry x.service = some e)
include he

/-- No FREE record, or no FREE label (R117). -/
theorem openListed_of_no_room (hn : s.lowestFreeCircuit = none ∨ s.scanFreeLabel = none) :
    s.openListed x = s.refuseOpen x.src Cause.busy := by
  unfold State.openListed
  rw [if_neg (by omega), he]
  dsimp only
  split
  · next hc hl => simp [hc, hl] at hn
  · rfl

/-- A listed service with a FREE record and a FREE label (R117, R118, R120). -/
theorem openListed_of_room (hc : s.lowestFreeCircuit = some c) (hl : s.scanFreeLabel = some l) :
    s.openListed x = if e.policy = .auto then s.createAuto x e c l else s.createOffered x e c l := by
  unfold State.openListed
  rw [if_neg (by omega), he]
  dsimp only
  rw [hc, hl]
  cases e.policy <;> rfl

end
end
end

section
variable (x : OpenFields) (e : ListenEntry) (hl : l ≠ 0)
include hl

/-- Creation from an AUTO entry (R118, R132). -/
theorem createAuto_spec :
    let t := s.createAuto x e c l
    t = { s with
      circuits := s.circuits.set c.val
        { autoRecord x e (s.link.agreed.getD 0) with stale := (t.circuit c).stale, localLabel := l }
      labels := s.labels.set (labelIndex l).val (.bound c false)
      allocPtr := pointerAfter l
      events := t.events } ∧
    Raised s t
      { kind := .opened, circuit := some c, originator := some .peer, tag := some x.service
        count := some (min (min x.terms.requested e.maxSegments) (s.link.agreed.getD 0)) } := by
  unfold State.createAuto
  dsimp only
  rw [createDialled_circuit]
  exact created_spec hl rfl

/-- Creation from a REFER entry (R120, R132). -/
theorem createOffered_spec :
    let t := s.createOffered x e c l
    t = { s with
      circuits := s.circuits.set c.val
        { offeredRecord x e s.link.config.offerTimer with stale := (t.circuit c).stale, localLabel := l }
      labels := s.labels.set (labelIndex l).val (.bound c false)
      allocPtr := pointerAfter l
      events := t.events } ∧
    Raised s t { kind := .offer, circuit := some c, tag := some x.service, count := some x.terms.requested } := by
  unfold State.createOffered
  dsimp only
  rw [createDialled_circuit]
  exact created_spec hl rfl

end

end

/-- Settles O35: the steps of R117 in their order, and the end of the record whose peer label is used again. -/
theorem openFrameArrivalMeetsTheListenTable : Obligations.OpenFrameArrivalMeetsTheListenTable := by
  intro s src requested service data hs hu hsrc hd row terms refused inRange
  have hexec := exec_openFrame hs hu hsrc hd requested service
  have refusal (cause : Octet)
      (h : s.heard.openAt { src, terms, service } = s.heard.refuseOpen src cause) : refused cause :=
    hexec.trans (congrArg Host.Outcome.next (h.trans (refuseOpen_heard ..)))
  refine ⟨fun hp => ?_, fun c hp => ⟨fun hk => refusal _ (openAt_of_fixed (s := s.heard) hp hk), fun hk hpeers => ?_⟩⟩
  · have hat : s.heard.openAt { src, terms, service } = s.heard.openListed { src, terms, service } :=
      openAt_of_unheld (s := s.heard) hp
    refine ⟨fun hr => refusal _ (hat.trans (openListed_of_outside hr)),
      fun hr he => refusal _ (hat.trans (openListed_of_unlisted (s := s.heard) hr he)), fun e hr he =>
      ⟨fun hn => refusal _ (hat.trans (openListed_of_no_room (s := s.heard) hr he hn)), fun c l hc hl => ?_⟩⟩
    have hlabel := (scanFreeLabel_spec hl).1
    have hcreate := hat.trans (openListed_of_room (s := s.heard) hr he hc hl)
    refine ⟨fun ha => ?_, fun ha => ?_⟩
    · rw [← getD_zero_eq_codeOf]
      exact ⟨_, hexec.trans (congrArg _ (hcreate.trans (if_pos ha))), createAuto_spec (s := s.heard) _ e hlabel⟩
    · exact ⟨_, hexec.trans (congrArg _ (hcreate.trans (if_neg (by simp [ha])))),
        createOffered_spec (s := s.heard) _ e hlabel⟩
  · obtain ⟨hended, hfree, hears, hlink, hheard⟩ := peerLabel_freed hs hpeers hp hk
    refine ⟨_, hended, hfree, hears, hlink, ?_⟩
    rw [hexec, exec_openFrame hears (by rw [hlink]; exact hu) hsrc hd, hheard,
      openAt_of_unheld (x := { src, terms, service }) hfree]
    exact congrArg Host.Outcome.next (openAt_of_dialled (s := s.heard) hp hk)

end Sys2Proof.Machine

/-! PROOFS. The arrivals of ACCEPT (R127, R128, R103, R104) and REFUSE (R130): at an OPENING record, and elsewhere. -/

namespace Sys2Proof.Machine

section
variable {s : State} {c : CircuitNo} {dst src : Label}

/-! ### ACCEPT where no OPENING record is reached (R103, R104) -/

theorem exec_accept (hs : Hears s) (dst src : Label) (agreed : Octet) :
    exec (.acceptArrival dst src agreed) s = .next (State.acceptAt dst src agreed s.heard) :=
  congrArg Host.Outcome.next (arrive_of_hears hs rfl _)

section
variable (hu : s.link.state = .up) (hd : dst ≠ 0) (hsrc : src ≠ 0) (agreed : Octet)
include hu hd hsrc

theorem acceptAt_of_unbound (h : s.label dst = .free ∨ ∃ n, s.label dst = .resting n) :
    State.acceptAt dst src agreed s = s.requestLoose (staleClose dst src) := by
  unfold State.acceptAt
  rw [if_neg hsrc]
  obtain h | ⟨n, h⟩ := h
  · exact dispatch_of_free hu hd h ..
  · exact dispatch_of_resting hu hd h ..

section
variable {fixed : Bool} (hl : s.label dst = .bound c fixed)
include hl

theorem acceptAt_of_not_opening (ho : (s.circuit c).state ≠ .opening) :
    State.acceptAt dst src agreed s = s.requestLoose (staleClose dst src) := by
  unfold State.acceptAt
  rw [if_neg hsrc, dispatch_of_bound hu hd hl]
  exact if_neg ho

theorem acceptAt_of_opening (ho : (s.circuit c).state = .opening) :
    State.acceptAt dst src agreed s = s.acceptOpening c src agreed.toNat := by
  unfold State.acceptAt
  rw [if_neg hsrc, dispatch_of_bound hu hd hl]
  exact if_pos ho

end
end

theorem staleClose_heard (s : State) (dst src : Label) :
    s.heard.requestLoose (staleClose dst src) = { s.heard with
      loose := (s.requestLoose { body := .close 0x08 0, dst := src, src := dst }).loose } :=
  requestLoose_eq s s.heard _ rfl

/-- A delimiter received makes no difference to what a request does to the loose-reply queue (R105, R180). -/
theorem loose_heard (s : State) (x : LooseReply) : (s.heard.requestLoose x).loose = (s.requestLoose x).loose := by
  rw [requestLoose_eq s s.heard x rfl]

/-! ### ACCEPT at an OPENING record (R108, R127, R128) -/

/-- The check of the agreed value, in the words of R127. -/
theorem agreedGood_iff {r : CircuitRecord} {terms : OpenTerms} (h : r.openRequest = some terms) (agreed : Nat) :
    r.agreedGood agreed = true ↔ 1 ≤ agreed ∧ agreed ≤ terms.requested := by
  unfold CircuitRecord.agreedGood
  rw [h, Bool.and_eq_true, bne_iff_ne, decide_eq_true_eq, Nat.one_le_iff_ne_zero]
  rfl

section
variable {agreed : Nat}

/-- A bad value, or a source label that a fixed record holds (R108, R127). -/
theorem acceptOpening_of_refused (h : ¬ (s.circuit c).agreedGood agreed = true ∨
    ∃ d, s.peerHolder src = some d ∧ (s.circuit d).kind = some .fixed) :
    s.acceptOpening c src agreed = s.refuseAccept c src := by
  unfold State.acceptOpening
  split
  · next hg =>
    obtain ⟨d, hd, hk⟩ := h.resolve_left (not_not_intro hg)
    rw [hd]
    exact if_pos hk
  · rfl

section
variable (hg : (s.circuit c).agreedGood agreed = true)
include hg

theorem acceptOpening_of_unheld (hp : s.peerHolder src = none) :
    s.acceptOpening c src agreed = s.openByAccept c src agreed := by
  unfold State.acceptOpening
  rw [if_pos hg, hp]

/-- A source label that a dialled record holds (R108). -/
theorem acceptOpening_of_dialled {d : CircuitNo} (hp : s.peerHolder src = some d)
    (hk : (s.circuit d).kind = some .dialled) :
    s.acceptOpening c src agreed = (s.endCircuit d Cause.stale).openByAccept c src agreed := by
  unfold State.acceptOpening
  rw [if_pos hg, hp]
  exact if_neg (by rw [hk]; simp)

end
end

/-- An ACCEPT refused: the loose CLOSE, and the record closed with cause PROTOCOL (R127). -/
theorem refuseAccept_spec (ho : (s.circuit c).state = .opening) (src : Label) :
    let t := s.refuseAccept c src
    EngineFrame c s t ∧ Dropped (s.circuit c) s t ∧
      t.circuit c = { closedRecord (s.circuit c) 0x09 0 .part false none with stale := (t.circuit c).stale } ∧
      t.loose = (s.requestLoose { body := .close 0x09 0, dst := src, src := (s.circuit c).localLabel }).loose ∧
      Raised s t (openFailedOf c (s.circuit c) 0x09 .part) := by
  unfold State.refuseAccept
  have hasked := frame_requestLoose s c (badAcceptReply src (s.circuit c).localLabel)
  rw [requestLoose_eq s s _ rfl] at hasked ⊢
  obtain ⟨hframe, hrest⟩ := enterClosed_opening
    (s := { s with loose := (s.requestLoose (badAcceptReply src (s.circuit c).localLabel)).loose }) ho Cause.protocol 0
    .part false none
  exact ⟨hasked.trans hframe, hrest⟩

/-- The record an ACCEPT opens, before the start decision (R128, log 32). -/
def CircuitRecord.acceptedBy (r : CircuitRecord) (src : Label) (agreed : Nat) : CircuitRecord :=
  { r with
    state := .opened, timer := none, retryCount := 0, note := none, peerLabel := some src
    maxSegments := some agreed, openRequest := none
    protocol := if r.protocol = some .openK then none else r.protocol
    send := { r.send with peerReady := true } }

/-- OPENED carries the originator LOCAL at the initiator (R132). -/
theorem openedEvent_initiator {r : CircuitRecord} (h : r.role = some .initiator) (c : CircuitNo) :
    r.openedEvent c = { kind := .opened, circuit := some c, originator := some .local, tag := some r.service
                        count := r.maxSegments } := by
  unfold CircuitRecord.openedEvent
  rw [if_pos h]

/-- An ACCEPT opens the record: OPENED, then the start decision with the peer ready (R128). -/
theorem openByAccept_eq (hr : (s.circuit c).role = some .initiator) (src : Label) (agreed : Nat) :
    s.openByAccept c src agreed =
      ((s.setCircuit c ((s.circuit c).acceptedBy src agreed)).raise
        { kind := .opened, circuit := some c, originator := some .local, tag := some (s.circuit c).service
          count := some agreed }).startDecision c false := by
  unfold State.openByAccept
  dsimp only
  rw [circuit_onCircuit_self, openedEvent_initiator (by exact hr)]
  rfl

/-- What the start decision of an accepted record does with the queue (R29, R30, R128). -/
theorem openByAccept_spec (hr : (s.circuit c).role = some .initiator) (hq : (s.circuit c).send.queue.Nodup)
    (src : Label) (agreed : Nat) :
    EngineFrame c s (s.openByAccept c src agreed) ∧
    HeadStarted c agreed ((s.circuit c).acceptedBy src agreed)
      [{ kind := .opened, circuit := some c, originator := some .local, tag := some (s.circuit c).service
         count := some agreed }] s (s.openByAccept c src agreed) := by
  rw [openByAccept_eq hr]
  generalize hv : s.setCircuit c ((s.circuit c).acceptedBy src agreed) = v
  generalize he : Event.mk .opened _ _ _ _ _ _ _ = e
  have hec : e.circuit = some c := by rw [← he]
  have hframe : EngineFrame c s v := hv ▸ frame_setCircuit ..
  have hraised : Raised s (v.raise e) e := by
    rw [← hv]
    exact raised_of_raise rfl rfl (stale_setCircuit s c _ rfl)
  refine ⟨(hframe.trans (frame_raise v hec)).trans (frame_startDecision ..),
    headStarted false ?_ ?_ ?_ ?_ ?_ rfl rfl hq⟩
  · obtain ⟨b, hb⟩ := raise_circuit v e c
    exact ⟨b, by rw [hb, ← hv, circuit_setCircuit_self]⟩
  · rw [raise_descriptors, ← hv]; rfl
  · rw [raise_tx, hframe.tx]
  · rw [raise_loose, ← hv]; rfl
  · exact fun hroom => hraised (Nat.le_of_succ_le_succ hroom)

/-! ### REFUSE (R130) -/

theorem exec_refuse_of_other (h : Reaches s dst c) (ho : (s.circuit c).state ≠ .opening) (cause diagnostic : Octet) :
    exec (.refuseArrival dst src cause diagnostic) s = .next s.heard := by
  show Host.Outcome.next (s.arrive _ (State.refuseAt dst cause diagnostic)) = _
  rw [arrive_of_hears h.1 rfl, State.refuseAt, h.dispatch]
  exact congrArg Host.Outcome.next (if_neg ho)

theorem exec_refuse_of_opening (h : Reaches s dst c) (ho : (s.circuit c).state = .opening) (cause diagnostic : Octet) :
    exec (.refuseArrival dst src cause diagnostic) s =
      .next (s.heard.enterClosed c cause diagnostic .peer true none) := by
  show Host.Outcome.next (s.arrive _ (State.refuseAt dst cause diagnostic)) = _
  rw [arrive_of_hears h.1 rfl, State.refuseAt, h.dispatch]
  exact congrArg Host.Outcome.next (if_pos ho)

end

/-- Settles O36: ACCEPT by what its label is bound to and by who holds its source label, and REFUSE by the state of the
record it reaches. -/
theorem acceptAndRefuseArrivalsEndTheOpening : Obligations.AcceptAndRefuseArrivalsEndTheOpening := by
  refine ⟨fun s dst src agreed hs hu hd hsrc => ?_, fun s dst src cause diagnostic c hreach =>
    ⟨fun ho => exec_refuse_of_other hreach ho .., fun ho =>
      ⟨_, exec_refuse_of_opening hreach ho .., enterClosed_opening (s := s.heard) ho ..⟩⟩⟩
  · intro row stale
    have hexec := exec_accept hs dst src agreed
    have drawn (h : State.acceptAt dst src agreed s.heard = s.heard.requestLoose (staleClose dst src)) : stale :=
      hexec.trans (congrArg Host.Outcome.next (h.trans (staleClose_heard ..)))
    refine ⟨fun hl => drawn (acceptAt_of_unbound (s := s.heard) hu hd hsrc agreed (.inl hl)),
      fun n hl => drawn (acceptAt_of_unbound (s := s.heard) hu hd hsrc agreed (.inr ⟨n, hl⟩)), fun c fixed hl =>
      ⟨fun ho => drawn (acceptAt_of_not_opening (s := s.heard) hu hd hsrc agreed hl ho), fun terms ho hterms => ?_⟩⟩
    intro good opened event
    have hat (t : State) (h : s.heard.acceptOpening c src agreed.toNat = t) : exec row s = .next t :=
      hexec.trans (congrArg _ ((acceptAt_of_opening (s := s.heard) hu hd hsrc agreed hl ho).trans h))
    have hgood : (s.circuit c).agreedGood agreed.toNat = true ↔ good := agreedGood_iff hterms _
    obtain ⟨hframe, hdrop, hclosed, hloose, hraised⟩ := refuseAccept_spec (s := s.heard) ho src
    rw [loose_heard] at hloose
    refine ⟨fun h => ⟨_, hat _ (acceptOpening_of_refused (s := s.heard) (h.imp_left (mt hgood.1))), hframe, hdrop,
        hclosed, hloose, hraised⟩,
      fun hg hp hr hq => ⟨_, hat _ (acceptOpening_of_unheld (s := s.heard) (hgood.2 hg) hp),
        openByAccept_spec (s := s.heard) hr hq src _⟩, fun d hg hp hk hpeers => ?_⟩
    obtain ⟨hended, hfree, hears, hlink, hheard⟩ := peerLabel_freed hs hpeers hp hk
    have hl' := (label_of_labels hended.frame.labels dst).trans hl
    have hc : c ≠ d := by
      rintro rfl
      have hm := peerHolder_holds hp
      rw [show (s.circuit c).state = .opening from ho] at hm
      cases hm
    have hrec : (s.heard.endCircuit d Cause.stale).circuit c = s.circuit c := hended.frame.others c hc
    refine ⟨_, hended, hfree, hears, hlink, ?_⟩
    rw [hat _ (acceptOpening_of_dialled (s := s.heard) (hgood.2 hg) hp hk), exec_accept hears, hheard,
      acceptAt_of_opening (by rw [hlink]; exact hu) hd hsrc agreed hl' (by rw [hrec]; exact ho),
      acceptOpening_of_unheld (by rw [hrec]; exact hgood.2 hg) hfree]

end Sys2Proof.Machine

/-! PROOFS. The close and rewind exchanges: the REWIND command (R142), and the arrivals of CLOSE and CLOSE-DONE (R138,
R139, R103, R104) and of REWIND and REWIND-DONE (R146 to R148). -/

namespace Sys2Proof.Machine

/-! ### The REWIND command (R142) -/

section
variable {s : State} {c : CircuitNo}

/-- The taking of REWIND on the circuit it names: every send block is in the queue after the rewind (R142). -/
theorem exec_rewindCommand (hs : Started .rewindCommand s) (hn : NamesCircuit s 0 c) :
    exec .rewindCommand s = .next
      (if (s.circuit c).state = .opened then
        (s.enterRewinding c Cause.local .local).succeed [(s.circuit c).send.blocks.length]
      else s.reject .badState) := by
  show Host.Outcome.next (s.taking .rewindCommand State.takeRewind) = _
  rw [taking_of_started hs, State.takeRewind, withCircuit_of_named hn]
  dsimp only
  rw [enterRewinding_circuit]
  rfl

/-- A circuit that enters REWINDING: its record and the descriptors it requeues alone change (R143). -/
theorem enterRewinding_spec (s : State) (c : CircuitNo) (cause : Octet) (originator : Originator) :
    let t := s.enterRewinding c cause originator
    EngineFrame c s t ∧ t.circuit c = rewindingRecord (s.circuit c) cause originator s.link.config.rewindTimer ∧
      Requeued (s.circuit c) s t ∧ t.events = s.events ∧ t.loose = s.loose :=
  ⟨frame_enterRewinding .., enterRewinding_circuit .., enterRewinding_requeued s c cause originator,
    by rw [enterRewinding_eq], by rw [enterRewinding_eq]⟩

end

/-- Settles O17: an OPEN circuit by its entry into REWINDING, and every other by the refusal. -/
theorem rewindCommandEntersRewinding : Obligations.RewindCommandEntersRewinding := by
  intro s c hs hn r
  rw [exec_rewindCommand hs hn]
  refine ⟨fun ho => ?_, fun ho => ⟨_, congrArg Host.Outcome.next (if_pos ho), ?_⟩⟩
  · rw [if_neg ho, next_reject]
  · obtain ⟨hframe, hrec, hqueued, hevents, hloose⟩ := enterRewinding_spec s c Cause.local .local
    generalize s.enterRewinding c Cause.local .local = t at *
    exact ⟨hframe.toCircuitFrame.trans (frame_finish ..), hrec, hqueued, hevents, hloose, hframe.receiver,
      hframe.freeCount, congrArg (donePort · _ _) hframe.port⟩

section
variable {s : State} {c : CircuitNo} {dst src : Label}

/-- A good frame that reaches a circuit is taken there (R103, R185). -/
theorem Reaches.arrive_dispatch (h : Reaches s dst c) {f : Frame} (hf : f.wellFormed = true)
    (bound : CircuitNo → State → State) (unbound : State → State) :
    s.arrive f (fun t => t.dispatch dst bound unbound) = bound c s.heard :=
  (arrive_of_hears h.1 hf _).trans (h.dispatch bound unbound)

/-! ### CLOSE past the Line Interface (R102 to R104) -/

theorem exec_closeFrame (hs : Hears s) (dst src : Label) (cause diagnostic : Octet) :
    exec (.closeFrameArrival dst src cause diagnostic) s =
      .next (State.closeAt dst src cause diagnostic s.heard) :=
  congrArg Host.Outcome.next (arrive_of_hears hs rfl _)

/-- The CLOSE-DONE owed loose, after the frame's closing delimiter (R105, R180). -/
theorem looseCloseDone_heard (s : State) (dst src : Label) :
    s.heard.requestLoose (looseCloseDone dst src) = { s.heard with
      loose := (s.requestLoose { body := .closeDone, dst := src, src := dst }).loose } :=
  requestLoose_eq s s.heard _ rfl

section
variable (hu : s.link.state = .up) (hd : dst ≠ 0) (hsrc : src ≠ 0) (cause diagnostic : Octet)
include hu hd hsrc

theorem closeAt_of_unbound (h : s.label dst = .free ∨ ∃ n, s.label dst = .resting n) :
    State.closeAt dst src cause diagnostic s = s.requestLoose (looseCloseDone dst src) := by
  unfold State.closeAt
  rw [if_neg hsrc]
  obtain h | ⟨n, h⟩ := h
  · exact dispatch_of_free hu hd h ..
  · exact dispatch_of_resting hu hd h ..

section
variable {fixed : Bool} (hl : s.label dst = .bound c fixed)
include hl

theorem closeAt_of_fixed (hk : (s.circuit c).kind = some .fixed) :
    State.closeAt dst src cause diagnostic s = s := by
  unfold State.closeAt
  rw [if_neg hsrc, dispatch_of_bound hu hd hl]
  exact if_pos hk

theorem closeAt_of_dialled (hk : (s.circuit c).kind = some .dialled) :
    State.closeAt dst src cause diagnostic s = s.closeDialled c dst src cause diagnostic := by
  unfold State.closeAt
  rw [if_neg hsrc, dispatch_of_bound hu hd hl]
  exact if_neg (by rw [hk]; decide)

end
end

/-! ### CLOSE at a dialled circuit (R103, R138, R139) -/

section
variable (dst src : Label) (cause diagnostic : Octet)

theorem closeDialled_of_running (ho : (s.circuit c).state = .opened ∨ (s.circuit c).state = .rewinding) :
    s.closeDialled c dst src cause diagnostic = s.enterClosed c cause diagnostic .peer true (some .closeDone) := by
  unfold State.closeDialled
  obtain ho | ho := ho <;> rw [ho]

theorem closeDialled_of_closing (ho : (s.circuit c).state = .closing) :
    s.closeDialled c dst src cause diagnostic = s.finishClosing c true (some .closeDone) := by
  unfold State.closeDialled
  rw [ho]

theorem closeDialled_of_closed (ho : (s.circuit c).state = .closed) :
    s.closeDialled c dst src cause diagnostic =
      if (s.circuit c).peerLabel = some src then s.setProtocol c (some .closeDone)
      else s.requestLoose (looseCloseDone dst src) := by
  unfold State.closeDialled
  rw [ho]
  rfl

/-- A circuit that is not yet open discards the frame (R103). -/
theorem closeDialled_of_unopened (ho : (s.circuit c).state = .opening ∨ (s.circuit c).state = .offered) :
    s.closeDialled c dst src cause diagnostic = s := by
  unfold State.closeDialled
  obtain ho | ho := ho <;> rw [ho]

end

/-- A record that enters CLOSED from a state other than OPENING: CLOSED is its event (R151). -/
theorem enterClosed_of_not_opening (ho : (s.circuit c).state ≠ .opening) (cause diagnostic : Octet)
    (originator : Originator) (confirmed : Bool) (owed : Option ProtocolKind) :
    let t := s.enterClosed c cause diagnostic originator confirmed owed
    EngineFrame c s t ∧ Dropped (s.circuit c) s t ∧
      t.circuit c = { closedRecord (s.circuit c) cause diagnostic originator confirmed owed with
        stale := (t.circuit c).stale } ∧
      t.loose = s.loose ∧
      Raised s t (closedOf c (s.circuit c) cause originator confirmed (s.circuit c).send.blocks.length) := by
  obtain ⟨hframe, hdrop, hrec, hloose, hraised⟩ := enterClosed_spec s c cause diagnostic originator confirmed owed
  rw [if_neg ho] at hraised
  exact ⟨hframe, hdrop, hrec, hloose, hraised⟩

/-- A CLOSING record that the peer's frame ends: CLOSED is raised with confirmed yes (R138, R139). -/
theorem finishClosing_confirmed {k : CloseRecord} (hk : (s.circuit c).closeRecord = some k)
    (owed : Option ProtocolKind) :
    let t := s.finishClosing c true owed
    EngineFrame c s t ∧
      t.circuit c = { closedFromClosing (s.circuit c) true owed with stale := (t.circuit c).stale } ∧
      t.descriptors = s.descriptors ∧ t.loose = s.loose ∧
      Raised s t (closedOf c (s.circuit c) k.cause k.originator true k.discarded) := by
  have hspec := finishClosing_spec s c true owed k hk
  rwa [Bool.or_true] at hspec

/-! ### CLOSE-DONE (R139) -/

theorem exec_closeDone (h : Reaches s dst c) (src : Label) :
    exec (.closeDoneArrival dst src) s =
      .next (if (s.circuit c).state = .closing then s.heard.finishClosing c true none else s.heard) :=
  congrArg Host.Outcome.next (h.arrive_dispatch rfl _ _)

/-! ### REWIND and REWIND-DONE (R103, R146 to R148) -/

theorem exec_rewindFrame (h : Reaches s dst c) (cause : Octet) :
    exec (.rewindFrameArrival dst cause) s = .next (s.heard.rewindTaken c cause) :=
  congrArg Host.Outcome.next (h.arrive_dispatch rfl _ _)

theorem exec_rewindDone (h : Reaches s dst c) :
    exec (.rewindDoneArrival dst) s = .next (s.heard.rewindDoneTaken c) :=
  congrArg Host.Outcome.next (h.arrive_dispatch rfl _ _)

theorem rewindTaken_of_opened (ho : (s.circuit c).state = .opened) (cause : Octet) :
    s.rewindTaken c cause = s.rewindInOpen c cause := by
  unfold State.rewindTaken
  rw [ho]

/-- A crossing (R147). -/
theorem rewindTaken_of_rewinding (ho : (s.circuit c).state = .rewinding) (cause : Octet) :
    s.rewindTaken c cause = s.finishRewinding c (some .rewindDone) := by
  unfold State.rewindTaken
  rw [ho]

theorem rewindTaken_of_other (ho : (s.circuit c).state ≠ .opened) (hr : (s.circuit c).state ≠ .rewinding)
    (cause : Octet) : s.rewindTaken c cause = s := by
  unfold State.rewindTaken
  split
  · next h => exact absurd h ho
  · next h => exact absurd h hr
  all_goals rfl

theorem rewindDoneTaken_of_rewinding (ho : (s.circuit c).state = .rewinding) :
    s.rewindDoneTaken c =
      s.finishRewinding c (if (s.circuit c).protocol = some .rewind then none else (s.circuit c).protocol) := if_pos ho

theorem rewindDoneTaken_of_other (ho : (s.circuit c).state ≠ .rewinding) : s.rewindDoneTaken c = s := if_neg ho

end

/-- Settles O37: CLOSE by what its label is bound to and by the state of a dialled record, and CLOSE-DONE by whether the
record is CLOSING. -/
theorem closeArrivalsEndTheCircuit : Obligations.CloseArrivalsEndTheCircuit := by
  refine ⟨fun s dst src cause diagnostic hs hu hd hsrc => ?_, fun s dst src c hreach =>
    ⟨fun ho => ?_, fun k ho hk => ?_⟩⟩
  · intro row loose
    have hexec  := exec_closeFrame hs dst src cause diagnostic
    have drawn (h : State.closeAt dst src cause diagnostic s.heard = s.heard.requestLoose (looseCloseDone dst src)) :
        loose := hexec.trans (congrArg Host.Outcome.next (h.trans (looseCloseDone_heard ..)))
    refine ⟨fun hl => drawn (closeAt_of_unbound (s := s.heard) hu hd hsrc _ _ (.inl hl)),
      fun n hl => drawn (closeAt_of_unbound (s := s.heard) hu hd hsrc _ _ (.inr ⟨n, hl⟩)), fun c fixed hl => ?_⟩
    intro r closes
    refine ⟨fun hk => hexec.trans (congrArg _ (closeAt_of_fixed (s := s.heard) hu hd hsrc _ _ hl hk)), fun hk => ?_⟩
    have hat := closeAt_of_dialled (s := s.heard) hu hd hsrc cause diagnostic hl hk
    have leaves {t : State} (h : s.heard.closeDialled c dst src cause diagnostic = t) : exec row s = .next t :=
      hexec.trans (congrArg _ (hat.trans h))
    refine ⟨fun ho => ?_, fun k ho hc => ?_, fun ho hp => ?_, fun ho hp => ?_, fun ho => ?_⟩
    · have hopening : r.state ≠ .opening := by obtain ho | ho := ho <;> rw [ho] <;> decide
      obtain ⟨hframe, hdrop, hrec, hloose, hraised⟩ :=
        enterClosed_of_not_opening (s := s.heard) hopening cause diagnostic .peer true (some .closeDone)
      exact ⟨_, hdrop, leaves (closeDialled_of_running (s := s.heard) _ _ _ _ ho), hframe, hrec, hloose, hraised⟩
    · obtain ⟨hframe, hrec, hdescriptors, hloose, hraised⟩ :=
        finishClosing_confirmed (s := s.heard) hc (some .closeDone)
      exact ⟨_, hdescriptors, leaves (closeDialled_of_closing (s := s.heard) _ _ _ _ ho), hframe, hrec, hloose,
        hraised⟩
    · exact leaves ((closeDialled_of_closed (s := s.heard) _ _ _ _ ho).trans (if_pos hp))
    · exact drawn (hat.trans ((closeDialled_of_closed (s := s.heard) _ _ _ _ ho).trans (if_neg hp)))
    · exact leaves (closeDialled_of_unopened (s := s.heard) _ _ _ _ ho)
  · rw [exec_closeDone hreach, if_neg ho]
  · exact ⟨_, (exec_closeDone hreach src).trans (congrArg _ (if_pos ho)),
      finishClosing_confirmed (s := s.heard) hk none⟩

/-- Settles O38: REWIND and REWIND-DONE by the state of the record they reach. -/
theorem rewindArrivalsResetTheTransfer : Obligations.RewindArrivalsResetTheTransfer := by
  intro s dst cause c hreach r reopened
  have hrewind := exec_rewindFrame hreach cause
  have hdone := exec_rewindDone hreach
  refine ⟨fun ho hr => ?_, fun ho => ?_, fun hr => ?_, fun note hr hn hp => ?_⟩
  · exact hrewind.trans (congrArg _ (rewindTaken_of_other (s := s.heard) ho hr cause))
  · exact ⟨_, hrewind.trans (congrArg _ (rewindTaken_of_opened (s := s.heard) ho cause)),
      rewindInOpen_spec s.heard c cause⟩
  · exact hdone.trans (congrArg _ (rewindDoneTaken_of_other (s := s.heard) hr))
  · have back {row : Instr} {owed : Option ProtocolKind} (h : exec row s = .next (s.heard.finishRewinding c owed)) :
        reopened row note owed := ⟨_, h, finishRewinding_spec s.heard c owed note hn hp⟩
    exact ⟨back (hrewind.trans (congrArg _ (rewindTaken_of_rewinding (s := s.heard) hr cause))),
      back (hdone.trans (congrArg _ (rewindDoneTaken_of_rewinding (s := s.heard) hr)))⟩

end Sys2Proof.Machine

/-! PROOFS. The command SET-LINK (R155), and the expiries of the link timer (R158) and of a rest time (R97). -/

namespace Sys2Proof.Machine

section
variable {s : State}

/-! ### SET-LINK (R155) -/

theorem within_iff (v lo hi : Nat) : within v lo hi = true ↔ lo ≤ v ∧ v ≤ hi := by simp [within]

theorem timeWithin_iff (v lo hi : Nat) : timeWithin v lo hi = true ↔ lo ≤ v ∧ v ≤ hi ∧ v % 10 = 0 := by
  simp [timeWithin, within_iff, and_assoc]

section
variable (g : LinkConfig) (v1 v2 v3 v4 v5 : Nat)

/-- Group 0 in the ranges of its table (R155). -/
theorem setConfigGroup0_eq : setConfigGroup0 g v1 v2 v3 v4 v5 =
    if v1 ≤ 65535 ∧ (1 ≤ v2 ∧ v2 ≤ 64) ∧ (100 ≤ v3 ∧ v3 ≤ 10000 ∧ v3 % 10 = 0) ∧
        (100 ≤ v4 ∧ v4 ≤ 10000 ∧ v4 % 10 = 0) ∧ v5 ≤ 512 then
      some { g with identity := BitVec.ofNat 16 v1, offered := v2, startInterval := v3, stopTimer := v4, reserve := v5 }
    else none := by
  simp only [setConfigGroup0, Bool.and_eq_true, within_iff, timeWithin_iff, Nat.zero_le, true_and, and_assoc]

/-- Group 1 in the ranges of its table (R155). -/
theorem setConfigGroup1_eq : setConfigGroup1 g v1 v2 v3 v4 v5 =
    if (500 ≤ v1 ∧ v1 ≤ 60000 ∧ v1 % 10 = 0) ∧ (100 ≤ v2 ∧ v2 ≤ 60000 ∧ v2 % 10 = 0) ∧
        (50 ≤ v3 ∧ v3 ≤ 5000 ∧ v3 % 10 = 0) ∧ (1 ≤ v4 ∧ v4 ≤ 7) ∧ (100 ≤ v5 ∧ v5 ≤ 10000 ∧ v5 % 10 = 0) then
      some { g with openTimer := v1, offerTimer := v2, statusTimer := v3, pollLimit := v4, probeInterval := v5 }
    else none := by
  simp only [setConfigGroup1, Bool.and_eq_true, within_iff, timeWithin_iff, and_assoc]

/-- Group 2 in the ranges of its table (R155). -/
theorem setConfigGroup2_eq : setConfigGroup2 g v1 v2 v3 v4 v5 =
    if (100 ≤ v1 ∧ v1 ≤ 10000 ∧ v1 % 10 = 0) ∧ v2 ≤ 7 ∧ (100 ≤ v3 ∧ v3 ≤ 10000 ∧ v3 % 10 = 0) ∧ v4 ≤ 7 ∧
        (0 ≤ v5 ∧ v5 ≤ 60000 ∧ v5 % 10 = 0) then
      some { g with closeTimer := v1, closeRetries := v2, rewindTimer := v3, rewindRetries := v4, restTime := v5 }
    else none := by
  simp only [setConfigGroup2, Bool.and_eq_true, within_iff, timeWithin_iff, Nat.zero_le, true_and, and_assoc]

end

theorem exec_setLink (hs : Started .setLink s) : exec .setLink s = .next s.takeSetLink :=
  congrArg Host.Outcome.next (taking_of_started hs _)

theorem takeSetLink_of_no_group (h : 2 < s.param 0) : s.takeSetLink = s.reject .badParam := if_pos h

theorem takeSetLink_of_not_down (h : s.param 0 ≤ 2) (hd : s.link.state ≠ .down) :
    s.takeSetLink = s.reject .badState := by
  unfold State.takeSetLink
  rw [if_neg (Nat.not_lt.2 h), if_pos hd]

/-- In DOWN a group in its ranges replaces the one the link had, and any other is refused (R155). -/
theorem takeSetLink_of_down (h : s.param 0 ≤ 2) (hd : s.link.state = .down) {good : Prop} [Decidable good]
    {g : LinkConfig}
    (hg : setConfigGroup s.link.config (s.param 0) (s.param 1) (s.param 2) (s.param 3) (s.param 4) (s.param 5) =
      if good then some g else none) :
    (good → s.takeSetLink = { s with link := { s.link with config := g } }.succeed []) ∧
      (¬ good → s.takeSetLink = s.reject .badParam) := by
  unfold State.takeSetLink
  rw [if_neg (Nat.not_lt.2 h), if_neg (not_not_intro hd), hg]
  exact ⟨fun k => by rw [if_pos k]; rfl, fun k => by rw [if_neg k]⟩

end

/-- Settles O8: the checks of SET-LINK in their order, group by group. -/
theorem setLinkReplacesAWholeGroup : Obligations.SetLinkReplacesAWholeGroup := by
  intro s hs time good0 good1 good2 sets
  have hexec := exec_setLink hs
  refine ⟨fun h => ?_, fun h hd => ?_, fun hd => ?_⟩
  · rw [hexec, takeSetLink_of_no_group h, next_reject]
  · rw [hexec, takeSetLink_of_not_down h hd, next_reject]
  · have group0 (h : s.param 0 = 0) := takeSetLink_of_down (by omega) hd (by rw [h]; exact setConfigGroup0_eq ..)
    have group1 (h : s.param 0 = 1) := takeSetLink_of_down (by omega) hd (by rw [h]; exact setConfigGroup1_eq ..)
    have group2 (h : s.param 0 = 2) := takeSetLink_of_down (by omega) hd (by rw [h]; exact setConfigGroup2_eq ..)
    refine ⟨fun h hg => hexec.trans (congrArg _ ((group0 h).1 hg)),
      fun h hg => hexec.trans (congrArg _ ((group1 h).1 hg)),
      fun h hg => hexec.trans (congrArg _ ((group2 h).1 hg)), fun h => hexec.trans (congrArg _ ?_)⟩
    obtain ⟨h, hg⟩ | ⟨h, hg⟩ | ⟨h, hg⟩ := h
    · exact (group0 h).2 hg
    · exact (group1 h).2 hg
    · exact (group2 h).2 hg

section
variable {s : State}

/-! ### Expiries (R97, R158) -/

theorem expireLink_of_runs {purpose : LinkPurpose} {ms : Nat} (h : s.link.timer = some { purpose, remaining := ms })
    (owner : State → State) : s.expireLink purpose owner = owner (s.onLink fun l => { l with timer := none }) := by
  unfold State.expireLink
  rw [h]
  exact if_pos (by simp)

/-- The START expiry in STARTING (R158). -/
theorem startExpired_of_starting (h : s.link.state = .starting) :
    s.startExpired = { s with link := { s.link with
      pending := some .linkStart, timer := some { purpose := .start, remaining := s.link.config.startInterval } } } :=
  if_pos h

/-- The STOP expiry in STOPPING (R158, R169). -/
theorem stopExpired_of_stopping (h : s.link.state = .stopping) :
    s.stopExpired = { s with link := s.link.downed } := if_pos h

theorem restExpired_of_resting {l : Label} {ms : Nat} (hl : l ≠ 0) (h : s.label l = .resting ms) :
    s.restExpired l = { s with labels := s.labels.set (labelIndex l).val .free } := by
  unfold State.restExpired
  rw [h]
  exact if_neg hl

end

/-- Settles O49: the timer becomes empty and its owner acts. -/
theorem linkTimersAndRestTimesExpire : Obligations.LinkTimersAndRestTimesExpire := by
  intro s ms
  refine ⟨fun ht hl => congrArg Host.Outcome.next ?_, fun ht hl => congrArg Host.Outcome.next ?_,
    fun l hl h => congrArg Host.Outcome.next (restExpired_of_resting hl h)⟩
  · exact (expireLink_of_runs ht _).trans (startExpired_of_starting hl)
  · exact (expireLink_of_runs ht _).trans (stopExpired_of_stopping hl)

end Sys2Proof.Machine

/-! PROOFS. The commands READ-LINK (R174) and READ-CIRCUIT (R18, R19): the values of their views. -/

namespace Sys2Proof.Machine

section
variable {s : State} {c : CircuitNo}

/-! ### READ-LINK (R174) -/

theorem exec_readLink (hs : Started .readLink s) : exec .readLink s = .next s.takeReadLink :=
  congrArg Host.Outcome.next (taking_of_started hs _)

/-- A view number above 3 names none (R174). -/
theorem takeReadLink_of_no_view (h : 3 < s.param 0) : s.takeReadLink = s.reject .badParam := by
  unfold State.takeReadLink
  split
  iterate 4 omega
  rfl

/-! ### The values of the views (R19, R211) -/

/-- The length of absent opening data reads as 0 (R19, R214). -/
theorem codeOf_dataLength (terms : Option OpenTerms) :
    codeOf (List.length ∘ OpenTerms.data) terms = ((terms.map OpenTerms.data).getD []).length := by cases terms <;> rfl

/-- Without an active block the poll count reads as 0 (R19). -/
theorem codeOf_pollCount (x : SendContext) :
    codeOf (fun _ => x.pollCount) x.active = if x.active.isSome then x.pollCount else 0 := by
  cases x.active <;> rfl

/-- Four octets stand in one result register, the first in octet 0 (R211). -/
theorem packOctets_eq (octets : List Octet) : packOctets octets = (List.range 4).map (fun k =>
    (octets.getD (4 * k) 0).toNat + 256 * (octets.getD (4 * k + 1) 0).toNat +
      65536 * (octets.getD (4 * k + 2) 0).toNat + 16777216 * (octets.getD (4 * k + 3) 0).toNat) := by
  refine List.map_congr_left fun k _ => ?_
  simp only [List.range_succ, List.range_zero, List.map_append, List.map_cons, List.map_nil, List.sum_append,
    List.sum_cons, List.sum_nil, List.nil_append, Nat.add_zero]
  omega

theorem assemblySlots_length (s : State) (c : CircuitNo) : (s.assemblySlots c).length =
    codeOf (fun d => (s.descriptor d).slots.length) (s.circuit c).recv.assembly := by
  cases h : (s.circuit c).recv.assembly with
  | none => rw [assemblySlots_of_none h]; rfl
  | some d => rw [assemblySlots_of_some h]; rfl

/-- A FREE record reads as zero but for its stale flag (R18). -/
theorem circuitView_of_free (h : (s.circuit c).state = .free) (view : Nat) : s.circuitView c view =
    if view = 0 then [0, 0, 0, 0, 0, 0, flagCode (s.circuit c).stale, 0] else [] := if_pos h

/-- The views of a record in use (R19). -/
theorem circuitView_of_used (h : (s.circuit c).state ≠ .free) :
    s.circuitView c 0 = (s.circuit c).overview ∧ s.circuitView c 1 = (s.circuit c).parameters ∧
      s.circuitView c 2 = (s.circuit c).send.view ∧ s.circuitView c 3 = s.receiveView c ∧
      s.circuitView c 4 = (s.circuit c).closeView ∧ s.circuitView c 5 = (s.circuit c).dataView :=
  ⟨if_neg h, if_neg h, if_neg h, if_neg h, if_neg h, if_neg h⟩

/-! ### The taking of READ-CIRCUIT (R18) -/

section
variable (hs : Started .readCircuit s) (hc : s.param 0 = c.val)
include hs hc

theorem exec_readCircuit : exec .readCircuit s = .next
    (if 5 < s.param 1 then s.reject .badParam
     else if s.param 1 = 0 then (s.clearStale c).succeed (s.circuitView c 0)
     else s.succeed (s.circuitView c (s.param 1))) := by
  have hlt : s.param 0 < 64 := hc ▸ c.isLt
  obtain rfl : (⟨s.param 0, hlt⟩ : CircuitNo) = c := Fin.ext hc
  refine congrArg Host.Outcome.next ((taking_of_started hs _).trans ?_)
  exact dif_pos hlt

theorem exec_readCircuit_of_no_view (h : 5 < s.param 1) : exec .readCircuit s = refusedWith s .badParam := by
  rw [exec_readCircuit hs hc, if_pos h, next_reject]

/-- View 0 reports the stale flag and clears it (R17, R18). -/
theorem exec_readCircuit_overview (h : s.param 1 = 0) : exec .readCircuit s =
    answers { s with circuits := s.circuits.set c.val { s.circuit c with stale := false } } (s.circuitView c 0) := by
  rw [exec_readCircuit hs hc, if_neg (by omega), if_pos h, next_succeed]
  rfl

/-- The other views change nothing (R18). -/
theorem exec_readCircuit_view (h1 : 1 ≤ s.param 1) (h5 : s.param 1 ≤ 5) :
    exec .readCircuit s = answers s (s.circuitView c (s.param 1)) := by
  rw [exec_readCircuit hs hc, if_neg (Nat.not_lt.2 h5), if_neg (Nat.one_le_iff_ne_zero.1 h1), next_succeed]

end
end

/-- Settles O9: each view of READ-LINK and of READ-CIRCUIT is the list of its values. -/
theorem readLinkAndReadCircuitReportTheirViews : Obligations.ReadLinkAndReadCircuitReportTheirViews := by
  constructor
  · intro s hs g
    refine ⟨?_, ?_, ?_, ?_, fun h => ?_⟩
    iterate 4 exact fun h => by rw [exec_readLink hs, State.takeReadLink, h]; rfl
    rw [exec_readLink hs, takeReadLink_of_no_view h, next_reject]
  · intro s c hs hc r terms octets cleared reads
    refine ⟨exec_readCircuit_of_no_view hs hc, fun hfree => ⟨fun h => ?_, fun h1 h5 => ?_⟩, fun hused => ?_⟩
    · rw [exec_readCircuit_overview hs hc h, circuitView_of_free hfree, if_pos rfl]
    · rw [exec_readCircuit_view hs hc h1 h5, circuitView_of_free hfree, if_neg (Nat.one_le_iff_ne_zero.1 h1)]
    have view {k : Nat} {values : List Nat} (h1 : 1 ≤ k) (h5 : k ≤ 5) (hv : s.circuitView c k = values) :
        reads k values := fun h => by
      rw [exec_readCircuit_view hs hc (by omega) (by omega), h, hv]
    obtain ⟨hoverview, hparameters, hsend, hreceive, hclose, hdata⟩ := circuitView_of_used hused
    refine ⟨fun h => ?_, view (by decide) (by decide) ?_, view (by decide) (by decide) ?_,
      view (by decide) (by decide) ?_, view (by decide) (by decide) hclose, view (by decide) (by decide) ?_⟩
    · rw [exec_readCircuit_overview hs hc h, hoverview]
      rfl
    · rw [hparameters, ← codeOf_dataLength]
      rfl
    · rw [hsend, ← codeOf_pollCount]
      rfl
    · rw [hreceive, ← assemblySlots_length]
      rfl
    · rw [hdata, ← codeOf_dataLength, ← packOctets_eq]
      rfl

end Sys2Proof.Machine

/-! PROOFS. The commands that define fixed circuits: FIX (R100, R108, R172) and UNFIX (R173). -/

namespace Sys2Proof.Machine

section
variable {s : State} {c : CircuitNo}

/-! ### FIX (R172) -/

theorem exec_fix (hs : Started .fix s) : exec .fix s = .next s.takeFix :=
  congrArg Host.Outcome.next (taking_of_started hs _)

theorem labelOf_of_range {value : Nat} (h : ¬ (value = 0 ∨ 255 < value)) :
    labelOf value = some (BitVec.ofNat 8 value) :=
  if_neg h

/-- FIX with a field that fails its check, the link not yet looked at (R172 checks 1 and 2). -/
theorem takeFix_of_bad
    (h : (s.param 1 = 0 ∨ 255 < s.param 1 ∨ s.param 2 = 0 ∨ 65535 < s.param 2 ∨ 64 < s.param 3) ∨
      limitsOf (s.param 5) (s.param 6) (s.param 4) true = none) : s.takeFix = s.reject .badParam := by
  unfold State.takeFix
  split
  · next peer service hpeer hservice =>
    split
    · rfl
    · next hsegments =>
      split
      · rfl
      · next limits hlimits =>
        have hp : ¬ (s.param 1 = 0 ∨ 255 < s.param 1) := fun k => by simp [labelOf, k] at hpeer
        have hr : ¬ (s.param 2 = 0 ∨ 65535 < s.param 2) := fun k => by simp [serviceOf_of_outside k] at hservice
        rw [hlimits] at h
        simp only [reduceCtorEq, or_false] at h
        omega
  · rfl

/-- FIX with good fields goes on to the link (R172 check 3). -/
theorem takeFix_of_good {limits : Limits}
    (h : ¬ (s.param 1 = 0 ∨ 255 < s.param 1 ∨ s.param 2 = 0 ∨ 65535 < s.param 2 ∨ 64 < s.param 3))
    (hl : limitsOf (s.param 5) (s.param 6) (s.param 4) true = some limits) :
    s.takeFix = s.fixCircuit (BitVec.ofNat 8 (s.param 1)) (BitVec.ofNat 16 (s.param 2))
      (if s.param 3 = 0 then 64 else s.param 3) limits := by
  unfold State.takeFix
  rw [labelOf_of_range (by omega), serviceOf_of_range (by omega) (by omega)]
  dsimp only
  rw [if_neg (by omega), hl]
  rfl

/-- A label out of its range, or in use, is none that FIX binds (R100). -/
theorem fixLabel_eq_none {value : Nat}
    (h : value = 0 ∨ 255 < value ∨ s.label (BitVec.ofNat 8 value) ≠ .free) : s.fixLabel value = none := by
  unfold State.fixLabel
  by_cases hr : value = 0 ∨ 255 < value
  · rw [labelOf, if_pos hr]
    rfl
  · rw [labelOf_of_range hr]
    exact if_neg fun hfree => h.elim (hr ∘ .inl) fun h => h.elim (hr ∘ .inr) (· hfree)

theorem fixLabel_eq_some {value : Nat}
    (h : ¬ (value = 0 ∨ 255 < value ∨ s.label (BitVec.ofNat 8 value) ≠ .free)) :
    s.fixLabel value = some (BitVec.ofNat 8 value) := by
  unfold State.fixLabel
  obtain ⟨hzero, hrest⟩ := not_or.1 h
  obtain ⟨hhigh, hused⟩ := not_or.1 hrest
  rw [labelOf_of_range (not_or.2 ⟨hzero, hhigh⟩)]
  exact if_pos (Decidable.not_not.1 hused)

/-- A DORMANT fixed record holds the peer label (R108). -/
theorem dormantHolder_iff (s : State) (peer : Label) : s.dormantHolder peer = true ↔
    ∃ d, (s.circuit d).kind = some .fixed ∧ (s.circuit d).state = .dormant ∧ (s.circuit d).peerLabel = some peer := by
  simp only [State.dormantHolder, List.any_eq_true, Vector.mem_toList_iff, Vector.mem_iff_getElem, Bool.and_eq_true,
    decide_eq_true_eq, and_assoc]
  exact ⟨fun ⟨_, ⟨i, hi, hr⟩, h⟩ => ⟨⟨i, hi⟩, by subst hr; exact h⟩, fun ⟨d, h⟩ => ⟨_, ⟨d.val, d.isLt, rfl⟩, h⟩⟩

section
variable {peer : Label} {service : Word} {maximum : Nat} {limits : Limits}

theorem fixCircuit_of_not_down (h : s.link.state ≠ .down) :
    s.fixCircuit peer service maximum limits = s.reject .badState := if_pos h

section
variable (hd : s.link.state = .down)
include hd

/-- A label that cannot be bound, or a peer label already defined (R172 checks 4 and 5). -/
theorem fixCircuit_of_bad
    (h : (s.param 0 = 0 ∨ 255 < s.param 0 ∨ s.label (BitVec.ofNat 8 (s.param 0)) ≠ .free) ∨
      s.dormantHolder peer = true) :
    s.fixCircuit peer service maximum limits = s.reject .badParam := by
  unfold State.fixCircuit
  rw [if_neg (not_not_intro hd)]
  split
  · rfl
  · next l hl =>
    refine if_pos (h.resolve_left fun k => ?_)
    rw [fixLabel_eq_none k] at hl
    cases hl

section
variable (hl : ¬ (s.param 0 = 0 ∨ 255 < s.param 0 ∨ s.label (BitVec.ofNat 8 (s.param 0)) ≠ .free))
  (hn : ¬ s.dormantHolder peer = true)
include hl hn

theorem fixCircuit_of_no_slot (hc : s.lowestFreeCircuit = none) :
    s.fixCircuit peer service maximum limits = s.reject .noSlot := by
  unfold State.fixCircuit
  rw [if_neg (not_not_intro hd), fixLabel_eq_some hl]
  dsimp only
  rw [if_neg hn, hc]

/-- With a FREE record the DORMANT record is created and its label bound (R172). -/
theorem fixCircuit_of_room (hc : s.lowestFreeCircuit = some c) :
    s.fixCircuit peer service maximum limits =
      ((s.setLabel (BitVec.ofNat 8 (s.param 0)) (.bound c true)).setCircuit c
        (fixedRecord (BitVec.ofNat 8 (s.param 0)) peer service limits maximum (s.circuit c).stale)).succeed [c.val] := by
  unfold State.fixCircuit
  rw [if_neg (not_not_intro hd), fixLabel_eq_some hl]
  dsimp only
  rw [if_neg hn, hc]

end
end
end

/-- A label bound to a fixed circuit (R96). -/
theorem setLabel_of_ne {l : Label} (hl : l ≠ 0) (e : LabelEntry) :
    s.setLabel l e = { s with labels := s.labels.set (labelIndex l).val e } := if_neg hl

/-! ### UNFIX (R173) -/

theorem exec_unfix (hs : Started .unfix s) (hn : NamesCircuit s 0 c) : exec .unfix s = .next
    (if (s.circuit c).state = .dormant then
      (s.toClosed c Cause.local 0 .local false none).succeed [s.discardCount c]
    else s.reject .badState) :=
  congrArg Host.Outcome.next ((taking_of_started hs _).trans (withCircuit_of_named hn _))

/-- A record in CLOSED with no event: its blocks are freed, and nothing else changes but the record (R9, R12). -/
theorem toClosed_spec (s : State) (c : CircuitNo) (cause diagnostic : Octet) (originator : Originator)
    (confirmed : Bool) (owed : Option ProtocolKind) :
    let t := s.toClosed c cause diagnostic originator confirmed owed
    EngineFrame c s t ∧ t.circuit c = closedRecord (s.circuit c) cause diagnostic originator confirmed owed ∧
      Dropped (s.circuit c) s t ∧ t.events = s.events ∧ t.loose = s.loose := by
  refine ⟨frame_toClosed .., toClosed_circuit .., fun d => ?_, by rw [toClosed_eq], by rw [toClosed_eq]⟩
  rw [toClosed_descriptor]
  exact ⟨fun h => if_pos h, fun h => if_neg h⟩

end

/-- Settles O19: the checks of FIX in their order and the record it creates, and UNFIX by the record's state. -/
theorem fixAndUnfixKeepTheDefinitions : Obligations.FixAndUnfixKeepTheDefinitions := by
  constructor
  · intro s hs badFields checked peer l badLabel held maximum
    have hexec := exec_fix hs
    refine ⟨fun h => ?_, fun limits hgood hlimits => ?_⟩
    · rw [hexec, takeFix_of_bad h, next_reject]
    rw [takeFix_of_good hgood hlimits] at hexec
    have hheld : s.dormantHolder peer = true ↔ held := dormantHolder_iff s peer
    refine ⟨fun hd => ?_, fun hd => ⟨fun h => ?_, fun hl hn hc => ?_, fun hl hn c hc => ?_⟩⟩
    · rw [hexec, fixCircuit_of_not_down hd, next_reject]
    · rw [hexec, fixCircuit_of_bad hd (h.imp_right hheld.2), next_reject]
    · rw [hexec, fixCircuit_of_no_slot hd hl (mt hheld.1 hn) hc, next_reject]
    · have hlabel : l ≠ 0 := (fixLabel_spec (fixLabel_eq_some hl)).1
      rw [hexec, fixCircuit_of_room hd hl (mt hheld.1 hn) hc, setLabel_of_ne hlabel]
      rfl
  · intro s c hs hn r
    have hexec := exec_unfix hs hn
    refine ⟨fun h => ?_, fun h => ?_⟩
    · rw [hexec, if_neg h, next_reject]
    · rw [if_pos h] at hexec
      obtain ⟨hframe, hrec, hdrop, hevents, hloose⟩ := toClosed_spec s c Cause.local 0 .local false none
      generalize s.toClosed c Cause.local 0 .local false none = u at hexec hframe hrec hdrop hevents hloose
      exact ⟨_, hexec, hframe.toCircuitFrame.trans (frame_finish ..), hrec, hdrop, hevents, hloose, hframe.receiver,
        hframe.freeCount, congrArg (donePort · _ _) hframe.port⟩

end Sys2Proof.Machine

/-! PROOFS. The frames a transmission start builds from their owners (R106, R116, R119, R136, R144, R157, R33, R42, R45,
R66, R67). -/

namespace Sys2Proof.Machine

section
variable {s : State} {c : CircuitNo}

/-- The number whose binary digits are the indices below n that p picks. -/
def bitSum (p : Nat → Bool) (n : Nat) : Nat := (((List.range n).filter p).map (2 ^ ·)).sum

/-- One more index adds its power of two, where p picks it. -/
theorem bitSum_succ (p : Nat → Bool) (n : Nat) :
    bitSum p (n + 1) = bitSum p n + if p n = true then 2 ^ n else 0 := by
  unfold bitSum
  rw [List.range_succ, List.filter_append, List.map_append, List.sum_append]
  by_cases hp : p n = true
  · simp [hp]
  · simp [hp]

theorem bitSum_lt (p : Nat → Bool) (n : Nat) : bitSum p n < 2 ^ n := by
  induction n with
  | zero => exact Nat.one_pos
  | succ n ih =>
    rw [bitSum_succ, Nat.pow_succ]
    split <;> omega

theorem testBit_bitSum (p : Nat → Bool) (n i : Nat) : (bitSum p n).testBit i = true ↔ i < n ∧ p i = true := by
  induction n with
  | zero => simp [bitSum]
  | succ n ih =>
    rw [bitSum_succ]
    by_cases hp : p n = true
    · have hor : bitSum p n + 2 ^ n = 2 ^ n ||| bitSum p n := by
        simpa [Nat.add_comm] using Nat.two_pow_add_eq_or_of_lt (bitSum_lt p n) 1
      rw [if_pos hp, hor, Nat.testBit_or, Bool.or_eq_true, Nat.testBit_two_pow, decide_eq_true_eq, ih,
        Nat.lt_succ_iff_lt_or_eq]
      constructor
      · rintro (rfl | ⟨hi, hpi⟩)
        · exact ⟨.inr rfl, hp⟩
        · exact ⟨.inl hi, hpi⟩
      · rintro ⟨hi | rfl, hpi⟩
        · exact .inr ⟨hi, hpi⟩
        · exact .inl rfl
    · have hne : p i = true → i ≠ n := fun hpi hin => hp (hin ▸ hpi)
      rw [if_neg hp, Nat.add_zero, ih]
      exact and_congr_left fun hpi => by have := hne hpi; omega

/-- The missing map of a block of n segments: the indices below n that no filled slot has (R66). -/
theorem missingMap_getLsbD (s : State) (c : CircuitNo) {n : Nat} (hn : n ≤ 64) (i : Nat) :
    (s.missingMap c n).getLsbD i = true ↔ i < n ∧ ∀ y ∈ s.assemblySlots c, y.index ≠ i := by
  have hmissing : (!s.hasSegment c i) = true ↔ ∀ y ∈ s.assemblySlots c, y.index ≠ i := by
    rw [Bool.not_eq_true', ← Bool.not_eq_true, hasSegment_iff]
    simp
  have hbits : s.missingMap c n = BitVec.ofNat 64 (bitSum (fun i => !s.hasSegment c i) n) := rfl
  rw [hbits, BitVec.getLsbD_ofNat, Bool.and_eq_true, decide_eq_true_eq, testBit_bitSum, hmissing]
  exact and_iff_right_of_imp fun h => Nat.lt_of_lt_of_le h.1 hn

/-- Frames to a peer carry its label as their destination (R4). -/
theorem destination_of_some {r : CircuitRecord} {peer : Label} (h : r.peerLabel = some peer) : r.destination = peer := by
  unfold CircuitRecord.destination
  rw [h]
  rfl

section
variable {r : CircuitRecord} {peer : Label} (hp : r.peerLabel = some peer)
include hp

/-- The frames of the protocol class that go to a peer (R119, R136, R144). -/
theorem protocolFrame_of_peer :
    (∀ n, r.maxSegments = some n → r.protocolFrame .accept = .accept peer r.localLabel (BitVec.ofNat 8 n)) ∧
    (∀ k, r.closeRecord = some k → r.protocolFrame .close = .close peer r.localLabel k.cause k.diagnostic) ∧
    r.protocolFrame .closeDone = .closeDone peer r.localLabel ∧
    (∀ note, r.note = some note → r.protocolFrame .rewind = .rewind peer note.cause) ∧
    r.protocolFrame .rewindDone = .rewindDone peer := by
  unfold CircuitRecord.protocolFrame
  rw [destination_of_some hp]
  exact ⟨fun n hn => by rw [hn]; rfl, fun k hk => by rw [hk]; rfl, rfl, fun note hn => by rw [hn]; rfl, rfl⟩

/-- The frames of the transfer class (R33, R42, R45). -/
theorem transferFrame_of_peer :
    (∀ a, r.send.active = some a →
      r.transferFrame .blockEnd = .blockEnd peer a.number (BitVec.ofNat 8 a.count) ∧
      r.transferFrame .blockAbandon = .blockAbandon peer a.number) ∧
    r.transferFrame .probe = .probe peer := by
  unfold CircuitRecord.transferFrame
  rw [destination_of_some hp]
  exact ⟨fun a ha => by rw [ha]; exact ⟨rfl, rfl⟩, rfl⟩

end

section
variable {peer : Label} (hp : (s.circuit c).peerLabel = some peer)
include hp

theorem answerFrame_ready : s.answerFrame c .ready = .ready peer (s.circuit c).readyFlag := by
  unfold State.answerFrame
  rw [destination_of_some hp]

/-- With no announced count the status is that of the block before E (R66). -/
theorem answerFrame_decided (ha : (s.circuit c).recv.announced = none) :
    s.answerFrame c .blockStatus =
      .blockStatus peer ((s.circuit c).recv.expected - 1) (s.circuit c).recv.lastOutcome.status
        (s.circuit c).readyFlag := by
  unfold State.answerFrame
  rw [destination_of_some hp, ha]

/-- With an announced count the status names the segments of block E that are missing (R66). -/
theorem answerFrame_missing {n : Nat} (ha : (s.circuit c).recv.announced = some n) :
    s.answerFrame c .blockStatus =
      .blockStatus peer (s.circuit c).recv.expected (.missing (s.missingMap c n)) (s.circuit c).readyFlag := by
  unfold State.answerFrame
  rw [destination_of_some hp, ha]

end

/-- A loose reply's frame by its kind (R106). -/
theorem looseFrame_of_body (x : LooseReply) (cause diagnostic : Octet) :
    (x.body = .refuse cause diagnostic → x.frame = .refuse x.dst x.src cause diagnostic) ∧
    (x.body = .close cause diagnostic → x.frame = .close x.dst x.src cause diagnostic) ∧
    (x.body = .closeDone → x.frame = .closeDone x.dst x.src) := by
  unfold LooseReply.frame
  exact ⟨fun h => by rw [h], fun h => by rw [h], fun h => by rw [h]⟩

end

/-- Settles O51: the link's frames, the loose replies, and the frames of a record's three classes. -/
theorem framesAreBuiltFromTheirOwners : Obligations.FramesAreBuiltFromTheirOwners := by
  intro s c peer hp r ready
  obtain ⟨haccept, hclose, hcloseDone, hrewind, hrewindDone⟩ := protocolFrame_of_peer hp
  obtain ⟨hactive, hprobe⟩ := transferFrame_of_peer hp
  refine ⟨rfl, rfl, fun _ => rfl, looseFrame_of_body, fun q terms hq => ?_, haccept, hclose, hcloseDone, hrewind,
    hrewindDone, hactive, hprobe, answerFrame_ready hp, fun ha ho => ?_, fun ha ho => ?_,
    fun n ha hn => ⟨_, answerFrame_missing hp ha, missingMap_getLsbD s c hn⟩⟩
  · unfold CircuitRecord.protocolFrame CircuitRecord.openFrame
    rw [hq]
    rfl
  · rw [answerFrame_decided hp ha, show (s.circuit c).recv.lastOutcome = .complete from ho]
    rfl
  · rw [answerFrame_decided hp ha, show (s.circuit c).recv.lastOutcome = .abandoned from ho]
    rfl

end Sys2Proof.Machine

/-! PROOFS. One record's move at the link's leaving UP (R160): the record, its event and its blocks. -/

namespace Sys2Proof.Machine

section
variable {s t : State} {c : CircuitNo} {r : CircuitRecord}

/-! ### The records R160 moves -/

/-- A dialled circuit in OPENING, OFFERED, OPEN or REWINDING, which enters CLOSED with a new close record (R9, R160). -/
def CircuitRecord.Ends (r : CircuitRecord) : Prop :=
  r.kind = some .dialled ∧ (r.state = .opening ∨ r.state = .offered ∨ r.state = .opened ∨ r.state = .rewinding)

/-- A fixed circuit in OPEN or REWINDING, which has both sides rewound (R160, R161). -/
def CircuitRecord.Runs (r : CircuitRecord) : Prop := r.kind = some .fixed ∧ (r.state = .opened ∨ r.state = .rewinding)

/-- A descriptor that is the record's active block and its assembly at once, as no run makes one (R80). -/
def CircuitRecord.HoldsTwice (r : CircuitRecord) (d : DescNo) : Prop :=
  r.send.active.map ActiveBlock.desc = some d ∧ r.recv.assembly = some d

/-! ### What becomes of a record's blocks (R48, R50, R73, R74) -/

/-- A descriptor the record does not hold is as it was. -/
theorem leftUpDescriptor_of_not_held {d : DescNo} (h : ¬ r.holds d) (s : State) :
    s.leftUpDescriptor r d = s.descriptor d := by
  obtain ⟨hsend, hrecv⟩ := not_or.1 h
  have hactive : r.send.active.map ActiveBlock.desc ≠ some d := fun ha =>
    hsend (List.mem_append_left _ (by rw [ha]; exact List.mem_singleton_self d))
  unfold State.leftUpDescriptor
  rw [if_neg (not_or.2 ⟨hsend, hrecv⟩), if_neg hrecv, if_neg hactive]
  split <;> rfl

/-- A record that is neither live and dialled nor a running fixed circuit leaves every descriptor as it was. -/
theorem leftUpDescriptor_of_still (hd : ¬ (r.kind = some .dialled ∧ r.state.live = true))
    (hf : ¬ r.Runs) (s : State) (d : DescNo) :
    s.leftUpDescriptor r d = s.descriptor d := by
  unfold State.leftUpDescriptor
  cases hk : r.kind with
  | none => rfl
  | some k => cases k <;> cases hs : r.state <;> simp_all [CircuitRecord.Runs, CircuitState.live]

/-- What becomes of a descriptor depends on it and on the pin alone (R81). -/
theorem leftUpDescriptor_congr {d : DescNo} (hd : t.descriptor d = s.descriptor d) (ht : t.tx = s.tx)
    (r : CircuitRecord) : t.leftUpDescriptor r d = s.leftUpDescriptor r d := by
  unfold State.leftUpDescriptor freed State.pinnedDescriptor
  rw [hd, ht]

/-- The blocks of a dialled record that enters CLOSED are freed (R50, R74). -/
theorem leftUpDescriptor_of_dropped (hr : r.Ends) (hd : Dropped r s t) (d : DescNo) :
    t.descriptor d = s.leftUpDescriptor r d := by
  have hif : s.leftUpDescriptor r d = if d ∈ r.send.blocks ∨ r.recv.assembly = some d then freed s d
      else s.descriptor d := by
    unfold State.leftUpDescriptor
    obtain ⟨hk, hs | hs | hs | hs⟩ := hr <;> rw [hk, hs]
  obtain ⟨hheld, hfree⟩ := hd d
  rw [hif]
  split
  · next h => exact hheld h
  · next h => exact hfree h

/-- A fixed circuit's active block is QUEUED again and its assembly freed (R48, R73). -/
theorem leftUpDescriptor_of_requeued (hr : r.Runs) (hd : Requeued r s t) {d : DescNo} (hone : ¬ r.HoldsTwice d) :
    t.descriptor d = s.leftUpDescriptor r d := by
  have hif : s.leftUpDescriptor r d = if r.recv.assembly = some d then freed s d
      else if r.send.active.map ActiveBlock.desc = some d then
        { s.descriptor d with state := .queued, blockNumber := none }
      else s.descriptor d := by
    unfold State.leftUpDescriptor
    obtain ⟨hk, hs | hs⟩ := hr <;> rw [hk, hs]
  have hactive : (∀ a, r.send.active = some a → a.desc ≠ d) ↔ r.send.active.map ActiveBlock.desc ≠ some d := by
    simp
  obtain ⟨hneither, hactiveOnly, hassemblyOnly⟩ := hd d
  rw [hif]
  split
  · next ha => exact hassemblyOnly (hactive.2 fun h => hone ⟨h, ha⟩) ha
  · next ha =>
    split
    · next h =>
      obtain ⟨a, hra, had⟩ := Option.map_eq_some_iff.1 h
      exact hactiveOnly a hra had ha
    · next h => exact hneither (hactive.2 h) ha

/-- An event is raised of the live dialled records, and of no other (R160). -/
theorem leftUpEvent_isSome (cause : Octet) (c : CircuitNo) (r : CircuitRecord) :
    (leftUpEvent cause c r).isSome = (decide (r.kind = some .dialled) && r.state.live) := by
  unfold leftUpEvent
  cases hk : r.kind with
  | none => rfl
  | some k => cases k <;> cases hs : r.state <;> rfl

/-! ### One record moved -/

/-- Circuit c's record is moved to what `record` makes of it, with the event and the changes of descriptors of the
link's leaving UP, and nothing else changes (R160, R161). -/
structure Moved (record : CircuitRecord → CircuitRecord) (cause : Octet) (c : CircuitNo) (s t : State) : Prop where
  frame       : EngineFrame c s t
  loose       : t.loose = s.loose
  record      : t.circuit c = { record (s.circuit c) with stale := (t.circuit c).stale }
  events      : s.events.length ≤ 126 →
    t.events = s.events ++ (leftUpEvent cause c (s.circuit c)).toList ∧ ∀ d, (t.circuit d).stale = (s.circuit d).stale
  descriptors : ∀ d, ¬ (s.circuit c).HoldsTwice d → t.descriptor d = s.leftUpDescriptor (s.circuit c) d

/-- A record moved with its event. -/
theorem moved_of_raised {record : CircuitRecord → CircuitRecord} {cause : Octet} {e : Event}
    (hframe : EngineFrame c s t) (hloose : t.loose = s.loose)
    (hrec : t.circuit c = { record (s.circuit c) with stale := (t.circuit c).stale })
    (hevent : leftUpEvent cause c (s.circuit c) = some e) (hraised : Raised s t e)
    (hdesc : ∀ d, t.descriptor d = s.leftUpDescriptor (s.circuit c) d) : Moved record cause c s t where
  frame             := hframe
  loose             := hloose
  record            := hrec
  events hroom      := by
    obtain ⟨hevents, -, hstale⟩ := hraised hroom
    rw [hevent]
    exact ⟨hevents, hstale⟩
  descriptors d _   := hdesc d

/-- A record moved with no event. -/
theorem moved_of_quiet {record : CircuitRecord → CircuitRecord} {cause : Octet} (hframe : EngineFrame c s t)
    (hloose : t.loose = s.loose) (hrec : t.circuit c = record (s.circuit c))
    (hstale : (record (s.circuit c)).stale = (s.circuit c).stale)
    (hevent : leftUpEvent cause c (s.circuit c) = none) (hevents : t.events = s.events)
    (hdesc : ∀ d, ¬ (s.circuit c).HoldsTwice d →
      t.descriptor d = s.leftUpDescriptor (s.circuit c) d) : Moved record cause c s t where
  frame       := hframe
  loose       := hloose
  record      := by rw [hrec]
  events _    := by
    rw [hevent, hevents]
    refine ⟨(List.append_nil _).symm, fun d => ?_⟩
    by_cases hd : d = c
    · rw [hd, hrec, hstale]
    · rw [hframe.others d hd]
  descriptors := hdesc

/-! ### The moves of R160 -/

section
variable (cause : Octet)

/-- A live dialled record that is not CLOSING enters CLOSED (R9, R160). -/
theorem enterClosed_moved (hr : (s.circuit c).Ends) :
    Moved (leftUpRecord cause) cause c s (s.enterClosed c cause 0 .part false none) := by
  obtain ⟨hframe, hdrop, hrec, hloose, hraised⟩ := enterClosed_spec s c cause 0 .part false none
  refine moved_of_raised hframe hloose (hrec.trans ?_) ?_ hraised (leftUpDescriptor_of_dropped hr hdrop)
  · unfold leftUpRecord
    obtain ⟨hk, hs | hs | hs | hs⟩ := hr <;> rw [hk, hs]
  · unfold leftUpEvent
    obtain ⟨hk, hs | hs | hs | hs⟩ := hr <;> rw [hk, hs] <;> rfl

/-- A CLOSING record enters CLOSED with the close record it has (R9, R160). -/
theorem finishClosing_moved (hk : (s.circuit c).kind = some .dialled) (hs : (s.circuit c).state = .closing) :
    Moved (leftUpRecord cause) cause c s (s.finishClosing c false none) := by
  have hrecord : leftUpRecord cause (s.circuit c) = closedFromClosing (s.circuit c) false none := by
    unfold leftUpRecord
    rw [hk, hs]
  have hevent : leftUpEvent cause c (s.circuit c) =
      some ((closedFromClosing (s.circuit c) false none).closedEvent c) := by
    unfold leftUpEvent
    rw [hk, hs]
    cases hc : (s.circuit c).closeRecord <;> simp [CircuitRecord.closedEvent, closedFromClosing, hc]
  have heq := finishClosing_eq s c false none
  refine moved_of_raised (frame_finishClosing ..) (by rw [heq, raise_loose]; rfl) ?_ hevent ?_ fun d => ?_
  · obtain ⟨b, hb⟩ := raise_circuit (s.setCircuit c (closedFromClosing (s.circuit c) false none))
      ((closedFromClosing (s.circuit c) false none).closedEvent c) c
    rw [heq, hb, circuit_setCircuit_self, hrecord]
  · rw [heq]
    exact raised_of_raise rfl rfl (stale_setCircuit s c _ rfl)
  · unfold State.leftUpDescriptor State.descriptor
    rw [hk, hs, heq, raise_descriptors]
    rfl

/-- A record whose two sides are rewound, and which then changes alone (R48, R73). -/
theorem rewound_moved (hr : (s.circuit c).Runs) {record f : CircuitRecord → CircuitRecord}
    (hrec : (((s.rewindSend c).rewindRecv c).onCircuit c f).circuit c = record (s.circuit c))
    (hstale : (record (s.circuit c)).stale = (s.circuit c).stale) :
    Moved record cause c s (((s.rewindSend c).rewindRecv c).onCircuit c f) := by
  have hevent : leftUpEvent cause c (s.circuit c) = none := by
    unfold leftUpEvent
    obtain ⟨hk, hs | hs⟩ := hr <;> rw [hk, hs]
  refine moved_of_quiet (((frame_rewindSend ..).trans (frame_rewindRecv ..)).trans (frame_onCircuit ..)) ?_ hrec hstale
    hevent ?_ fun d hone => ?_
  · show ((s.rewindSend c).rewindRecv c).loose = s.loose
    rw [rewindBoth_eq]
  · show ((s.rewindSend c).rewindRecv c).events = s.events
    rw [rewindBoth_eq]
  · exact leftUpDescriptor_of_requeued (t := (s.rewindSend c).rewindRecv c) hr (rewindBoth_requeued s c) hone

/-- A fixed circuit in OPEN or REWINDING enters DORMANT (R51, R75, R160). -/
theorem enterDormant_moved (hr : (s.circuit c).Runs) :
    Moved (leftUpRecord cause) cause c s (s.enterDormant c) := by
  have hrecord : leftUpRecord cause (s.circuit c) = dormantRecord (s.circuit c) := by
    unfold leftUpRecord
    obtain ⟨hk, hs | hs⟩ := hr <;> rw [hk, hs]
  exact rewound_moved cause hr ((enterDormant_circuit s c).trans hrecord.symm) (by rw [hrecord]; rfl)

/-- A record that changes alone, and has no event. -/
theorem onCircuit_moved {record : CircuitRecord → CircuitRecord} (f : CircuitRecord → CircuitRecord)
    (hd : ¬ ((s.circuit c).kind = some .dialled ∧ (s.circuit c).state.live = true))
    (hf : ¬ (s.circuit c).Runs)
    (hrec : f (s.circuit c) = record (s.circuit c)) (hstale : (f (s.circuit c)).stale = (s.circuit c).stale) :
    Moved record cause c s (s.onCircuit c f) := by
  have hevent : leftUpEvent cause c (s.circuit c) = none := by
    rw [← Option.not_isSome_iff_eq_none, leftUpEvent_isSome, Bool.and_eq_true, decide_eq_true_eq]
    exact hd
  exact moved_of_quiet (frame_onCircuit ..) rfl ((circuit_onCircuit_self ..).trans hrec) (hrec ▸ hstale) hevent rfl
    fun d _ => (leftUpDescriptor_of_still hd hf s d).symm

theorem setCircuit_circuit_self (s : State) (c : CircuitNo) : s.setCircuit c (s.circuit c) = s := by
  simp [State.setCircuit, State.circuit]

/-- Each record's move at the link's leaving UP (R160). -/
theorem leaveRecord_moved (s : State) (c : CircuitNo) :
    Moved (leftUpRecord cause) cause c s (s.leaveRecord cause c) := by
  have ended (hr : (s.circuit c).Ends) : Moved (leftUpRecord cause) cause c s (s.endCircuit c cause) := by
    have he : s.endCircuit c cause = s.enterClosed c cause 0 .part false none :=
      if_neg fun h => by simp [CircuitRecord.Ends, h] at hr
    rw [he]
    exact enterClosed_moved cause hr
  unfold State.leaveRecord
  split
  · next hk hs => exact ended ⟨hk, .inl hs⟩
  · next hk hs => exact ended ⟨hk, .inr (.inl hs)⟩
  · next hk hs => exact ended ⟨hk, .inr (.inr (.inl hs))⟩
  · next hk hs => exact ended ⟨hk, .inr (.inr (.inr hs))⟩
  · next hk hs =>
    rw [show s.endCircuit c cause = s.finishClosing c false none from if_pos hs]
    exact finishClosing_moved cause hk hs
  · next hk hs => exact enterDormant_moved cause ⟨hk, .inl hs⟩
  · next hk hs => exact enterDormant_moved cause ⟨hk, .inr hs⟩
  · next hs =>
    refine onCircuit_moved cause _ (fun h => ?_) (fun h => ?_) ?_ rfl
    · rw [hs] at h; exact absurd h.2 (by decide)
    · simp [CircuitRecord.Runs, hs] at h
    · unfold leftUpRecord
      rw [hs]
      split <;> simp_all
  · have h : Moved (leftUpRecord cause) cause c s (s.onCircuit c id) := by
      refine onCircuit_moved cause id (fun h => ?_) (fun h => ?_) ?_ rfl
      · cases hs : (s.circuit c).state <;> simp_all [CircuitState.live]
      · obtain ⟨hk, hs | hs⟩ := h <;> simp_all
      · unfold leftUpRecord
        split <;> simp_all
    rwa [show s.onCircuit c id = s from setCircuit_circuit_self s c] at h

end
end

end Sys2Proof.Machine

/-! PROOFS. Every record moved in rising circuit number (R160, R161): each as if it were moved alone. -/

namespace Sys2Proof.Machine

section
variable {record : CircuitRecord → CircuitRecord} {cause : Octet} {f : State → CircuitNo → State} {s t u : State}
  {c : CircuitNo}

/-- The records of the circuits in l are moved as `Moved` says of one, their events in the order of l, and nothing else
changes. -/
structure MovedAll (record : CircuitRecord → CircuitRecord) (cause : Octet) (l : List CircuitNo) (s t : State) :
    Prop where
  moved       : ∀ c ∈ l, t.circuit c = { record (s.circuit c) with stale := (t.circuit c).stale }
  kept        : ∀ c, c ∉ l → t.circuit c = s.circuit c
  events      : s.events.length + l.length ≤ 127 →
    t.events = s.events ++ l.filterMap (fun c => leftUpEvent cause c (s.circuit c)) ∧
      ∀ c, (t.circuit c).stale = (s.circuit c).stale
  descriptors : ∀ c ∈ l, ∀ d, (∀ e ∈ l, e ≠ c → ¬ (s.circuit e).holds d) →
    ¬ (s.circuit c).HoldsTwice d →
      t.descriptor d = s.leftUpDescriptor (s.circuit c) d
  unheld      : ∀ d, (∀ e ∈ l, ¬ (s.circuit e).holds d) → t.descriptor d = s.descriptor d
  others      : t = { s with circuits := t.circuits, descriptors := t.descriptors, events := t.events }

/-- A descriptor the moved record does not hold is as it was. -/
theorem Moved.unheld (h : Moved record cause c s t) {d : DescNo} (hd : ¬ (s.circuit c).holds d) :
    t.descriptor d = s.descriptor d := by
  rw [h.descriptors d fun k => hd (.inr k.2), leftUpDescriptor_of_not_held hd]

theorem movedAll_nil (s : State) : MovedAll record cause [] s s where
  moved _ hc       := absurd hc List.not_mem_nil
  kept _ _         := rfl
  events _         := ⟨(List.append_nil _).symm, fun _ => rfl⟩
  descriptors _ hc := absurd hc List.not_mem_nil
  unheld _ _       := rfl
  others           := rfl

/-- States that agree on the records of a list agree on the events these raise. -/
theorem filterMap_leftUpEvent_congr {l : List CircuitNo} (h : ∀ e ∈ l, u.circuit e = s.circuit e) :
    l.filterMap (fun e => leftUpEvent cause e (u.circuit e)) =
      l.filterMap (fun e => leftUpEvent cause e (s.circuit e)) := by
  induction l with
  | nil => rfl
  | cons e l ih =>
    rw [List.filterMap_cons, List.filterMap_cons, h e List.mem_cons_self,
      ih fun b hb => h b (List.mem_cons_of_mem _ hb)]

/-- One record moved, and then those of a list it is not in. -/
theorem Moved.cons {l : List CircuitNo} (hcl : c ∉ l) (h : Moved record cause c s u)
    (k : MovedAll record cause l u t) : MovedAll record cause (c :: l) s t := by
  have hne : ∀ {e}, e ∈ l → e ≠ c := fun he hec => hcl (hec ▸ he)
  have hu : ∀ e ∈ l, u.circuit e = s.circuit e := fun e he => h.frame.others e (hne he)
  refine ⟨fun e he => ?_, fun e he => ?_, fun hroom => ?_, fun e he d hd hone => ?_, fun d hd => ?_, ?_⟩
  · obtain rfl | he := List.mem_cons.1 he
    · rw [k.kept e hcl]
      exact h.record
    · rw [← hu e he]
      exact k.moved e he
  · obtain ⟨hec, hel⟩ := not_or.1 (mt List.mem_cons.2 he)
    rw [k.kept e hel, h.frame.others e hec]
  · rw [List.length_cons] at hroom
    obtain ⟨hevents, hstale⟩ := h.events (by omega)
    have hlength : (leftUpEvent cause c (s.circuit c)).toList.length ≤ 1 := by
      cases leftUpEvent cause c (s.circuit c) <;> simp
    obtain ⟨kevents, kstale⟩ := k.events (by rw [hevents, List.length_append]; omega)
    refine ⟨?_, fun d => (kstale d).trans (hstale d)⟩
    rw [kevents, hevents, filterMap_leftUpEvent_congr hu, List.append_assoc, List.filterMap_cons]
    cases leftUpEvent cause c (s.circuit c) <;> rfl
  · obtain rfl | hel := List.mem_cons.1 he
    · rw [k.unheld d fun b hb => hu b hb ▸ hd b (List.mem_cons_of_mem _ hb) (hne hb)]
      exact h.descriptors d hone
    · have hud : u.descriptor d = s.descriptor d := h.unheld (hd c List.mem_cons_self (hne hel).symm)
      rw [k.descriptors e hel d (fun b hb hbe => hu b hb ▸ hd b (List.mem_cons_of_mem _ hb) hbe) (hu e hel ▸ hone),
        hu e hel]
      exact leftUpDescriptor_congr hud h.frame.tx _
  · rw [k.unheld d fun b hb => hu b hb ▸ hd b (List.mem_cons_of_mem _ hb)]
    exact h.unheld (hd c List.mem_cons_self)
  · rw [k.others, h.frame.eq_of_loose h.loose]

theorem foldl_moved (hf : ∀ s c, Moved record cause c s (f s c)) (l : List CircuitNo) (hl : l.Nodup) (s : State) :
    MovedAll record cause l s (l.foldl f s) := by
  induction l generalizing s with
  | nil => exact movedAll_nil s
  | cons c l ih => exact (hf s c).cons (List.nodup_cons.1 hl).1 (ih (List.nodup_cons.1 hl).2 (f s c))

/-- What a move makes of the record it is for, it makes of every record (R160, R161). -/
theorem forEachCircuit_moved (hf : ∀ s c, Moved record cause c s (f s c)) (s : State) :
    MovedAll record cause (List.finRange 64) s (s.forEachCircuit f) := foldl_moved hf _ (List.nodup_finRange 64) s

/-- After every record has been moved the descriptors are as R160 and R161 leave them. -/
theorem MovedAll.descriptorsLeftUp (h : MovedAll record cause (List.finRange 64) s t) : DescriptorsLeftUp s t :=
  fun c d hd hone => h.descriptors c (List.mem_finRange c) d (fun e _ => hd e) hone

theorem MovedAll.linkStale {l : List CircuitNo} (h : MovedAll record cause l s t) : t.linkStale = s.linkStale := by
  rw [h.others]

theorem MovedAll.port {l : List CircuitNo} (h : MovedAll record cause l s t) : t.port = s.port := by
  rw [h.others]

theorem MovedAll.leftUpEvents (h : MovedAll record cause (List.finRange 64) s t) (hroom : s.events.length ≤ 63) :
    t.events = s.events ++ s.leftUpEvents cause ∧ ∀ c, (t.circuit c).stale = (s.circuit c).stale :=
  h.events (by rw [List.length_finRange]; omega)

end

section
variable (s : State)

theorem circuits_toList : s.circuits.toList = (List.finRange 64).map s.circuit := by
  refine List.ext_getElem (by simp) fun i h _ => ?_
  simp [State.circuit]

/-- As many events are raised as live dialled records are moved (R160). -/
theorem leftUpEvents_length (cause : Octet) : (s.leftUpEvents cause).length = s.liveDialledCount := by
  rw [State.leftUpEvents, State.liveDialledCount, List.length_filterMap_eq_countP, circuits_toList, List.countP_map]
  exact List.countP_congr fun c _ => by rw [leftUpEvent_isSome]; rfl

theorem leftUpEvents_length_le (cause : Octet) : (s.leftUpEvents cause).length ≤ 64 :=
  Nat.le_trans (List.length_filterMap_le ..) (Nat.le_of_eq List.length_finRange)

end

end Sys2Proof.Machine

/-! PROOFS. The link leaves UP (R160): by STOP-LINK (R167), by a LINK-STOP (R168) and by the fall of line-ready (R171). -/

namespace Sys2Proof.Machine

section
variable {cause : Octet} {follows : LinkState} {s t : State}

/-- An event that names no circuit changes the event queue and the link stale flag at most (R204, R206). -/
theorem raise_link_eq (s : State) {e : Event} (he : e.circuit = none) :
    s.raise e = { s with events := (s.raise e).events, linkStale := (s.raise e).linkStale } := by
  have hm : s.markStale e = { s with linkStale := true } := by
    unfold State.markStale
    rw [he]
  unfold State.raise
  rw [hm]
  repeat' split
  all_goals rfl

theorem followCode_eq (follows : LinkState) :
    follows.followCode = if follows = .stopping then 1 else if follows = .up then 2 else 0 := by cases follows <;> rfl

/-- The link leaves UP (R160). -/
theorem leaveUp_leftUp (s : State) (cause : Octet) (follows : LinkState) :
    LeftUp cause follows s (s.leaveUp cause follows) := by
  have hmoved := forEachCircuit_moved (leaveRecord_moved cause) s
  unfold State.leaveUp
  generalize s.forEachCircuit (State.leaveRecord cause) = u at hmoved
  have hloose : ({ u with loose := [] } : State).raise (linkDownEvent cause s.liveDialledCount follows) =
      { u with loose := [], events := _, linkStale := _ } := raise_link_eq _ rfl
  have hroomy (hroom : s.events.length ≤ 62) := raise_of_room { u with loose := [] }
    (linkDownEvent cause s.liveDialledCount follows) (by
      rw [(hmoved.leftUpEvents (by omega)).1, List.length_append]
      have := leftUpEvents_length_le s cause
      omega)
  refine ⟨fun c => ?_, raise_loose .., leftUpEvents_length s cause, fun hroom => ?_, fun hroom => ⟨fun c => ?_, ?_⟩,
    fun c d hd hone => ?_, ?_⟩
  · rw [hloose]
    exact hmoved.moved c (List.mem_finRange c)
  · rw [hroomy hroom, ← followCode_eq, (hmoved.leftUpEvents (by omega)).1]
    rfl
  · rw [hroomy hroom]
    exact (hmoved.leftUpEvents (by omega)).2 c
  · rw [hroomy hroom]
    exact hmoved.linkStale
  · rw [hloose]
    exact hmoved.descriptorsLeftUp c d hd hone
  · rw [hloose, hmoved.others]

/-- What the link and the port become beside it makes no difference to the link's leaving UP. -/
theorem LeftUp.ends (h : LeftUp cause follows s t) (l : Link) (p : Port) :
    LeftUp cause follows s { t with link := l, port := p } where
  records     := h.records
  loose       := h.loose
  counted     := h.counted
  events      := h.events
  stale       := h.stale
  descriptors := h.descriptors
  others      := congrArg (fun x : State => { x with link := l, port := p }) h.others

theorem LeftUp.of_link {l : Link} (h : LeftUp cause follows { s with link := l } t) : LeftUp cause follows s t where
  records     := h.records
  loose       := h.loose
  counted     := h.counted
  events      := h.events
  stale       := h.stale
  descriptors := h.descriptors
  others      := h.others

section
variable {u : State} (h : LeftUp cause follows s u)
include h

theorem LeftUp.enterStopping (kind : StopKind) (stop : Octet) : LeftUp cause follows s (u.enterStopping kind stop) :=
  h.ends _ u.port

theorem LeftUp.enterDown : LeftUp cause follows s u.enterDown := h.ends _ u.port

theorem LeftUp.succeed (values : List Nat) : LeftUp cause follows s (u.succeed values) := h.ends u.link _

end

theorem leaveUp_link (s : State) (cause : Octet) (follows : LinkState) : (s.leaveUp cause follows).link = s.link := by
  have hlink := forEachCircuit_link (fun t d => (frame_leaveRecord cause t d).apart) s
  unfold State.leaveUp
  generalize s.forEachCircuit (State.leaveRecord cause) = u at hlink
  exact (raise_link ..).trans hlink

theorem leaveUp_port (s : State) (cause : Octet) (follows : LinkState) : (s.leaveUp cause follows).port = s.port := by
  have hmoved := forEachCircuit_moved (leaveRecord_moved cause) s
  unfold State.leaveUp
  generalize s.forEachCircuit (State.leaveRecord cause) = u at hmoved
  exact (raise_port ..).trans hmoved.port

/-- The link record of a station that leaves UP for STOPPING (R158, R160). -/
theorem leaveUp_enterStopping_link (s : State) (cause : Octet) (follows : LinkState) (kind : StopKind) (stop : Octet) :
    ((s.leaveUp cause follows).enterStopping kind stop).link = { s.link with
      state := .stopping, stopKind := some kind, pending := some (.linkStop stop)
      timer := some { purpose := .stop, remaining := s.link.config.stopTimer } } := by
  have hlink := leaveUp_link s cause follows
  generalize s.leaveUp cause follows = u at hlink
  rw [← hlink]
  rfl

theorem leaveUp_enterStopping_port (s : State) (cause : Octet) (follows : LinkState) (kind : StopKind) (stop : Octet) :
    ((s.leaveUp cause follows).enterStopping kind stop).port = s.port :=
  (onLink_port ..).trans (leaveUp_port ..)

theorem succeed_port (s : State) (values : List Nat) : (s.succeed values).port = donePort s.port .ok values := rfl

/-! ### START-LINK and STOP-LINK (R162, R167) -/

theorem exec_startLink (hs : Started .startLink s) : exec .startLink s = .next s.takeStartLink :=
  congrArg Host.Outcome.next (taking_of_started hs _)

theorem exec_stopLink (hs : Started .stopLink s) : exec .stopLink s = .next s.takeStopLink :=
  congrArg Host.Outcome.next (taking_of_started hs _)

/-- The own start number is the millisecond count, or one more where the link held that number (R156). -/
theorem newStart_eq (s : State) : s.newStart =
    if s.msCount % 65536 = s.link.ownStart.toNat then BitVec.ofNat 16 (s.msCount + 1)
    else BitVec.ofNat 16 s.msCount := by
  have hheld : BitVec.ofNat 16 s.msCount = s.link.ownStart ↔ s.msCount % 65536 = s.link.ownStart.toNat := by
    rw [← BitVec.toNat_inj, BitVec.toNat_ofNat]
  simp only [State.newStart, hheld, BitVec.ofNat_add]
  rfl

/-- A new own start number is never the one held (R156). -/
theorem newStart_ne (s : State) : s.newStart ≠ s.link.ownStart := by
  unfold State.newStart
  dsimp only
  split
  · next h => rw [h]; bv_omega
  · next h => exact h

theorem takeStartLink_of_not_down (h : s.link.state ≠ .down) : s.takeStartLink = s.reject .badState := if_pos h

section
variable (hd : s.link.state = .down)
include hd

theorem takeStartLink_of_not_ready (hl : s.lineReady = false) : s.takeStartLink = s.reject .lineNotReady := by
  unfold State.takeStartLink
  rw [if_neg (not_not_intro hd), hl]
  rfl

/-- With line-ready high the link enters STARTING (R162). -/
theorem takeStartLink_of_ready (hl : s.lineReady = true) :
    s.takeStartLink = s.enterStarting.succeed [s.newStart.toNat] := by
  unfold State.takeStartLink
  rw [if_neg (not_not_intro hd), hl]
  rfl

end

theorem takeStopLink_of_stopped (h : s.link.state = .down ∨ s.link.state = .stopping) :
    s.takeStopLink = s.reject .badState := by
  unfold State.takeStopLink
  obtain h | h := h <;> rw [h]

theorem takeStopLink_of_starting (h : s.link.state = .starting) :
    s.takeStopLink = { s with link := s.link.downed }.succeed [0] := by
  unfold State.takeStopLink
  rw [h]
  rfl

theorem takeStopLink_of_up (h : s.link.state = .up) : s.takeStopLink =
    ((s.leaveUp Cause.linkStop .stopping).enterStopping .local Cause.local).succeed [3] := by
  unfold State.takeStopLink
  rw [h]
  rfl

end

/-- Settles O10: START-LINK by its checks, and STOP-LINK by the link state. -/
theorem startLinkAndStopLinkMoveTheLink : Obligations.StartLinkAndStopLinkMoveTheLink := by
  refine ⟨fun s hs => ⟨fun h => ?_, fun hd hl => ?_, fun hd hl n hn => ?_⟩,
    fun s hs => ⟨fun h => ?_, fun h => ?_, fun h => ?_⟩⟩
  · rw [exec_startLink hs, takeStartLink_of_not_down h, next_reject]
  · rw [exec_startLink hs, takeStartLink_of_not_ready hd hl, next_reject]
  · obtain rfl : n = s.newStart := hn.trans (newStart_eq s).symm
    rw [exec_startLink hs, takeStartLink_of_ready hd hl]
    exact ⟨newStart_ne s, rfl⟩
  · rw [exec_stopLink hs, takeStopLink_of_stopped h, next_reject]
  · rw [exec_stopLink hs, takeStopLink_of_starting h, next_succeed]
  · exact ⟨_, (exec_stopLink hs).trans (congrArg _ (takeStopLink_of_up h)),
      ((leaveUp_leftUp s Cause.linkStop .stopping).enterStopping _ _).succeed _,
      (finish_link ..).trans (leaveUp_enterStopping_link ..), by rw [succeed_port, leaveUp_enterStopping_port]⟩

section
variable {s : State}

/-! ### LINK-STOP (R168) -/

theorem exec_linkStop (hs : Hears s) (cause : Octet) :
    exec (.linkStopArrival cause) s = .next (State.linkStopAt cause s.heard) :=
  congrArg Host.Outcome.next (arrive_of_hears hs rfl _)

theorem linkStopAt_of_down (cause : Octet) (h : s.link.state = .down) : State.linkStopAt cause s = s := by
  unfold State.linkStopAt
  rw [h]

theorem linkStopAt_of_starting (cause : Octet) (h : s.link.state = .starting) :
    State.linkStopAt cause s = s.noteStop cause := by
  unfold State.linkStopAt
  rw [h]

theorem linkStopAt_of_stopping (cause : Octet) (h : s.link.state = .stopping) :
    State.linkStopAt cause s = (s.noteStop cause).enterDown := by
  unfold State.linkStopAt
  rw [h]

/-- In UP the link leaves UP and answers (R168). -/
theorem linkStopAt_of_up (cause : Octet) (h : s.link.state = .up) :
    State.linkStopAt cause s =
      ((s.noteStop cause).leaveUp Cause.linkStop .stopping).enterStopping .answering Cause.none := by
  unfold State.linkStopAt
  rw [h]

end

/-- Settles O33: a LINK-STOP by the link state. -/
theorem linkStopArrivalFollowsTheLinkState : Obligations.LinkStopArrivalFollowsTheLinkState := by
  intro s cause hs
  have hexec := exec_linkStop hs cause
  refine ⟨fun h => hexec.trans (congrArg _ (linkStopAt_of_down (s := s.heard) cause h)),
    fun h => hexec.trans (congrArg _ (linkStopAt_of_starting (s := s.heard) cause h)),
    fun h => hexec.trans (congrArg _ (linkStopAt_of_stopping (s := s.heard) cause h)), fun h => ?_⟩
  have hleft := leaveUp_leftUp (s.heard.noteStop cause) Cause.linkStop .stopping
  exact ⟨_, hexec.trans (congrArg _ (linkStopAt_of_up (s := s.heard) cause h)), hleft.of_link.enterStopping _ _,
    leaveUp_enterStopping_link .., leaveUp_enterStopping_port ..⟩

section
variable {s : State}

/-! ### The fall of line-ready (R171) -/

/-- The abort ends the pin, frees the transmitter and sends the abort sequence (R192). -/
theorem abortTransmission_of_tx {x : TxFrame} (h : s.tx = some x) :
    s.abortTransmission = { s with tx := none, line := .abort, descriptors := (s.endPin x.pin).descriptors } := by
  unfold State.abortTransmission
  rw [h]
  dsimp only
  unfold State.endPin
  repeat' split
  all_goals rfl

/-- The end of a pin frees a RETURNING descriptor (R89). -/
theorem endPin_descriptor (s : State) (page : Nat) (d e : DescNo) : (s.endPin (some (page, d))).descriptor e =
    if e = d ∧ (s.descriptor d).state = .returning then Descriptor.free else s.descriptor e := by
  unfold State.endPin
  dsimp only
  split
  · next h =>
    rw [descriptor_setDescriptor]
    simp only [h, and_true]
  · next h => rw [if_neg fun k => h k.2]

theorem abortTransmission_link (s : State) : s.abortTransmission.link = s.link := by
  cases h : s.tx with
  | none => unfold State.abortTransmission; rw [h]
  | some x => rw [abortTransmission_of_tx h]

theorem abortTransmission_events (s : State) : s.abortTransmission.events = s.events := by
  cases h : s.tx with
  | none => unfold State.abortTransmission; rw [h]
  | some x => rw [abortTransmission_of_tx h]

theorem abortTransmission_port (s : State) : s.abortTransmission.port = s.port := by
  cases h : s.tx with
  | none => unfold State.abortTransmission; rw [h]
  | some x => rw [abortTransmission_of_tx h]

/-- The fall of line-ready while it is high (R171, R180). -/
theorem exec_lineReadyFall (h : s.lineReady = true) : exec .lineReadyFall s =
    .next ({ s with lineReady := false, receiver := { phase := .hunt, buffer := [] } } : State).linkLost :=
  congrArg Host.Outcome.next (if_pos h)

theorem linkLost_of_down (h : s.link.state = .down) : s.linkLost = s := by
  unfold State.linkLost
  rw [h]

/-- In STARTING the link is DOWN and LINK-DOWN is raised (R171). -/
theorem linkLost_of_starting (h : s.link.state = .starting) (hroom : s.events.length ≤ 126) :
    s.linkLost = { s.abortTransmission with
      link := s.link.downed
      events := s.events ++ [{ kind := .linkDown, cause := some 0x0C, count := some 0, block := some 0 }] } := by
  have hevents := abortTransmission_events s
  unfold State.linkLost
  rw [h, ← abortTransmission_link s, ← hevents]
  dsimp only
  rw [raise_of_room _ _ (by rw [State.enterDown, onLink_events, hevents]; omega)]
  rfl

/-- In UP the link leaves UP before it is DOWN (R171). -/
theorem linkLost_of_up (h : s.link.state = .up) :
    s.linkLost = (s.abortTransmission.leaveUp Cause.lineLost .down).enterDown := by
  unfold State.linkLost
  rw [h]

theorem linkLost_of_stopping (h : s.link.state = .stopping) :
    s.linkLost = { s.abortTransmission with link := s.link.downed } := by
  unfold State.linkLost
  rw [h, ← abortTransmission_link s]
  rfl

end

/-- Settles O27: the fall of line-ready by the link state, and what the abort makes of the frame in transmission. -/
theorem lineReadyFallBringsTheLinkDown : Obligations.LineReadyFallBringsTheLinkDown := by
  intro s hready fallen aborted
  have hexec := exec_lineReadyFall hready
  refine ⟨fun h => hexec.trans (congrArg _ (linkLost_of_down (s := fallen) h)),
    fun h => hexec.trans (congrArg _ (linkLost_of_stopping (s := fallen) h)),
    fun h hroom => hexec.trans (congrArg _ (linkLost_of_starting (s := fallen) h hroom)), fun h => ?_, fun h => ?_,
    fun x hx => ?_⟩
  · refine ⟨_, hexec.trans (congrArg _ (linkLost_of_up (s := fallen) h)),
      (leaveUp_leftUp aborted Cause.lineLost .down).enterDown, ?_, ?_⟩
    · exact congrArg Link.downed ((leaveUp_link ..).trans (abortTransmission_link fallen))
    · exact (onLink_port ..).trans ((leaveUp_port ..).trans (abortTransmission_port fallen))
  · show State.abortTransmission fallen = fallen
    unfold State.abortTransmission
    rw [show fallen.tx = none from h]
  · have haborted : aborted = _ := abortTransmission_of_tx (s := fallen) hx
    have hdesc (e : DescNo) : aborted.descriptor e = (fallen.endPin x.pin).descriptor e :=
      descriptor_of_descriptors (by rw [haborted]) e
    refine ⟨by rw [haborted], by rw [haborted], by rw [haborted], abortTransmission_events fallen,
      abortTransmission_link fallen, fun hp => ?_, fun page d hp e => ?_⟩
    · rw [haborted, hp]
      rfl
    · rw [hdesc, hp, endPin_descriptor]
      rfl

end Sys2Proof.Machine

/-! PROOFS. The link reaches UP (R159): by a LINK-START (R163, R164, R166) and by a LINK-AGREE (R165). -/

namespace Sys2Proof.Machine

section
variable {s t u : State} {c : CircuitNo}

/-! ### A record changed alone, and every record changed so (R159, R161) -/

/-- The record a start decision with peer-ready false leaves: HELD with PROBE pending, or IDLE (R29, R49). -/
def CircuitRecord.resumed (r : CircuitRecord) : CircuitRecord :=
  { r with transfer := if r.send.queue = [] then r.transfer else some .probe, send := r.send.resumed }

/-- The record of a DORMANT fixed circuit after the link has reached UP (R159). -/
def CircuitRecord.woken (agreed : Nat) (r : CircuitRecord) : CircuitRecord :=
  if r.kind = some .fixed ∧ r.state = .dormant then ((r.enter .opened).agree agreed).resumed else r

theorem onCircuit_resumeSend {f : CircuitRecord → CircuitRecord} (hf : (f (s.circuit c)).send.peerReady = false) :
    (s.onCircuit c f).resumeSend c = s.setCircuit c (f (s.circuit c)).resumed := by
  rw [resume_eq (by rw [circuit_onCircuit_self]; exact hf), circuit_onCircuit_self, State.onCircuit,
    setCircuit_setCircuit]
  rfl

/-- A DORMANT fixed circuit whose peer is taken for not ready is woken alone (R159). -/
theorem wakeRecord_eq (agreed : Nat) (h : (s.circuit c).state = .dormant → (s.circuit c).send.peerReady = false) :
    s.wakeRecord agreed c = s.setCircuit c ((s.circuit c).woken agreed) := by
  unfold State.wakeRecord CircuitRecord.woken
  split
  · next hk => exact onCircuit_resumeSend (h hk.2)
  · exact (setCircuit_circuit_self s c).symm

/-- A run over distinct circuits, each of whose records is changed alone. -/
theorem foldl_setCircuit {f : State → CircuitNo → State} {g : CircuitRecord → CircuitRecord}
    {P : CircuitRecord → Prop} (hf : ∀ u c, P (u.circuit c) → f u c = u.setCircuit c (g (u.circuit c)))
    (l : List CircuitNo) (hl : l.Nodup) (s : State) (hp : ∀ c ∈ l, P (s.circuit c)) :
    l.foldl f s = { s with circuits := (l.foldl f s).circuits } ∧
      ∀ c, (l.foldl f s).circuit c = if c ∈ l then g (s.circuit c) else s.circuit c := by
  induction l generalizing s with
  | nil => exact ⟨rfl, fun c => (if_neg List.not_mem_nil).symm⟩
  | cons c l ih =>
    obtain ⟨hcl, hl⟩ := List.nodup_cons.1 hl
    have hstep := hf s c (hp c List.mem_cons_self)
    have hne {d : CircuitNo} (hd : d ∈ l) : d ≠ c := fun h => hcl (h ▸ hd)
    obtain ⟨hothers, hrecords⟩ := ih hl (f s c) fun d hd => by
      rw [hstep, circuit_setCircuit_ne s _ (hne hd)]
      exact hp d (List.mem_cons_of_mem _ hd)
    rw [List.foldl_cons]
    refine ⟨hothers.trans ?_, fun d => ?_⟩
    · generalize (l.foldl f (f s c)).circuits = circuits
      rw [hstep]
      rfl
    · rw [hrecords, hstep]
      by_cases hdc : d = c
      · subst hdc
        rw [if_neg hcl, if_pos List.mem_cons_self, circuit_setCircuit_self]
      · rw [circuit_setCircuit_ne s _ hdc]
        simp only [List.mem_cons, hdc, false_or]

/-- Every record is changed, and nothing else (R159, R161). -/
theorem forEachCircuit_setCircuit {f : State → CircuitNo → State} {g : CircuitRecord → CircuitRecord}
    {P : CircuitRecord → Prop} (hf : ∀ u c, P (u.circuit c) → f u c = u.setCircuit c (g (u.circuit c)))
    (hp : ∀ c, P (s.circuit c)) :
    s.forEachCircuit f = { s with circuits := (s.forEachCircuit f).circuits } ∧
      ∀ c, (s.forEachCircuit f).circuit c = g (s.circuit c) := by
  obtain ⟨hothers, hrecords⟩ := foldl_setCircuit hf (List.finRange 64) (List.nodup_finRange 64) s fun c _ => hp c
  exact ⟨hothers, fun c => (hrecords c).trans (if_pos (List.mem_finRange c))⟩

/-! ### The link reaches UP (R159) -/

/-- The link record after an agreement (R159). -/
def Link.reached (l : Link) (agreed : Nat) (identity start : Word) : Link :=
  { l with
    state := .up, timer := none, agreed := some agreed, peerIdentity := some identity, peerStart := some start }

/-- The link reaches UP: the agreed values are recorded, every DORMANT fixed circuit is woken, and LINK-UP is raised
(R159). -/
theorem reachUp_spec (offered : Nat) (identity start : Word)
    (hp : ∀ c, (s.circuit c).state = .dormant → (s.circuit c).send.peerReady = false) :
    let agreed := min s.link.config.offered offered
    let t := s.reachUp offered identity start
    t = { s with
      circuits := t.circuits, events := t.events, linkStale := t.linkStale
      link := s.link.reached agreed identity start } ∧
    Raised s t { kind := .linkUp, tag := some identity, count := some agreed, block := some 0 } ∧
    ∀ c, t.circuit c = (s.circuit c).woken agreed := by
  intro agreed t
  have hup : s.onLink (fun l => l.reached agreed identity start) =
      { s with link := s.link.reached agreed identity start } := rfl
  obtain ⟨hothers, hrecords⟩ := forEachCircuit_setCircuit (s := s.onLink fun l => l.reached agreed identity start)
    (P := fun r => r.state = .dormant → r.send.peerReady = false) (fun _ _ h => wakeRecord_eq agreed h) hp
  have ht : t = ((s.onLink fun l => l.reached agreed identity start).forEachCircuit (State.wakeRecord agreed)).raise
    (linkUpEvent agreed identity false) := rfl
  generalize (s.onLink fun l => l.reached agreed identity start).forEachCircuit (State.wakeRecord agreed) = u
    at hothers hrecords ht
  have hstale (c : CircuitNo) : (u.circuit c).stale = (s.circuit c).stale := by
    rw [hrecords]
    unfold CircuitRecord.woken
    split <;> rfl
  rw [hup] at hothers
  refine ⟨?_, ?_, fun c => ?_⟩
  · rw [ht, raise_link_eq u rfl, hothers]
  · rw [ht]
    exact raised_of_raise (by rw [hothers]) (by rw [hothers]) hstale
  · rw [ht, circuit_of_circuits (raise_circuits u _ rfl), hrecords]
    rfl

theorem woken_of_other {agreed : Nat} {r : CircuitRecord} (h : ¬ (r.kind = some .fixed ∧ r.state = .dormant)) :
    r.woken agreed = r := if_neg h

theorem agree_of_some {agreed maximum : Nat} {r : CircuitRecord} (hm : r.fixedMaximum = some maximum) :
    r.agree agreed = { r with maxSegments := some (min maximum agreed) } :=
  congrArg (fun m : Option Nat => { r with maxSegments := m.map (min · agreed) }) hm

/-- A woken circuit's max segments are the lower of its fixed maximum and the agreed value (R5, R159). -/
theorem woken_of_dormant {agreed maximum : Nat} {r : CircuitRecord} (hk : r.kind = some .fixed)
    (hs : r.state = .dormant) (hm : r.fixedMaximum = some maximum) : r.woken agreed = { r with
      state := .opened, timer := none, retryCount := 0, note := none, maxSegments := some (min maximum agreed)
      transfer := if r.send.queue = [] then r.transfer else some .probe, send := r.send.resumed } := by
  unfold CircuitRecord.woken
  rw [if_pos ⟨hk, hs⟩, agree_of_some (show (r.enter .opened).fixedMaximum = some maximum from hm)]
  rfl

/-! ### LINK-START and LINK-AGREE at the Link Supervisor (R163 to R166) -/

theorem segmentsGood_iff (value : Octet) : segmentsGood value = true ↔ 1 ≤ value.toNat ∧ value.toNat ≤ 64 := by
  simp [segmentsGood]

/-- A reached UP with a pending link frame named before it (R164, R165). -/
theorem reachUp_pending (p : Option PendingLink) (offered : Nat) (identity start : Word)
    (hp : ∀ c, (s.circuit c).state = .dormant → (s.circuit c).send.peerReady = false) :
    let agreed := min s.link.config.offered offered
    let t := (s.setPendingLink p).reachUp offered identity start
    t = { s with
      circuits := t.circuits, events := t.events, linkStale := t.linkStale
      link := { s.link with
        state := .up, timer := none, pending := p, agreed := some agreed, peerIdentity := some identity
        peerStart := some start } } ∧
    Raised s t { kind := .linkUp, tag := some identity, count := some agreed, block := some 0 } ∧
    (∀ c, ¬ ((s.circuit c).kind = some .fixed ∧ (s.circuit c).state = .dormant) → t.circuit c = s.circuit c) ∧
    (∀ c maximum, (s.circuit c).kind = some .fixed → (s.circuit c).state = .dormant →
      (s.circuit c).fixedMaximum = some maximum →
      t.circuit c = { s.circuit c with
        state := .opened, timer := none, retryCount := 0, note := none
        maxSegments := some (min maximum agreed)
        transfer := if (s.circuit c).send.queue = [] then (s.circuit c).transfer else some .probe
        send := (s.circuit c).send.resumed }) := by
  obtain ⟨hothers, hraised, hrecords⟩ := reachUp_spec (s := s.setPendingLink p) offered identity start hp
  exact ⟨hothers, hraised, fun c h => (hrecords c).trans (woken_of_other h),
    fun c maximum hk hs hm => (hrecords c).trans (woken_of_dormant hk hs hm)⟩

theorem exec_linkStart (hs : Hears s) (version maxSegments : Octet) (identity start : Word) :
    exec (.linkStartArrival version maxSegments identity start) s =
      .next (State.linkStartAt version maxSegments identity start s.heard) :=
  congrArg Host.Outcome.next (arrive_of_hears hs rfl _)

theorem exec_linkAgree (hs : Hears s) (maxSegments : Octet) (identity start : Word) :
    exec (.linkAgreeArrival maxSegments identity start) s =
      .next (State.linkAgreeAt maxSegments identity start s.heard) :=
  congrArg Host.Outcome.next (arrive_of_hears hs rfl _)

section
variable {version maxSegments : Octet} {identity start : Word}

theorem linkStartAt_of_stopped (h : s.link.state = .down ∨ s.link.state = .stopping) :
    State.linkStartAt version maxSegments identity start s = s := if_pos h

section
variable (h : s.link.state = .starting ∨ s.link.state = .up)
include h

theorem linkStartAt_of_own (hi : identity = s.link.config.identity) :
    State.linkStartAt version maxSegments identity start s = s.loopSeen identity := by
  unfold State.linkStartAt
  rw [if_neg (by obtain h | h := h <;> simp [h]), if_pos hi]

theorem linkStartAt_of_version (hi : identity ≠ s.link.config.identity) (hv : version ≠ 1) :
    State.linkStartAt version maxSegments identity start s = s.setPendingLink (some (.linkStop Cause.version)) := by
  unfold State.linkStartAt
  rw [if_neg (by obtain h | h := h <;> simp [h]), if_neg hi, if_pos hv]

theorem linkStartAt_of_outside (hi : identity ≠ s.link.config.identity) (hm : ¬ segmentsGood maxSegments = true) :
    State.linkStartAt 1 maxSegments identity start s = s := by
  unfold State.linkStartAt
  rw [if_neg (by obtain h | h := h <;> simp [h]), if_neg hi, if_neg (not_not_intro rfl), if_neg hm]

/-- A LINK-START that neither comes from this station nor draws another answer is taken in STARTING and UP (R163). -/
theorem linkStartAt_of_good (hi : identity ≠ s.link.config.identity) (hm : segmentsGood maxSegments = true) :
    State.linkStartAt 1 maxSegments identity start s = s.startTaken maxSegments identity start := by
  unfold State.linkStartAt
  rw [if_neg (by obtain h | h := h <;> simp [h]), if_neg hi, if_neg (not_not_intro rfl), if_pos hm]

end

/-- LOOPED is raised once in a STARTING period (R163). -/
theorem loopSeen_first (h : s.link.state = .starting) (hl : s.link.looped = false) (hroom : s.events.length ≤ 126) :
    s.loopSeen identity = { s with
      link := { s.link with looped := true }, events := s.events ++ [{ kind := .looped, tag := some identity }] } := by
  unfold State.loopSeen
  rw [if_pos ⟨h, hl⟩, raise_of_room _ _ (by rw [onLink_events]; omega)]
  rfl

theorem loopSeen_again (h : s.link.state = .up ∨ s.link.looped = true) : s.loopSeen identity = s :=
  if_neg fun k => by obtain h | h := h <;> simp [h] at k

theorem startTaken_of_starting (h : s.link.state = .starting) :
    s.startTaken maxSegments identity start =
      (s.setPendingLink (some .linkAgree)).reachUp maxSegments.toNat identity start := by
  unfold State.startTaken
  rw [h]

/-- A repeat draws LINK-AGREE again (R166). -/
theorem startTaken_of_repeat (h : s.link.state = .up) (hi : s.link.peerIdentity = some identity)
    (hn : s.link.peerStart = some start) :
    s.startTaken maxSegments identity start = s.setPendingLink (some .linkAgree) := by
  unfold State.startTaken
  rw [h]
  exact if_pos ⟨hi, hn⟩

/-- Another identity or start number is a peer restart (R166). -/
theorem startTaken_of_restart (h : s.link.state = .up)
    (hn : s.link.peerIdentity ≠ some identity ∨ s.link.peerStart ≠ some start) :
    s.startTaken maxSegments identity start = s.peerRestart maxSegments.toNat identity start := by
  unfold State.startTaken
  rw [h]
  exact if_neg fun k => hn.elim (fun hi => hi k.1) (fun hs => hs k.2)

end
end

/-- Settles O30: the checks of R163 in their order, and a good LINK-START by the link state. -/
theorem linkStartArrivalFollowsTheChecks : Obligations.LinkStartArrivalFollowsTheChecks := by
  intro s version maxSegments identity start hs row agreed good running
  have hexec := exec_linkStart hs version maxSegments identity start
  have reacts {t : State} (h : State.linkStartAt version maxSegments identity start s.heard = t) :
      exec row s = .next t := hexec.trans (congrArg _ h)
  refine ⟨fun h => reacts (linkStartAt_of_stopped (s := s.heard) h), fun h hi hl hroom => ?_, fun h hi hl => ?_,
    fun h hi hv => reacts (linkStartAt_of_version (s := s.heard) h hi hv), fun h hi hv hm => ?_,
    fun h hg hi hn => ?_, fun h hg hp => ?_⟩
  · exact reacts ((linkStartAt_of_own (s := s.heard) (.inl h) hi).trans (loopSeen_first (s := s.heard) h hl hroom))
  · exact reacts ((linkStartAt_of_own (s := s.heard) h hi).trans (loopSeen_again (s := s.heard) hl))
  · subst hv
    exact reacts (linkStartAt_of_outside (s := s.heard) h hi (by rw [segmentsGood_iff]; omega))
  · obtain ⟨hother, rfl, hlow, hhigh⟩ := hg
    exact reacts ((linkStartAt_of_good (s := s.heard) (.inr h) hother ((segmentsGood_iff _).2 ⟨hlow, hhigh⟩)).trans
      (startTaken_of_repeat (s := s.heard) h hi hn))
  · obtain ⟨hother, rfl, hlow, hhigh⟩ := hg
    exact ⟨_, reacts ((linkStartAt_of_good (s := s.heard) (.inl h) hother ((segmentsGood_iff _).2 ⟨hlow, hhigh⟩)).trans
      (startTaken_of_starting (s := s.heard) h)), reachUp_pending (s := s.heard) _ _ _ _ hp⟩

/-- Settles O31: a LINK-AGREE in STARTING brings the link UP, and any other is discarded. -/
theorem linkAgreeArrivalReachesUp : Obligations.LinkAgreeArrivalReachesUp := by
  intro s maxSegments identity start hs row agreed
  have hexec := exec_linkAgree hs maxSegments identity start
  refine ⟨fun h => hexec.trans (congrArg _ (if_neg fun k => ?_)), fun h hlow hhigh hp => ?_⟩
  · have hm := (segmentsGood_iff _).1 k.2
    exact h.elim (fun hne => hne k.1) fun hm' => by omega
  · exact ⟨_, hexec.trans (congrArg _ (if_pos ⟨h, (segmentsGood_iff _).2 ⟨hlow, hhigh⟩⟩)),
      reachUp_pending (s := s.heard) _ _ _ _ hp⟩

end Sys2Proof.Machine

/-! PROOFS. A peer restart (R161): every record is moved, and then every fixed circuit in OPEN resumes. -/

namespace Sys2Proof.Machine

section
variable {s t : State} {c : CircuitNo} {r : CircuitRecord}

/-! ### The first pass: every record moved (R161) -/

/-- A fixed circuit's record in OPEN with both sides rewound, its send side not yet resumed (R161). -/
def CircuitRecord.rewoundOpen (r : CircuitRecord) : CircuitRecord :=
  { (r.enter .opened).emptyTransfer with protocol := none, send := r.send.rewound, recv := r.recv.rewound }

/-- A record after the first pass of a peer restart (R161). -/
def CircuitRecord.restarted (r : CircuitRecord) : CircuitRecord :=
  match r.kind, r.state with
  | some .fixed, .opened => r.rewoundOpen
  | some .fixed, .rewinding => r.rewoundOpen
  | _, _ => leftUpRecord Cause.linkReset r

theorem restarted_of_runs (h : r.Runs) : r.restarted = r.rewoundOpen := by
  obtain ⟨hk, hs | hs⟩ := h <;> (unfold CircuitRecord.restarted; rw [hk, hs])

theorem restarted_of_other (h : ¬ r.Runs) : r.restarted = leftUpRecord Cause.linkReset r := by
  unfold CircuitRecord.restarted
  split
  · next hk hs => exact absurd ⟨hk, .inl hs⟩ h
  · next hk hs => exact absurd ⟨hk, .inr hs⟩ h
  · rfl

/-- The link's leaving UP leaves no other fixed record in OPEN (R160). -/
theorem leftUpRecord_not_opened (h : ¬ r.Runs) (cause : Octet) :
    ¬ ((leftUpRecord cause r).kind = some .fixed ∧ (leftUpRecord cause r).state = .opened) := by
  generalize hq : leftUpRecord cause r = q
  rintro ⟨hk, ho⟩
  unfold leftUpRecord at hq
  split at hq
  iterate 7 subst hq; cases ho
  · next hs => subst hq; rw [hs] at ho; cases ho
  · subst hq; exact h ⟨hk, .inl ho⟩

theorem Moved.of_record {f g : CircuitRecord → CircuitRecord} {cause : Octet} (h : Moved f cause c s t)
    (hfg : f (s.circuit c) = g (s.circuit c)) : Moved g cause c s t := { h with record := hfg ▸ h.record }

theorem rewoundOpen_circuit (s : State) (c : CircuitNo) :
    (((s.rewindSend c).rewindRecv c).onCircuit c (fun r =>
      { (r.enter .opened).emptyTransfer with protocol := none })).circuit c = (s.circuit c).rewoundOpen := by
  rw [circuit_onCircuit_self, rewindRecv_circuit, rewindSend_circuit]
  unfold CircuitRecord.stopSendTimer
  split <;> rfl

/-- Each record's move in the first pass of a peer restart (R161). -/
theorem restartRecord_moved (s : State) (c : CircuitNo) :
    Moved CircuitRecord.restarted Cause.linkReset c s (s.restartRecord c) := by
  have rewound (h : (s.circuit c).Runs) := rewound_moved (record := CircuitRecord.restarted) Cause.linkReset h
    ((rewoundOpen_circuit s c).trans (restarted_of_runs h).symm) (by rw [restarted_of_runs h]; rfl)
  unfold State.restartRecord
  split
  · next hk hs => exact rewound ⟨hk, .inl hs⟩
  · next hk hs => exact rewound ⟨hk, .inr hs⟩
  · next hopened hrewinding =>
    exact (leaveRecord_moved Cause.linkReset s c).of_record
      (restarted_of_other fun h => h.2.elim (hopened h.1) (hrewinding h.1)).symm

/-! ### The second pass: the fixed circuits in OPEN resume (R161) -/

/-- A record after the second pass of a peer restart (R161). -/
def CircuitRecord.reagreed (agreed : Nat) (r : CircuitRecord) : CircuitRecord :=
  if r.kind = some .fixed ∧ r.state = .opened then (r.agree agreed).resumed else r

/-- A fixed circuit in OPEN whose peer is taken for not ready changes alone (R161). -/
theorem reagreeRecord_eq (agreed : Nat)
    (h : (s.circuit c).kind = some .fixed ∧ (s.circuit c).state = .opened → (s.circuit c).send.peerReady = false) :
    s.reagreeRecord agreed c = s.setCircuit c ((s.circuit c).reagreed agreed) := by
  unfold State.reagreeRecord CircuitRecord.reagreed
  split
  · next hk => exact onCircuit_resumeSend (f := fun r => r.agree agreed) (h hk)
  · exact (setCircuit_circuit_self s c).symm

/-- The first pass leaves no fixed circuit in OPEN with its peer ready (R48, R161). -/
theorem restarted_peerReady (hk : r.restarted.kind = some .fixed ∧ r.restarted.state = .opened) :
    r.restarted.send.peerReady = false := by
  by_cases h : r.Runs
  · rw [restarted_of_runs h]
    rfl
  · rw [restarted_of_other h] at hk
    exact absurd hk (leftUpRecord_not_opened h _)

/-- Both passes on a record that is not a running fixed circuit (R160, R161). -/
theorem reagreed_of_other (agreed : Nat) (stale : Bool) (h : ¬ r.Runs) :
    CircuitRecord.reagreed agreed { r.restarted with stale } = { leftUpRecord Cause.linkReset r with stale } := by
  rw [restarted_of_other h]
  exact if_neg (leftUpRecord_not_opened h _)

/-- Both passes on a running fixed circuit (R161). -/
theorem reagreed_of_runs {agreed maximum : Nat} (stale : Bool) (h : r.Runs) (hm : r.fixedMaximum = some maximum) :
    CircuitRecord.reagreed agreed { r.restarted with stale } = { r with
      stale, state := .opened, timer := none, retryCount := 0, note := none, protocol := none
      transfer := resumedTransfer r.send.rewound, answer := none, maxSegments := some (min maximum agreed)
      send := r.send.rewound.resumed, recv := r.recv.rewound } := by
  rw [restarted_of_runs h]
  unfold CircuitRecord.reagreed
  rw [if_pos ⟨h.1, rfl⟩, agree_of_some (show CircuitRecord.fixedMaximum { r.rewoundOpen with stale } = _ from hm)]
  rfl

/-! ### The peer restart (R161) -/

/-- The state of a peer restart before its two events: both passes, the loose-reply queue emptied, and the link record
with the new values. -/
structure Restarts (agreed : Nat) (identity start : Word) (s v : State) : Prop where
  records     : ∀ c, v.circuit c =
    CircuitRecord.reagreed agreed { (s.circuit c).restarted with stale := (v.circuit c).stale }
  events      : s.events.length ≤ 63 → v.events = s.events ++ s.leftUpEvents Cause.linkReset
  descriptors : DescriptorsLeftUp s v
  others      : v = { s with
    circuits := v.circuits, descriptors := v.descriptors, events := v.events, loose := []
    link := { s.link with
      agreed := some agreed, peerIdentity := some identity, peerStart := some start, pending := some .linkAgree } }

theorem peerRestart_restarts (s : State) (offered : Nat) (identity start : Word) :
    let agreed := min s.link.config.offered offered
    ∃ v, Restarts agreed identity start s v ∧
      s.peerRestart offered identity start =
        (v.raise (linkDownEvent Cause.linkReset s.liveDialledCount .up)).raise (linkUpEvent agreed identity true) := by
  intro agreed
  refine ⟨_, ?_, rfl⟩
  have hmoved := forEachCircuit_moved restartRecord_moved s
  generalize s.forEachCircuit State.restartRecord = u at hmoved
  have hall (c : CircuitNo) := hmoved.moved c (List.mem_finRange c)
  generalize hw : ({ u with loose := [] } : State).onLink (fun l =>
    { l with agreed := some agreed, peerIdentity := some identity, peerStart := some start }) = w
  have hcircuits (c : CircuitNo) : w.circuit c = u.circuit c := by rw [← hw]; rfl
  obtain ⟨hothers, hrecords⟩ := forEachCircuit_setCircuit (s := w)
    (P := fun r => r.kind = some .fixed ∧ r.state = .opened → r.send.peerReady = false)
    (fun _ _ h => reagreeRecord_eq agreed h) fun c => by
      rw [hcircuits, hall]
      exact restarted_peerReady (r := s.circuit c)
  have hagreed : s.agreedWith offered = agreed := rfl
  dsimp only
  rw [hagreed, hw]
  generalize w.forEachCircuit (State.reagreeRecord agreed) = v at hothers hrecords
  have hv : v = { s with
      circuits := v.circuits, descriptors := u.descriptors, events := u.events, loose := []
      link := { s.link with agreed := some agreed, peerIdentity := some identity, peerStart := some start } } := by
    refine hothers.trans ?_
    generalize v.circuits = circuits
    rw [← hw, hmoved.others]
    rfl
  refine ⟨fun c => ?_, fun hroom => ?_, fun c d hd hone => ?_, ?_⟩
  · have hrecord : v.circuit c = CircuitRecord.reagreed agreed
        { (s.circuit c).restarted with stale := (u.circuit c).stale } := by
      rw [hrecords, hcircuits, ← hall]
    have hstale : (v.circuit c).stale = (u.circuit c).stale := by
      rw [hrecord]
      unfold CircuitRecord.reagreed
      split <;> rfl
    show v.circuit c = CircuitRecord.reagreed agreed { (s.circuit c).restarted with stale := (v.circuit c).stale }
    rw [hstale]
    exact hrecord
  · exact (congrArg State.events hv).trans (hmoved.leftUpEvents hroom).1
  · exact (descriptor_of_descriptors (congrArg State.descriptors hv) d).trans
      (hmoved.descriptorsLeftUp c d hd hone)
  · generalize hc : (v.setPendingLink (some .linkAgree)).circuits = circuits
    obtain rfl : v.circuits = circuits := hc
    rw [hv]
    rfl

/-- Two events that name no circuit change the event queue and the link stale flag at most (R204, R206). -/
theorem raise_raise_link_eq (s : State) {e f : Event} (he : e.circuit = none) (hf : f.circuit = none) :
    (s.raise e).raise f =
      { s with events := ((s.raise e).raise f).events, linkStale := ((s.raise e).raise f).linkStale } := by
  refine (raise_link_eq (s.raise e) hf).trans ?_
  generalize (s.raise e).raise f = t
  rw [raise_link_eq s he]

theorem raise_raise_of_room (s : State) (e f : Event) (h : s.events.length ≤ 125) :
    ((s.raise e).raise f).events = s.events ++ [e, f] := by
  rw [raise_of_room s e (by omega), raise_of_room _ f (by simp only [List.length_append, List.length_singleton]; omega),
    List.append_assoc]
  rfl

end

/-- Settles O32: a LINK-START with other values in UP is a peer restart, record by record. -/
theorem peerRestartMovesTheCircuits : Obligations.PeerRestartMovesTheCircuits := by
  intro s maxSegments identity start hs hup hother hlow hhigh hnew agreed
  have hexec : exec (.linkStartArrival 1 maxSegments identity start) s =
      .next (s.heard.peerRestart maxSegments.toNat identity start) :=
    (exec_linkStart hs 1 maxSegments identity start).trans (congrArg _
      ((linkStartAt_of_good (s := s.heard) (.inr hup) hother ((segmentsGood_iff _).2 ⟨hlow, hhigh⟩)).trans
        (startTaken_of_restart (s := s.heard) hup hnew)))
  obtain ⟨v, hv, hrestart⟩ := peerRestart_restarts s.heard maxSegments.toNat identity start
  have ht := raise_raise_link_eq v (e := linkDownEvent Cause.linkReset s.liveDialledCount .up)
    (f := linkUpEvent agreed identity true) rfl rfl
  have hevents := raise_raise_of_room v (linkDownEvent Cause.linkReset s.liveDialledCount .up)
    (linkUpEvent agreed identity true)
  generalize hmade : (v.raise (linkDownEvent Cause.linkReset s.liveDialledCount .up)).raise
    (linkUpEvent agreed identity true) = t at ht hevents
  have hcircuits : t.circuits = v.circuits := by rw [ht]
  have hdescriptors : t.descriptors = v.descriptors := by rw [ht]
  have hrecord (c : CircuitNo) : t.circuit c =
      CircuitRecord.reagreed agreed { (s.circuit c).restarted with stale := (t.circuit c).stale } := by
    rw [circuit_of_circuits hcircuits]
    exact hv.records c
  refine ⟨t, hexec.trans (congrArg _ (hrestart.trans hmade)), ?_, leftUpEvents_length s _, fun hroom => ?_,
    fun c d hd hone => ?_, fun c hc => ?_, fun c m hk hr hm => ?_⟩
  · rw [hcircuits, hdescriptors]
    refine ht.trans ?_
    generalize t.events = events
    generalize t.linkStale = linkStale
    rw [hv.others]
    rfl
  · have hfirst : v.events = s.events ++ s.leftUpEvents Cause.linkReset := 
      hv.events (Nat.le_trans hroom (by decide))
    have hlength := leftUpEvents_length_le s Cause.linkReset
    rw [hevents (by rw [hfirst, List.length_append]; omega), hfirst]
    rfl
  · exact (descriptor_of_descriptors hdescriptors d).trans (hv.descriptors c d hd hone)
  · exact (hrecord c).trans (reagreed_of_other agreed _ hc)
  · exact (hrecord c).trans (reagreed_of_runs _ ⟨hk, hr⟩ hm)

end Sys2Proof.Machine

/-! PROOFS. The transmission end (R191): what it reports to the link (R169), to the Send Engine (R32, R33, R42, R45) and
to the Buffer Manager (R89). -/

namespace Sys2Proof.Machine

section
variable {s : State} {x : TxFrame} {c : CircuitNo} {number : BlockNumber}

/-! ### What the Send Engine hears -/

/-- The block whose segment ends: SENDING, of the frame's number, the index still to be sent (R32). -/
def CircuitRecord.SendsSegment (r : CircuitRecord) (number : BlockNumber) (i : Nat) (a : ActiveBlock) : Prop :=
  r.send.sender = .sending ∧ r.send.active = some a ∧ a.number = number ∧ a.toSend.getLsbD i = true

/-- A block whose BLOCK-END ends with nothing left to send, for the first time or polled again (R33). -/
def CircuitRecord.EndsBlock (r : CircuitRecord) (number : BlockNumber) : Prop :=
  ∃ a, r.send.active = some a ∧ a.number = number ∧
    ((r.send.sender = .sending ∧ a.toSend = 0) ∨ r.send.sender = .polling)

/-- A block that is being abandoned, of the frame's number (R42). -/
def CircuitRecord.Abandons (r : CircuitRecord) (number : BlockNumber) : Prop :=
  ∃ a, r.send.active = some a ∧ a.number = number ∧ r.send.sender = .abandoning

/-- A segment that is not the last to be sent leaves the to-send set (R32). -/
theorem segSent_of_left {i : Nat} {a : ActiveBlock} (h : (s.circuit c).SendsSegment number i a)
    (hleft : withoutSegment a.toSend i ≠ 0) :
    s.segSent c number i = s.setCircuit c { s.circuit c with
      send := { (s.circuit c).send with active := some { a with toSend := withoutSegment a.toSend i } } } := by
  obtain ⟨hsender, hactive, hnumber, hbit⟩ := h
  unfold State.segSent
  rw [hsender, hactive]
  dsimp only
  rw [if_pos ⟨hnumber, hbit⟩, if_neg hleft]
  rfl

/-- The last segment makes BLOCK-END pending with poll count 1 (R32). -/
theorem segSent_of_last {i : Nat} {a : ActiveBlock} (h : (s.circuit c).SendsSegment number i a)
    (hleft : withoutSegment a.toSend i = 0) :
    s.segSent c number i = s.setCircuit c { s.circuit c with
      transfer := some .blockEnd
      send := { (s.circuit c).send with
        pollCount := 1, active := some { a with toSend := withoutSegment a.toSend i } } } := by
  obtain ⟨hsender, hactive, hnumber, hbit⟩ := h
  unfold State.segSent
  rw [hsender, hactive]
  dsimp only
  rw [if_pos ⟨hnumber, hbit⟩, if_pos hleft, State.onSend, State.onSend, State.setTransfer, onCircuit_onCircuit,
    onCircuit_onCircuit]
  rfl

theorem segSent_of_not {i : Nat} (h : ∀ a, ¬ (s.circuit c).SendsSegment number i a) : s.segSent c number i = s := by
  unfold State.segSent
  split
  · next a hsender hactive => exact if_neg fun hfits => h a ⟨hsender, hactive, hfits⟩
  · rfl

/-- BLOCK-END puts the sender in POLLING and starts the STATUS timer (R33). -/
theorem blockEndSent_of_ends (h : (s.circuit c).EndsBlock number) :
    s.blockEndSent c number = s.setCircuit c { s.circuit c with
      timer := some { purpose := .status, remaining := s.link.config.statusTimer }
      send := { (s.circuit c).send with sender := .polling } } := by
  obtain ⟨a, hactive, hfits⟩ := h
  unfold State.blockEndSent
  rw [hactive]
  dsimp only
  rw [if_pos hfits]
  exact onCircuit_onCircuit ..

theorem blockEndSent_of_not (h : ¬ (s.circuit c).EndsBlock number) : s.blockEndSent c number = s := by
  unfold State.blockEndSent
  split
  · next a hactive => exact if_neg fun hfits => h ⟨a, hactive, hfits⟩
  · rfl

/-- BLOCK-ABANDON starts the STATUS timer in ABANDONING (R42). -/
theorem blockAbandonSent_of_abandons (h : (s.circuit c).Abandons number) :
    s.blockAbandonSent c number = s.setCircuit c { s.circuit c with
      timer := some { purpose := .status, remaining := s.link.config.statusTimer } } := by
  obtain ⟨a, hactive, hnumber, hsender⟩ := h
  unfold State.blockAbandonSent
  rw [hsender, hactive]
  exact if_pos hnumber

theorem blockAbandonSent_of_not (h : ¬ (s.circuit c).Abandons number) : s.blockAbandonSent c number = s := by
  unfold State.blockAbandonSent
  split
  · next a hsender hactive => exact if_neg fun hnumber => h ⟨a, hactive, hnumber, hsender⟩
  · rfl

/-- Only SEG, BLOCK-END, BLOCK-ABANDON and PROBE are reported (R191). -/
theorem reportToSender_of_other {f : Frame} (hseg : ∀ label number index payload, f ≠ .seg label number index payload)
    (hend : ∀ label number count, f ≠ .blockEnd label number count)
    (habandon : ∀ label number, f ≠ .blockAbandon label number) (hprobe : ∀ label, f ≠ .probe label) :
    s.reportToSender c f = s := by
  unfold State.reportToSender
  split
  · exact (hseg _ _ _ _ rfl).elim
  · exact (hend _ _ _ rfl).elim
  · exact (habandon _ _ rfl).elim
  · exact (hprobe _ rfl).elim
  · rfl

/-! ### What the link hears (R169) -/

theorem linkFrameSent_of_other {f : Frame} (h : ∀ cause, f ≠ .linkStop cause) : s.linkFrameSent f = s := by
  unfold State.linkFrameSent
  split
  · exact (h _ rfl).elim
  · rfl

theorem linkFrameSent_of_answering {cause : Octet}
    (h : s.link.state = .stopping ∧ s.link.stopKind = some .answering ∧ s.link.pending = none) :
    s.linkFrameSent (.linkStop cause) = { s with link := s.link.downed } := if_pos h

theorem linkFrameSent_of_not_answering {cause : Octet}
    (h : s.link.state ≠ .stopping ∨ s.link.stopKind ≠ some .answering ∨ s.link.pending ≠ none) :
    s.linkFrameSent (.linkStop cause) = s :=
  if_neg fun ⟨hstate, hkind, hpending⟩ =>
    h.elim (· hstate) fun h => h.elim (· hkind) (· hpending)

/-! ### The report of a frame to its owner (R191) -/

theorem reportEnd_of_loose (ho : x.owner = .loose) : s.reportEnd x = s := by
  unfold State.reportEnd
  rw [ho]

theorem reportEnd_of_link (ho : x.owner = .link) : s.reportEnd x = s.linkFrameSent x.frame := by
  unfold State.reportEnd
  rw [ho]

theorem reportEnd_of_circuit (ho : x.owner = .circuit c) :
    s.reportEnd x = (if x.detached then s else s.reportToSender c x.frame).endPin x.pin := by
  unfold State.reportEnd
  rw [ho]

/-- The end of a pin touches the descriptors alone, and reads no record (R89). -/
theorem setCircuit_endPin (s : State) (c : CircuitNo) (q : CircuitRecord) (pin : Option (Nat × DescNo)) :
    (s.setCircuit c q).endPin pin =
      { s with descriptors := (s.endPin pin).descriptors, circuits := s.circuits.set c.val q } := by
  cases pin with
  | none => rfl
  | some pin =>
    unfold State.endPin
    dsimp only
    rw [descriptor_setCircuit]
    split <;> rfl

theorem endPin_eq (s : State) (pin : Option (Nat × DescNo)) :
    s.endPin pin = { s with descriptors := (s.endPin pin).descriptors } := by
  unfold State.endPin
  repeat' split
  all_goals rfl

/-- A frame that changes no record reports the end of its pin alone. -/
theorem reportEnd_of_silent (ho : x.owner = .circuit c) (h : x.detached = false → s.reportToSender c x.frame = s) :
    s.reportEnd x = { s with descriptors := (s.endPin x.pin).descriptors } := by
  rw [reportEnd_of_circuit ho]
  split
  · exact endPin_eq ..
  · next hattached => rw [h (Bool.eq_false_iff.2 hattached)]; exact endPin_eq ..

/-- A frame that changes its circuit's record reports that and the end of its pin. -/
theorem reportEnd_of_report {q : CircuitRecord} (ho : x.owner = .circuit c) (hd : x.detached = false)
    (h : s.reportToSender c x.frame = s.setCircuit c q) :
    s.reportEnd x =
      { s with descriptors := (s.endPin x.pin).descriptors, circuits := s.circuits.set c.val q } := by
  rw [reportEnd_of_circuit ho, if_neg (Bool.eq_false_iff.1 hd), h]
  exact setCircuit_endPin ..

/-- The end of the frame in transmission: the reports, and a free transmitter that sends idle fill (R178, R191). -/
theorem exec_transmissionEnd {t : State} (hx : s.tx = some x) (ht : s.reportEnd x = t) :
    exec .transmissionEnd s = .next { t with tx := none, line := .idleFill } := by
  show Host.Outcome.next s.endTransmission = _
  unfold State.endTransmission
  rw [hx, ← ht]

end

/-- Settles O52: the end of a frame by its owner, and by its kind where a circuit owns it. -/
theorem transmissionEndReportsToTheOwner : Obligations.TransmissionEndReportsToTheOwner := by
  intro s x hx ends
  have hends {t : State} (ht : s.reportEnd x = t) : ends t := exec_transmissionEnd hx ht
  refine ⟨fun ho => hends (reportEnd_of_loose ho),
    fun ho hf => hends ((reportEnd_of_link ho).trans (linkFrameSent_of_other hf)),
    fun cause ho hf => ⟨fun hstate hkind hpending => hends ?_, fun hnot => hends ?_⟩,
    fun c ho => ?_⟩
  · rw [reportEnd_of_link ho, hf, linkFrameSent_of_answering ⟨hstate, hkind, hpending⟩]
  · rw [reportEnd_of_link ho, hf, linkFrameSent_of_not_answering hnot]
  intro r released silent reports
  have hreleased : (s.endPin x.pin).descriptors = released := by
    simp only [released]
    unfold State.endPin
    cases x.pin with
    | none => rfl
    | some pin => dsimp only; split <;> rfl
  have hsilent (h : x.detached = false → s.reportToSender c x.frame = s) : silent :=
    hends (hreleased ▸ reportEnd_of_silent ho h)
  refine ⟨fun hd => hsilent fun h => absurd (hd.symm.trans h) (by decide), fun hd => ?_⟩
  have hreports {q : CircuitRecord} (h : s.reportToSender c x.frame = s.setCircuit c q) : reports q :=
    hends (hreleased ▸ reportEnd_of_report ho hd h)
  refine ⟨fun label number index payload hf => ?_, fun label number count hf => ?_,
    fun label number hf => ?_, fun label hf => ?_, fun hseg hend habandon hprobe =>
      hsilent fun _ => reportToSender_of_other hseg hend habandon hprobe⟩
  · rw [hf] at hreports hsilent
    exact ⟨fun a ha => ⟨fun hleft => hreports (segSent_of_left ha hleft),
      fun hleft => hreports (segSent_of_last ha hleft)⟩, fun hnone => hsilent fun _ => segSent_of_not hnone⟩
  · rw [hf] at hreports hsilent
    exact ⟨fun h => hreports (blockEndSent_of_ends h), fun h => hsilent fun _ => blockEndSent_of_not h⟩
  · rw [hf] at hreports hsilent
    exact ⟨fun h => hreports (blockAbandonSent_of_abandons h), fun h => hsilent fun _ => blockAbandonSent_of_not h⟩
  · rw [hf] at hreports hsilent
    exact ⟨fun h => hreports (if_pos h), fun h => hsilent fun _ => if_neg h⟩

end Sys2Proof.Machine

/-! PROOFS. The transmission start (R187 to R190): the claim each stage supplies, and the frame that starts for it. -/

namespace Sys2Proof.Machine

/-! ### Searches in turn (R31, R188) -/

/-- A round-robin search gives what the first circuit in turn offers (R188). -/
theorem findSome?_circuitsAfter {α : Type} {f : CircuitNo → Option α} {position k : CircuitNo} {a : α}
    (before : ∀ j, j < k → f (position + 1 + j) = none) (hk : f (position + 1 + k) = some a) :
    (circuitsAfter position).findSome? f = some a := by
  have hlength : k.val < (List.finRange 64).length := by rw [List.length_finRange]; exact k.isLt
  have hsplit : List.finRange 64 = (List.finRange 64).take k ++ k :: (List.finRange 64).drop (k + 1) := by
    refine (List.take_append_drop k.val (List.finRange 64)).symm.trans ?_
    rw [List.drop_eq_getElem_cons hlength, List.getElem_finRange]
    rfl
  unfold circuitsAfter
  rw [List.findSome?_map]
  refine List.findSome?_eq_some_iff.2 ⟨_, k, _, hsplit, hk, fun j hj => before j ?_⟩
  obtain ⟨i, hi, rfl⟩ := List.mem_take_iff_getElem.1 hj
  rw [List.getElem_finRange]
  exact (Nat.lt_min.1 hi).1

theorem findSome?_circuitsAfter_eq_none {α : Type} {f : CircuitNo → Option α} (position : CircuitNo)
    (h : ∀ c, f c = none) : (circuitsAfter position).findSome? f = none :=
  List.findSome?_eq_none_iff.2 fun c _ => h c

theorem lowestSegment_eq_some {set : SegSet} {i : Nat} (hi : i < 64) (hbit : set.getLsbD i = true)
    (low : ∀ j, j < i → set.getLsbD j = false) : lowestSegment set = some i :=
  List.find?_range_eq_some.2 ⟨hbit, List.mem_range.2 hi, fun j hj => by rw [low j hj]; rfl⟩

/-- A set with no lowest index is empty (R31). -/
theorem lowestSegment_eq_none_iff {set : SegSet} : lowestSegment set = none ↔ set = 0 := by
  unfold lowestSegment
  rw [List.find?_range_eq_none]
  constructor
  · exact fun h => BitVec.eq_of_getLsbD_eq fun i hi => by simpa using h i hi
  · rintro rfl i -
    simp

section
variable {s : State} {c k : CircuitNo}

/-! ### What a circuit offers (R13, R188, R189) -/

/-- A circuit with no pending class offers circuit control nothing (R188). -/
theorem controlClaim_eq_none
    (h : ¬ ((s.circuit c).protocol ≠ none ∨ (s.circuit c).answer ≠ none ∨ (s.circuit c).transfer ≠ none)) :
    s.controlClaim c = none := by
  obtain ⟨hprotocol, hanswer, htransfer⟩ : (s.circuit c).protocol = none ∧ (s.circuit c).answer = none ∧
      (s.circuit c).transfer = none := by simpa using h
  unfold State.controlClaim
  rw [hprotocol, hanswer, htransfer]

theorem controlClaim_of_protocol {p : ProtocolKind} (hp : (s.circuit c).protocol = some p) :
    s.controlClaim c = some (.protocol c p) := by
  unfold State.controlClaim
  rw [hp]

theorem controlClaim_of_answer {p : AnswerKind} (hprotocol : (s.circuit c).protocol = none)
    (hp : (s.circuit c).answer = some p) : s.controlClaim c = some (.answer c p) := by
  unfold State.controlClaim
  rw [hprotocol, hp]

theorem controlClaim_of_transfer {p : TransferKind} (hprotocol : (s.circuit c).protocol = none)
    (hanswer : (s.circuit c).answer = none) (hp : (s.circuit c).transfer = some p) :
    s.controlClaim c = some (.transfer c p) := by
  unfold State.controlClaim
  rw [hprotocol, hanswer, hp]

/-- A circuit that is not SENDING, or has no segment to send, offers the data stage nothing (R189). -/
theorem dataClaim_eq_none
    (h : ¬ ((s.circuit c).send.sender = .sending ∧ ∃ a, (s.circuit c).send.active = some a ∧ a.toSend ≠ 0)) :
    s.dataClaim c = none := by
  unfold State.dataClaim
  split
  · next a hsender hactive =>
    have hempty : a.toSend = 0 := Decidable.not_not.1 fun hset => h ⟨hsender, a, hactive, hset⟩
    rw [lowestSegment_eq_none_iff.2 hempty]
    rfl
  · rfl

theorem dataClaim_of_segment {a : ActiveBlock} {i : Nat} (hsender : (s.circuit c).send.sender = .sending)
    (hactive : (s.circuit c).send.active = some a) (hlow : lowestSegment a.toSend = some i) :
    s.dataClaim c = some (.data c a i) := by
  unfold State.dataClaim
  rw [hsender, hactive]
  dsimp only
  rw [hlow]
  rfl

/-! ### The choice, stage by stage (R187) -/

theorem chooseClaim_of_link {p : PendingLink} (hp : s.link.pending = some p) : s.chooseClaim = some (.link p) := by
  unfold State.chooseClaim
  rw [hp]

theorem chooseClaim_of_not_up (hp : s.link.pending = none) (h : s.link.state ≠ .up) : s.chooseClaim = none := by
  unfold State.chooseClaim
  rw [hp]
  exact if_neg h

section
variable (hp : s.link.pending = none) (hup : s.link.state = .up)
include hp hup

theorem chooseClaim_of_up : s.chooseClaim = s.circuitStages := by
  unfold State.chooseClaim
  rw [hp]
  exact if_pos hup

theorem chooseClaim_of_loose {reply : LooseReply} {rest : List LooseReply} (h : s.loose = reply :: rest) :
    s.chooseClaim = some (.loose reply) := by
  rw [chooseClaim_of_up hp hup, State.circuitStages, h]

section
variable (hl : s.loose = [])
include hl

/-- Circuit control supplies the frame of the first circuit in turn with a pending class (R188). -/
theorem chooseClaim_of_control {claim : Claim}
    (before : ∀ j, j < k → s.controlClaim (s.controlPos + 1 + j) = none)
    (h : s.controlClaim (s.controlPos + 1 + k) = some claim) : s.chooseClaim = some claim := by
  rw [chooseClaim_of_up hp hup, State.circuitStages, hl]
  dsimp only
  rw [findSome?_circuitsAfter before h]
  rfl

section
variable (hcontrol : ∀ c, s.controlClaim c = none)
include hcontrol

/-- Data supplies the segment of the first circuit in turn with one to send (R189). -/
theorem chooseClaim_of_data {claim : Claim} (before : ∀ j, j < k → s.dataClaim (s.dataPos + 1 + j) = none)
    (h : s.dataClaim (s.dataPos + 1 + k) = some claim) : s.chooseClaim = some claim := by
  rw [chooseClaim_of_up hp hup, State.circuitStages, hl]
  dsimp only
  rw [findSome?_circuitsAfter_eq_none _ hcontrol, findSome?_circuitsAfter before h]
  rfl

theorem chooseClaim_of_idle (hdata : ∀ c, s.dataClaim c = none) : s.chooseClaim = none := by
  rw [chooseClaim_of_up hp hup, State.circuitStages, hl]
  dsimp only
  rw [findSome?_circuitsAfter_eq_none _ hcontrol, findSome?_circuitsAfter_eq_none _ hdata]
  rfl

end
end
end

/-! ### The start (R31, R190) -/

/-- The frame of the claim chosen starts at a free transmitter (R187, R190). -/
theorem exec_transmissionStart {claim : Claim} (htx : s.tx = none) (h : s.chooseClaim = some claim) :
    exec .transmissionStart s = .next (s.startClaim claim) := by
  show Host.Outcome.next s.startTransmission = _
  unfold State.startTransmission
  rw [htx, h]

theorem exec_transmissionStart_idle (h : s.chooseClaim = none) : exec .transmissionStart s = .next s := by
  show Host.Outcome.next s.startTransmission = _
  unfold State.startTransmission
  rw [h]
  split
  · next hclaim => cases hclaim
  · rfl

theorem startClaim_answer (s : State) (c : CircuitNo) (p : AnswerKind) :
    s.startClaim (.answer c p) = { s with
      circuits := s.circuits.set c.val { s.circuit c with
        answer := none
        recv := { (s.circuit c).recv with
          heldReported := !decide ((s.circuit c).recv.delivered.length < (s.circuit c).window) } }
      controlPos := c
      tx := some { owner := .circuit c, frame := s.answerFrame c p, detached := false, pin := none }
      line := .frame } := by
  rw [State.startClaim, State.setAnswer, onCircuit_onCircuit]
  rfl

/-- The payload of segment i: 256 octets of its page, or the rest of the byte length at the last index (R31). -/
theorem payload_eq (s : State) (x : Descriptor) {i page : Nat} (hpage : x.pages[i]? = some page) :
    s.payload x i = (List.range (if i + 1 < x.pages.length then 256
        else codeOf id x.byteLength - (x.pages.length - 1) * 256)).map (fun k => s.memory.read (256 * page + k)) := by
  have hlength : x.byteLength.getD 0 = codeOf id x.byteLength := by cases x.byteLength <;> rfl
  rw [State.payload, List.getD_eq_getElem?_getD, hpage, hlength, Memory.readAll, Nat.mul_comm]
  rfl

end

/-- Settles O50, stage by stage. -/
theorem schedulerServesItsStagesInOrder : Obligations.SchedulerServesItsStagesInOrder := by
  intro s htx starts claims sends
  have hstarts {claim : Claim} (h : s.chooseClaim = some claim) := exec_transmissionStart htx h
  refine ⟨fun p hp => hstarts (chooseClaim_of_link hp),
    fun hp hdown => exec_transmissionStart_idle (chooseClaim_of_not_up hp hdown), fun hp hup => ?_⟩
  refine ⟨fun reply rest hl => ?_, fun hl c k hc before => ?_, fun hl hclaims => ?_⟩
  · have hloose := hstarts (chooseClaim_of_loose hp hup hl)
    rw [State.startClaim, hl] at hloose
    exact hloose
  · subst hc
    have hcontrol {claim : Claim} (h : s.controlClaim (s.controlPos + 1 + k) = some claim) :=
      hstarts (chooseClaim_of_control hp hup hl (fun j hj => controlClaim_eq_none (before j hj)) h)
    exact ⟨fun p h => hcontrol (controlClaim_of_protocol h),
      fun p hprotocol h => (hcontrol (controlClaim_of_answer hprotocol h)).trans (congrArg _ (startClaim_answer ..)),
      fun p hprotocol hanswer h => hcontrol (controlClaim_of_transfer hprotocol hanswer h)⟩
  · have hcontrol (c : CircuitNo) : s.controlClaim c = none := controlClaim_eq_none (hclaims c)
    refine ⟨fun c k hc before a i page hsender hactive hi hbit hlow hpage => ?_, fun hsends => ?_⟩
    · subst hc
      have hdata := hstarts (chooseClaim_of_data hp hup hl hcontrol (fun j hj => dataClaim_eq_none (before j hj))
        (dataClaim_of_segment hsender hactive (lowestSegment_eq_some hi hbit hlow)))
      rw [State.startClaim, payload_eq s _ hpage, List.getD_eq_getElem?_getD, hpage] at hdata
      exact hdata
    · exact exec_transmissionStart_idle
        (chooseClaim_of_idle hp hup hl hcontrol fun c => dataClaim_eq_none (hsends c))

end Sys2Proof.Machine

/-! PROOFS. The fields of a frame on the line (R181, R209), and what the checks of a candidate make of a header and body
(R182). -/

namespace Sys2Proof.Machine

/-! ### Fields of more than one octet (12.1, R209) -/

theorem extract_append_low {v : Nat} (high : BitVec v) (low : Octet) : (high ++ low).extractLsb' 0 8 = low :=
  BitVec.extractLsb'_append_eq_right

theorem extract_append_high {v : Nat} (high : BitVec v) (low : Octet) (k : Nat) :
    (high ++ low).extractLsb' (k + 8) 8 = high.extractLsb' k 8 :=
  BitVec.extractLsb'_append_eq_of_le (Nat.le_add_left 8 k)

/-- A field's bits from k on, split at bit k + 8, are together again. -/
theorem extract_append_extract {n : Nat} (w : BitVec n) (k v : Nat) :
    w.extractLsb' (k + 8) v ++ w.extractLsb' k 8 = w.extractLsb' k (v + 8) :=
  BitVec.extractLsb'_append_extractLsb'_eq_extractLsb' rfl

theorem lowFirst_ofLowFirst (low high : Octet) : lowFirst (ofLowFirst low high) = [low, high] := by
  unfold lowFirst ofLowFirst
  simp only [extract_append_high, extract_append_low, BitVec.extractLsb'_eq_self]

theorem ofLowFirst_extract (w : Word) : ofLowFirst (w.extractLsb' 0 8) (w.extractLsb' 8 8) = w :=
  (extract_append_extract w 0 8).trans BitVec.extractLsb'_eq_self

theorem mapOctets_eq (map : SegSet) : mapOctets map =
    [map.extractLsb' 0 8, map.extractLsb' 8 8, map.extractLsb' 16 8, map.extractLsb' 24 8, map.extractLsb' 32 8,
      map.extractLsb' 40 8, map.extractLsb' 48 8, map.extractLsb' 56 8] := rfl

/-- The octets of a map made of eight octets are those octets. -/
theorem mapOctets_ofMapOctets (o0 o1 o2 o3 o4 o5 o6 o7 : Octet) :
    mapOctets (ofMapOctets o0 o1 o2 o3 o4 o5 o6 o7) = [o0, o1, o2, o3, o4, o5, o6, o7] := by
  rw [mapOctets_eq, ofMapOctets]
  simp only [extract_append_high, extract_append_low, BitVec.extractLsb'_eq_self]

/-- The map of a map's eight octets is the map. -/
theorem ofMapOctets_extract (map : SegSet) :
    ofMapOctets (map.extractLsb' 0 8) (map.extractLsb' 8 8) (map.extractLsb' 16 8) (map.extractLsb' 24 8)
      (map.extractLsb' 32 8) (map.extractLsb' 40 8) (map.extractLsb' 48 8) (map.extractLsb' 56 8) = map := by
  unfold ofMapOctets
  simp only [extract_append_extract]
  exact BitVec.extractLsb'_eq_self

/-! ### Ready flags and outcomes (R182 checks 7 and 8) -/

/-- A ready flag octet is 0 or 1 and no other. -/
theorem ofReadyOctet_eq_some_iff {o : Octet} {r : Bool} : ofReadyOctet o = some r ↔ o = readyOctet r := by
  unfold ofReadyOctet readyOctet
  cases r <;> grind

theorem exists_readyOctet_iff {o : Octet} : (∃ r, ofReadyOctet o = some r) ↔ o = 0 ∨ o = 1 := by
  simp only [ofReadyOctet_eq_some_iff, Bool.exists_bool]
  rfl

/-- The outcome code of a BLOCK-STATUS (R209). -/
def outcomeOctet : StatusOutcome → Octet
  | .missing _ => 0x01
  | .complete => 0x02
  | .abandoned => 0x03

/-- The body of a BLOCK-STATUS: the missing map, with MISSING alone (R209). -/
def outcomeBody : StatusOutcome → List Octet
  | .missing map => mapOctets map
  | .complete => []
  | .abandoned => []

theorem frameOctets_blockStatus (dst : Label) (number : BlockNumber) (outcome : StatusOutcome) (ready : Bool) :
    frameOctets (.blockStatus dst number outcome ready) =
      [0x1A, dst, 0, number, outcomeOctet outcome, readyOctet ready] ++ outcomeBody outcome := by
  cases outcome <;> rfl

/-- An outcome is read from its own code and body alone. -/
theorem parseOutcome_eq_some_iff {code : Octet} {body : List Octet} {o : StatusOutcome} :
    parseOutcome code body = some o ↔ code = outcomeOctet o ∧ body = outcomeBody o := by
  constructor
  · intro h
    unfold parseOutcome at h
    split at h
    · split at h
      · next hcode => cases h; exact ⟨hcode, rfl⟩
      · split at h
        · next hcode => cases h; exact ⟨hcode, rfl⟩
        · cases h
    · split at h
      · next hcode => cases h; exact ⟨hcode, (mapOctets_ofMapOctets ..).symm⟩
      · cases h
    · cases h
  · rintro ⟨rfl, rfl⟩
    cases o with
    | missing map => exact congrArg (fun m => some (StatusOutcome.missing m)) (ofMapOctets_extract map)
    | complete => rfl
    | abandoned => rfl

/-- The lengths and codes that name an outcome (R182 check 7). -/
theorem exists_outcome_iff {code : Octet} {body : List Octet} : (∃ o, parseOutcome code body = some o) ↔
    (code = 0x01 ∧ body.length = 8) ∨ ((code = 0x02 ∨ code = 0x03) ∧ body = []) := by
  simp only [parseOutcome_eq_some_iff]
  constructor
  · rintro ⟨o, rfl, rfl⟩
    cases o with
    | missing map => exact .inl ⟨rfl, rfl⟩
    | complete => exact .inr ⟨.inl rfl, rfl⟩
    | abandoned => exact .inr ⟨.inr rfl, rfl⟩
  · rintro (⟨rfl, hbody⟩ | ⟨rfl | rfl, rfl⟩)
    · match body, hbody with
      | [o0, o1, o2, o3, o4, o5, o6, o7], _ =>
        exact ⟨.missing (ofMapOctets o0 o1 o2 o3 o4 o5 o6 o7), rfl, (mapOctets_ofMapOctets ..).symm⟩
    · exact ⟨.complete, rfl, rfl⟩
    · exact ⟨.abandoned, rfl, rfl⟩

/-! ### The header and body of a candidate (R182 checks 3 to 8) -/

/-- The checks that a header and body must pass. -/
def PassesChecks (octets : List Octet) : Prop :=
  let kind := octets.getD 0 0
  kind ∈ frameKinds ∧ lengthOfKind kind octets.length ∧
  (kind = 0x01 ∨ kind = 0x02 ∨ kind = 0x03 → octets.getD 1 0 = 0) ∧
  (kind = 0x10 → (octets.getD 4 0).toNat ≤ 16 ∧ (octets.getD 4 0).toNat + 8 = octets.length) ∧
  (kind = 0x1A → (octets.getD 4 0 = 0x01 ∧ octets.length = 14) ∨
    ((octets.getD 4 0 = 0x02 ∨ octets.getD 4 0 = 0x03) ∧ octets.length = 6)) ∧
  (kind = 0x1A → octets.getD 5 0 = 0 ∨ octets.getD 5 0 = 1) ∧
  (kind = 0x1C → octets.getD 3 0 = 0 ∨ octets.getD 3 0 = 1)

/-- A header octet as its kind uses it, or 0 (R209). -/
def keptOctet (kind : Octet) (i : Nat) (o : Octet) : Octet := if i ∈ usedHeader kind then o else 0

section
variable {kind dst src f1 f2 f3 : Octet} {body : List Octet}

theorem withoutUnused_header : withoutUnused (kind :: dst :: src :: f1 :: f2 :: f3 :: body) =
    kind :: keptOctet kind 1 dst :: keptOctet kind 2 src :: keptOctet kind 3 f1 :: keptOctet kind 4 f2 ::
      keptOctet kind 5 f3 :: body := by
  have hbody (g : Nat → Octet → Octet) (hg : ∀ i o, g i o = o) : body.mapIdx g = body := by
    refine List.ext_getElem? fun i => ?_
    rw [List.getElem?_mapIdx]
    cases body[i]? with
    | none => rfl
    | some o => exact congrArg some (hg i o)
  simp only [withoutUnused, List.mapIdx_cons]
  rw [hbody _ fun i o => if_neg fun h => by omega]
  simp [keptOctet]

theorem passesChecks_header : PassesChecks (kind :: dst :: src :: f1 :: f2 :: f3 :: body) ↔
    kind ∈ frameKinds ∧ lengthOfKind kind (body.length + 6) ∧ (kind = 0x01 ∨ kind = 0x02 ∨ kind = 0x03 → dst = 0) ∧
    (kind = 0x10 → f2.toNat ≤ 16 ∧ f2.toNat + 8 = body.length + 6) ∧
    (kind = 0x1A → (f2 = 0x01 ∧ body.length + 6 = 14) ∨ ((f2 = 0x02 ∨ f2 = 0x03) ∧ body.length + 6 = 6)) ∧
    (kind = 0x1A → f3 = 0 ∨ f3 = 1) ∧ (kind = 0x1C → f1 = 0 ∨ f1 = 1) := Iff.rfl

end

/-- A candidate read as R182 has it: discarded if it fails a check, and otherwise the frame its octets spell. -/
def Reads (octets : List Octet) (result : Option Frame) : Prop :=
  (¬ PassesChecks octets → result = none) ∧
  (PassesChecks octets →
    ∃ f, result = some f ∧ f.wellFormed = true ∧ frameOctets f = withoutUnused octets)

section
variable {octets body : List Octet} {f : Frame} {dst : Octet}

theorem reads_some (hp : PassesChecks octets) (hf : f.wellFormed = true) (ho : frameOctets f = withoutUnused octets) :
    Reads octets (some f) :=
  ⟨fun h => absurd hp h, fun _ => ⟨f, rfl, hf, ho⟩⟩

theorem reads_none (h : ¬ PassesChecks octets) : Reads octets none := ⟨fun _ => rfl, fun hp => absurd hp h⟩

/-- A kind of six octets with nothing else to check. -/
theorem reads_short (hp : PassesChecks octets ↔ body = []) (hf : f.wellFormed = true)
    (ho : body = [] → frameOctets f = withoutUnused octets) : Reads octets (parseShort body f) := by
  cases body with
  | nil => exact reads_some (hp.2 rfl) hf (ho rfl)
  | cons o os => exact reads_none fun h => by cases hp.1 h

/-- A link kind with two body fields. -/
theorem reads_link {build : Word → Word → Frame} (hp : PassesChecks octets ↔ body.length = 4 ∧ dst = 0)
    (hf : ∀ i n, (build i n).wellFormed = true)
    (ho : dst = 0 → ∀ i n, body = lowFirst i ++ lowFirst n → frameOctets (build i n) = withoutUnused octets) :
    Reads octets (parseLink dst body build) := by
  unfold parseLink
  split
  · next i0 i1 n0 n1 =>
    split
    · next hd =>
      refine reads_some (hp.2 ⟨rfl, hd⟩) (hf ..) (ho hd _ _ ?_)
      rw [lowFirst_ofLowFirst, lowFirst_ofLowFirst]
      rfl
    · next hd => exact reads_none fun h => hd (hp.1 h).2
  · next hbody =>
    refine reads_none fun h => ?_
    obtain ⟨hlength, -⟩ := hp.1 h
    match body, hlength with
    | [i0, i1, n0, n1], _ => exact hbody _ _ _ _ rfl

end

/-! ### Kind by kind (R181, R209) -/

section
variable {dst src f1 f2 f3 : Octet} {body : List Octet}

theorem reads_openFrame : Reads (0x10 :: dst :: src :: f1 :: f2 :: f3 :: body)
    (parseFrame (0x10 :: dst :: src :: f1 :: f2 :: f3 :: body)) := by
  have hp : PassesChecks (0x10 :: dst :: src :: f1 :: f2 :: f3 :: body) ↔
      f2.toNat ≤ 16 ∧ f2.toNat + 2 = body.length := by
    simp [passesChecks_header, frameKinds, lengthOfKind]
    omega
  change Reads _ (parseOpen dst src f1 f2 body)
  unfold parseOpen
  split
  · next v0 v1 data =>
    split
    · next hlength =>
      refine reads_some (hp.2 ⟨hlength.1, by simp [hlength.2]⟩) (decide_eq_true (hlength.2 ▸ hlength.1)) ?_
      rw [withoutUnused_header, frameOctets, lowFirst_ofLowFirst, ← hlength.2, BitVec.ofNat_toNat]
      simp [keptOctet, usedHeader]
    · next hlength => exact reads_none fun h => hlength ⟨(hp.1 h).1, by simpa using (hp.1 h).2⟩
  · next hbody =>
    refine reads_none fun h => ?_
    obtain ⟨-, hlength⟩ := hp.1 h
    match body, hlength with
    | v0 :: v1 :: data, _ => exact hbody _ _ _ rfl

theorem reads_seg : Reads (0x17 :: dst :: src :: f1 :: f2 :: f3 :: body)
    (parseFrame (0x17 :: dst :: src :: f1 :: f2 :: f3 :: body)) := by
  have hp : PassesChecks (0x17 :: dst :: src :: f1 :: f2 :: f3 :: body) ↔ 1 ≤ body.length ∧ body.length ≤ 256 := by
    simp [passesChecks_header, frameKinds, lengthOfKind]
  change Reads _ (if 1 ≤ body.length ∧ body.length ≤ 256 then some (.seg dst f1 f2 body) else none)
  split
  · next h =>
    refine reads_some (hp.2 h) (by simpa [Frame.wellFormed] using h) ?_
    rw [withoutUnused_header]
    rfl
  · next h => exact reads_none (mt hp.1 h)

theorem reads_blockStatus : Reads (0x1A :: dst :: src :: f1 :: f2 :: f3 :: body)
    (parseFrame (0x1A :: dst :: src :: f1 :: f2 :: f3 :: body)) := by
  have hp : PassesChecks (0x1A :: dst :: src :: f1 :: f2 :: f3 :: body) ↔
      (∃ o, parseOutcome f2 body = some o) ∧ ∃ r, ofReadyOctet f3 = some r := by
    rw [exists_outcome_iff, exists_readyOctet_iff]
    simp [passesChecks_header, frameKinds, lengthOfKind]
    exact fun houtcome _ => houtcome.elim (fun h => .inr h.2) fun h => .inl h.2
  change Reads _ (match parseOutcome f2 body, ofReadyOctet f3 with
    | some outcome, some r => some (.blockStatus dst f1 outcome r)
    | _, _ => none)
  split
  · next outcome r houtcome hready =>
    refine reads_some (hp.2 ⟨⟨_, houtcome⟩, _, hready⟩) rfl ?_
    obtain ⟨rfl, rfl⟩ := parseOutcome_eq_some_iff.1 houtcome
    obtain rfl := ofReadyOctet_eq_some_iff.1 hready
    rw [withoutUnused_header, frameOctets_blockStatus]
    rfl
  · next hnone =>
    refine reads_none fun h => ?_
    obtain ⟨⟨o, ho⟩, r, hr⟩ := hp.1 h
    exact hnone o r ho hr

theorem reads_ready : Reads (0x1C :: dst :: src :: f1 :: f2 :: f3 :: body)
    (parseFrame (0x1C :: dst :: src :: f1 :: f2 :: f3 :: body)) := by
  have hp : PassesChecks (0x1C :: dst :: src :: f1 :: f2 :: f3 :: body) ↔
      body = [] ∧ ∃ r, ofReadyOctet f1 = some r := by
    rw [exists_readyOctet_iff]
    simp [passesChecks_header, frameKinds, lengthOfKind]
  change Reads _ (match ofReadyOctet f1 with
    | some r => parseShort body (.ready dst r)
    | none => none)
  split
  · next r hready =>
    refine reads_short (hp.trans (and_iff_left ⟨r, hready⟩)) rfl fun hbody => ?_
    obtain rfl := ofReadyOctet_eq_some_iff.1 hready
    rw [hbody, withoutUnused_header]
    rfl
  · next hnone =>
    refine reads_none fun h => ?_
    obtain ⟨-, r, hr⟩ := hp.1 h
    cases hnone.symm.trans hr

theorem reads_linkStop : Reads (0x03 :: dst :: src :: f1 :: f2 :: f3 :: body)
    (parseFrame (0x03 :: dst :: src :: f1 :: f2 :: f3 :: body)) := by
  have hp : PassesChecks (0x03 :: dst :: src :: f1 :: f2 :: f3 :: body) ↔ body = [] ∧ dst = 0 := by
    simp [passesChecks_header, frameKinds, lengthOfKind]
  change Reads _ (if dst = 0 then parseShort body (.linkStop f1) else none)
  split
  · next hd =>
    refine reads_short (hp.trans (and_iff_left hd)) rfl fun hbody => ?_
    rw [hbody, hd, withoutUnused_header]
    rfl
  · next hd => exact reads_none fun h => hd (hp.1 h).2

/-- The kinds of six octets in which no field is checked (R181, R182). -/
def plainKinds : List Octet := [0x11, 0x12, 0x13, 0x14, 0x15, 0x16, 0x18, 0x19, 0x1B]

theorem passesChecks_plain {kind : Octet} (hk : kind ∈ plainKinds) :
    PassesChecks (kind :: dst :: src :: f1 :: f2 :: f3 :: body) ↔ body = [] := by
  rw [passesChecks_header, ← List.length_eq_zero_iff]
  simp only [plainKinds, List.mem_cons, List.not_mem_nil, or_false] at hk
  rcases hk with rfl | rfl | rfl | rfl | rfl | rfl | rfl | rfl | rfl <;> simp [frameKinds, lengthOfKind]

theorem reads_plain {kind : Octet} {f : Frame} (hk : kind ∈ plainKinds) (hf : f.wellFormed = true)
    (ho : frameOctets f = kind :: keptOctet kind 1 dst :: keptOctet kind 2 src :: keptOctet kind 3 f1 ::
      keptOctet kind 4 f2 :: keptOctet kind 5 f3 :: []) :
    Reads (kind :: dst :: src :: f1 :: f2 :: f3 :: body) (parseShort body f) :=
  reads_short (passesChecks_plain hk) hf fun hbody => by rw [hbody, withoutUnused_header]; exact ho

theorem reads_linkStart : Reads (0x01 :: dst :: src :: f1 :: f2 :: f3 :: body)
    (parseFrame (0x01 :: dst :: src :: f1 :: f2 :: f3 :: body)) := by
  refine reads_link (build := .linkStart f1 f2) ?_ (fun _ _ => rfl) fun hd i n hbody => ?_
  · simp [passesChecks_header, frameKinds, lengthOfKind]
  · rw [hbody, hd, withoutUnused_header]
    rfl

theorem reads_linkAgree : Reads (0x02 :: dst :: src :: f1 :: f2 :: f3 :: body)
    (parseFrame (0x02 :: dst :: src :: f1 :: f2 :: f3 :: body)) := by
  refine reads_link (build := .linkAgree f1) ?_ (fun _ _ => rfl) fun hd i n hbody => ?_
  · simp [passesChecks_header, frameKinds, lengthOfKind]
  · rw [hbody, hd, withoutUnused_header]
    rfl

/-- A kind octet that names no kind (R182 check 3). -/
theorem parseFrame_of_no_kind {kind : Octet} (hk : kind ∉ frameKinds) :
    parseFrame (kind :: dst :: src :: f1 :: f2 :: f3 :: body) = none := by
  simp only [frameKinds, List.mem_cons, List.not_mem_nil, or_false, not_or] at hk
  obtain ⟨h01, h02, h03, h10, h11, h12, h13, h14, h15, h16, h17, h18, h19, h1A, h1B, h1C⟩ := hk
  unfold parseFrame
  dsimp only
  rw [if_neg h01, if_neg h02, if_neg h03, if_neg h10, if_neg h11, if_neg h12, if_neg h13, if_neg h14, if_neg h15,
    if_neg h16, if_neg h17, if_neg h18, if_neg h19, if_neg h1A, if_neg h1B, if_neg h1C]

/-- Every header and body is read as its kind has it. -/
theorem reads_header (kind : Octet) : Reads (kind :: dst :: src :: f1 :: f2 :: f3 :: body)
    (parseFrame (kind :: dst :: src :: f1 :: f2 :: f3 :: body)) := by
  by_cases hk : kind ∈ frameKinds
  · simp only [frameKinds, List.mem_cons, List.not_mem_nil, or_false] at hk
    rcases hk with rfl | rfl | rfl | rfl | rfl | rfl | rfl | rfl | rfl | rfl | rfl | rfl | rfl | rfl | rfl | rfl
    · exact reads_linkStart
    · exact reads_linkAgree
    · exact reads_linkStop
    · exact reads_openFrame
    · exact reads_plain (f := .accept dst src f1) (by decide) rfl rfl
    · exact reads_plain (f := .refuse dst src f1 f2) (by decide) rfl rfl
    · exact reads_plain (f := .close dst src f1 f2) (by decide) rfl rfl
    · exact reads_plain (f := .closeDone dst src) (by decide) rfl rfl
    · exact reads_plain (f := .rewind dst f1) (by decide) rfl rfl
    · exact reads_plain (f := .rewindDone dst) (by decide) rfl rfl
    · exact reads_seg
    · exact reads_plain (f := .blockEnd dst f1 f2) (by decide) rfl rfl
    · exact reads_plain (f := .blockAbandon dst f1) (by decide) rfl rfl
    · exact reads_blockStatus
    · exact reads_plain (f := .probe dst) (by decide) rfl rfl
    · exact reads_ready
  · rw [parseFrame_of_no_kind hk]
    exact reads_none fun h => hk h.1

end

/-- A header of six octets and a body are read as R182 has it. -/
theorem parseFrame_reads {octets : List Octet} (h : 6 ≤ octets.length) : Reads octets (parseFrame octets) := by
  match octets, h with
  | kind :: dst :: src :: f1 :: f2 :: f3 :: body, _ => exact reads_header kind

/-- A candidate is read by its header and body where its length and its CRC are good (R182 checks 1 and 2). -/
theorem checkCandidate_of_good {candidate : List Octet} (hlength : 8 ≤ candidate.length)
    (hcrc : candidate.drop (candidate.length - 2) = lowFirst (crc (candidate.take (candidate.length - 2)))) :
    checkCandidate candidate = parseFrame (candidate.take (candidate.length - 2)) := by
  unfold checkCandidate
  rw [if_neg (Nat.not_lt.2 hlength), if_pos hcrc]

theorem checkCandidate_of_bad {candidate : List Octet} (h : ¬ (8 ≤ candidate.length ∧
    candidate.drop (candidate.length - 2) = lowFirst (crc (candidate.take (candidate.length - 2))))) :
    checkCandidate candidate = none := by
  unfold checkCandidate
  split
  · rfl
  · next hlength => exact if_neg fun hcrc => h ⟨Nat.not_lt.1 hlength, hcrc⟩

end Sys2Proof.Machine

/-! PROOFS. The receiver (R180): its table, octet by octet, and the rows that carry octets or a delimiter. -/

namespace Sys2Proof.Machine

section
variable {r : Receiver} {o : Octet}

/-! ### The receiver's table (R180) -/

theorem take_of_hunt (h : r.phase = .hunt) :
    r.take o = if o = 0x9C then ({ phase := .collect, buffer := [] }, none) else (r, none) := by
  unfold Receiver.take
  rw [h]
  rfl

section
variable (h : r.phase = .collect)
include h

theorem take_delimiter : r.take 0x9C =
    ({ phase := .collect, buffer := [] }, if r.buffer = [] then none else checkCandidate r.buffer) := by
  unfold Receiver.take
  rw [h]
  rfl

theorem take_escape : r.take 0x9B = ({ phase := .escaped, buffer := r.buffer }, none) := by
  unfold Receiver.take
  rw [h]
  rfl

theorem take_content (hd : o ≠ 0x9C) (he : o ≠ 0x9B) : r.take o = (r.append o, none) := by
  unfold Receiver.take
  rw [h]
  exact (if_neg hd).trans (if_neg he)

end

section
variable (h : r.phase = .escaped)
include h

theorem take_escaped_delimiter : r.take 0x1C = (r.append 0x9C, none) := by
  unfold Receiver.take
  rw [h]
  rfl

theorem take_escaped_escape : r.take 0x1B = (r.append 0x9B, none) := by
  unfold Receiver.take
  rw [h]
  rfl

theorem take_abort : r.take 0x9C = ({ phase := .collect, buffer := [] }, none) := by
  unfold Receiver.take
  rw [h]
  rfl

theorem take_escape_error (hc : o ≠ 0x1C) (hb : o ≠ 0x1B) (hd : o ≠ 0x9C) :
    r.take o = ({ phase := .hunt, buffer := [] }, none) := by
  unfold Receiver.take
  rw [h]
  exact (if_neg hc).trans ((if_neg hb).trans (if_neg hd))

end

theorem append_of_room (h : r.buffer.length < 264) : r.append o = { phase := .collect, buffer := r.buffer ++ [o] } :=
  if_neg (Nat.not_le.2 h)

theorem append_of_full (h : r.buffer.length = 264) : r.append o = { phase := .hunt, buffer := [] } :=
  if_pos (Nat.le_of_eq h.symm)

theorem feed_cons (os : List Octet) : r.feed (o :: os) =
    (((r.take o).1.feed os).1, (r.take o).2.toList ++ ((r.take o).1.feed os).2) := rfl

end

section
variable {s : State}

/-! ### The rows that carry octets or a delimiter (R171, R180) -/

theorem exec_huntDelimiterReceived (hl : s.lineReady = true) (hh : s.receiver.phase = .hunt) :
    exec .huntDelimiterReceived s = .next s.heard :=
  congrArg Host.Outcome.next (if_pos (by rw [hl, hh]; rfl))

theorem exec_candidateDiscard {octets : List Octet} (hl : s.lineReady = true) (hf : (s.receiver.feed octets).2 = []) :
    exec (.candidateDiscard octets) s = .next { s with receiver := (s.receiver.feed octets).1 } :=
  congrArg Host.Outcome.next (if_pos (by rw [hl, hf]; rfl))

/-- With line-ready low every octet is ignored (R180). -/
theorem exec_received_of_low (hl : s.lineReady = false) (octets : List Octet) :
    exec (.candidateDiscard octets) s = .next s ∧ exec .huntDelimiterReceived s = .next s :=
  ⟨congrArg Host.Outcome.next (if_neg (by rw [hl]; exact Bool.false_ne_true)),
    congrArg Host.Outcome.next (if_neg (by rw [hl]; exact Bool.false_ne_true))⟩

end

/-- Settles O28: the rows, the receiver's table, and the checks of a candidate. -/
theorem receiverFollowsItsTable : Obligations.ReceiverFollowsItsTable := by
  refine ⟨fun s => ⟨rfl, exec_huntDelimiterReceived, fun hl _ => exec_candidateDiscard hl, exec_received_of_low⟩,
    fun r o os => ⟨rfl, ?_⟩, fun r o => ?_, fun candidate => ?_⟩
  · rw [feed_cons]
    cases (r.take o).2 <;> rfl
  · refine ⟨take_of_hunt, fun h ho => ho ▸ take_delimiter h, fun h ho => ho ▸ take_escape h,
      fun h hd he hr => ?_, fun h ho hr => ?_, fun h ho hr => ?_, fun h ho => ho ▸ take_abort h,
      take_escape_error, fun hfull h => ?_⟩
    · rw [take_content h hd he, append_of_room hr]
    · rw [ho, take_escaped_delimiter h, append_of_room hr]
    · rw [ho, take_escaped_escape h, append_of_room hr]
    · rcases h with ⟨h, hd, he⟩ | ⟨h, rfl | rfl⟩
      · rw [take_content h hd he, append_of_full hfull]
      · rw [take_escaped_delimiter h, append_of_full hfull]
      · rw [take_escaped_escape h, append_of_full hfull]
  · intro body kind good
    have hgood : good ↔ (8 ≤ candidate.length ∧ candidate.drop (candidate.length - 2) = lowFirst (crc body)) ∧
        PassesChecks body := and_assoc.symm
    by_cases h : 8 ≤ candidate.length ∧ candidate.drop (candidate.length - 2) = lowFirst (crc body)
    · obtain ⟨hlength, hcrc⟩ := h
      have hbody : 6 ≤ body.length := by rw [List.length_take]; omega
      rw [hgood.trans (and_iff_right ⟨hlength, hcrc⟩), checkCandidate_of_good hlength hcrc]
      exact parseFrame_reads hbody
    · exact ⟨fun _ => checkCandidate_of_bad h, fun hall => absurd (hgood.1 hall).1 h⟩

end Sys2Proof.Machine

/-! PROOFS. A frame's way over the line: its octets and their escapes (R178, R181, R209), the CRC (R179), the order of
bits (R177), and its reception (R180, R182). -/

namespace Sys2Proof.Machine

/-! ### A frame read from its own octets (R181, R182) -/

theorem lowFirst_length (w : Word) : (lowFirst w).length = 2 := rfl

theorem outcomeBody_length (outcome : StatusOutcome) : (outcomeBody outcome).length ≤ 8 := by
  cases outcome <;> simp [outcomeBody, mapOctets]

/-- A good frame's header and body have 6 to 262 octets (R181). -/
theorem frameOctets_length {f : Frame} (hf : f.wellFormed = true) :
    6 ≤ (frameOctets f).length ∧ (frameOctets f).length ≤ 262 := by
  cases f with
  | openFrame dst src requested service data =>
    have hdata : data.length ≤ 16 := of_decide_eq_true hf
    simp only [frameOctets, lowFirst, List.length_append, List.length_cons, List.length_nil]
    omega
  | seg dst number index payload =>
    have hpayload : 1 ≤ payload.length ∧ payload.length ≤ 256 := by simpa [Frame.wellFormed] using hf
    simp only [frameOctets, List.length_append, List.length_cons, List.length_nil]
    omega
  | blockStatus dst number outcome ready =>
    have houtcome := outcomeBody_length outcome
    rw [frameOctets_blockStatus]
    simp only [List.length_append, List.length_cons, List.length_nil]
    omega
  | _ => simp [frameOctets, lowFirst]

theorem parseFrame_frameOctets {f : Frame} (hf : f.wellFormed = true) : parseFrame (frameOctets f) = some f := by
  cases f with
  | linkStart v m i n =>
    show some (Frame.linkStart v m (ofLowFirst _ _) (ofLowFirst _ _)) = _
    rw [ofLowFirst_extract, ofLowFirst_extract]
  | linkAgree m i n =>
    show some (Frame.linkAgree m (ofLowFirst _ _) (ofLowFirst _ _)) = _
    rw [ofLowFirst_extract, ofLowFirst_extract]
  | openFrame dst src requested service data =>
    have hdata : data.length ≤ 16 := of_decide_eq_true hf
    have hlength : (BitVec.ofNat 8 data.length).toNat = data.length :=
      BitVec.toNat_ofNat .. ▸ Nat.mod_eq_of_lt (by omega)
    refine (if_pos ⟨Nat.le_trans (Nat.le_of_eq hlength) hdata, hlength⟩).trans ?_
    show some (Frame.openFrame dst src requested (ofLowFirst _ _) data) = _
    rw [ofLowFirst_extract]
  | seg dst number index payload =>
    exact if_pos (by simpa [Frame.wellFormed] using hf)
  | blockStatus dst number outcome ready =>
    have houtcome : parseOutcome (outcomeOctet outcome) (outcomeBody outcome) = some outcome :=
      parseOutcome_eq_some_iff.2 ⟨rfl, rfl⟩
    have hready : ofReadyOctet (readyOctet ready) = some ready := ofReadyOctet_eq_some_iff.2 rfl
    rw [frameOctets_blockStatus]
    change (match parseOutcome (outcomeOctet outcome) (outcomeBody outcome), ofReadyOctet (readyOctet ready) with
      | some outcome, some r => some (Frame.blockStatus dst number outcome r)
      | _, _ => none) = _
    rw [houtcome, hready]
  | ready dst ready => cases ready <;> rfl
  | _ => rfl

/-- Header, body and CRC pass the checks of a candidate (R182). -/
theorem checkCandidate_frame {f : Frame} (hf : f.wellFormed = true) :
    checkCandidate (frameOctets f ++ lowFirst (crc (frameOctets f))) = some f := by
  have hlength : (frameOctets f ++ lowFirst (crc (frameOctets f))).length - 2 = (frameOctets f).length := by
    rw [List.length_append, lowFirst_length, Nat.add_sub_cancel]
  have hbody := frameOctets_length hf
  rw [checkCandidate_of_good, hlength, List.take_left, parseFrame_frameOctets hf]
  · rw [List.length_append, lowFirst_length]
    omega
  · rw [hlength, List.take_left, List.drop_left]

/-! ### Escapes (R178) -/

theorem escape_delimiter (os : List Octet) : escape (0x9C :: os) = 0x9B :: 0x1C :: escape os := rfl

theorem escape_escape (os : List Octet) : escape (0x9B :: os) = 0x9B :: 0x1B :: escape os := rfl

theorem escape_content {o : Octet} (hd : o ≠ 0x9C) (he : o ≠ 0x9B) (os : List Octet) :
    escape (o :: os) = o :: escape os :=
  (if_neg hd).trans (if_neg he)

theorem escape_eq_flatMap (octets : List Octet) : escape octets = octets.flatMap (fun o =>
    if o = 0x9C then [0x9B, 0x1C] else if o = 0x9B then [0x9B, 0x1B] else [o]) := by
  induction octets with
  | nil => rfl
  | cons o os ih =>
    rw [List.flatMap_cons, ← ih]
    split
    · next hd => rw [hd]; exact escape_delimiter os
    · next hd =>
      split
      · next he => rw [he]; exact escape_escape os
      · next he => exact escape_content hd he os

theorem feed_append (r : Receiver) (front back : List Octet) : r.feed (front ++ back) =
    (((r.feed front).1.feed back).1, (r.feed front).2 ++ ((r.feed front).1.feed back).2) := by
  induction front generalizing r with
  | nil => rfl
  | cons o os ih => rw [List.cons_append, feed_cons, ih, feed_cons, List.append_assoc]

/-- Escaped octets reach the buffer as they were before escaping (R178, R180). -/
theorem feed_escape (octets buffer : List Octet) (h : buffer.length + octets.length ≤ 264) :
    Receiver.feed { phase := .collect, buffer } (escape octets) =
      ({ phase := .collect, buffer := buffer ++ octets }, []) := by
  induction octets generalizing buffer with
  | nil => rw [List.append_nil]; rfl
  | cons o os ih =>
    rw [List.length_cons] at h
    have hrest := ih (buffer ++ [o]) (by rw [List.length_append, List.length_singleton]; omega)
    rw [List.append_assoc, List.singleton_append] at hrest
    have hroom : buffer.length < 264 := by omega
    by_cases hd : o = 0x9C
    · subst hd
      rw [escape_delimiter, feed_cons, take_escape rfl, feed_cons, take_escaped_delimiter rfl, append_of_room hroom]
      exact congrArg (fun u : Receiver × List Frame => (u.1, [] ++ ([] ++ u.2))) hrest
    by_cases he : o = 0x9B
    · subst he
      rw [escape_escape, feed_cons, take_escape rfl, feed_cons, take_escaped_escape rfl, append_of_room hroom]
      exact congrArg (fun u : Receiver × List Frame => (u.1, [] ++ ([] ++ u.2))) hrest
    · rw [escape_content hd he, feed_cons, take_content rfl hd he, append_of_room hroom]
      exact congrArg (fun u : Receiver × List Frame => (u.1, [] ++ u.2)) hrest

/-- A good frame on the line is received as that frame alone (R180, R182). -/
theorem feed_lineOctets {f : Frame} (hf : f.wellFormed = true) :
    Receiver.feed { phase := .collect, buffer := [] } (lineOctets f) = ({ phase := .collect, buffer := [] }, [f]) := by
  obtain ⟨-, hhigh⟩ := frameOctets_length hf
  have hescaped := feed_escape (frameOctets f ++ lowFirst (crc (frameOctets f))) [] (by
    rw [List.length_append, lowFirst_length, List.length_nil]
    omega)
  have hnonempty : frameOctets f ++ lowFirst (crc (frameOctets f)) ≠ [] :=
    List.append_ne_nil_of_right_ne_nil _ (List.cons_ne_nil _ _)
  unfold lineOctets delimiter
  rw [feed_append, hescaped, List.nil_append, feed_cons, take_delimiter rfl, if_neg hnonempty, checkCandidate_frame hf]
  rfl

/-! ### The CRC and the order of bits (R177, R179) -/

/-- The CRC takes the octets' bits in the order they are sent (R179). -/
theorem crc_eq_lineBits (octets : List Octet) : crc octets = ~~~ ((lineBits octets).foldl crcBit 0xFFFF#16) := by
  have hoctet (c : Word) (o : Octet) : (octetBits o).foldl crcBit c = crcOctet c o := List.foldl_map
  unfold crc lineBits
  rw [List.foldl_flatMap]
  simp only [hoctet]

theorem octetsOfBits_lineBits (octets : List Octet) : octetsOfBits (lineBits octets) = octets := by
  induction octets with
  | nil => rfl
  | cons o os ih =>
    calc octetsOfBits (lineBits (o :: os))
      _ = octetOfBits (octetBits o) :: octetsOfBits (lineBits os) := rfl
      _ = o :: os := by rw [octetOfBits_octetBits, ih]

theorem lineBits_length (octets : List Octet) : (lineBits octets).length = 8 * octets.length := by
  induction octets with
  | nil => rfl
  | cons o os ih => rw [lineBits_cons, List.length_append, octetBits_length, ih, List.length_cons]; omega

/-- Bit i of octet k is the line's bit 8k + i (R177). -/
theorem lineBits_getElem? {octets : List Octet} {k i : Nat} {o : Octet} (hk : octets[k]? = some o) (hi : i < 8) :
    (lineBits octets)[8 * k + i]? = some (o.getLsbD i) := by
  induction octets generalizing k with
  | nil => cases hk
  | cons x xs ih =>
    rw [lineBits_cons]
    cases k with
    | zero =>
      cases hk
      rw [List.getElem?_append_left (by rw [octetBits_length]; omega), Nat.mul_zero, Nat.zero_add]
      exact octetBits_getElem? _ i hi
    | succ k =>
      rw [List.getElem?_append_right (by rw [octetBits_length]; omega), octetBits_length,
        show 8 * (k + 1) + i - 8 = 8 * k + i by omega]
      exact ih hk

section
variable {s : State}

/-! ### What TXD carries (R178, R192) -/

theorem txdBits_of_frame {x : TxFrame} (hl : s.line = .frame) (hx : s.tx = some x) :
    s.txdBits = lineBits (lineOctets x.frame) := by
  unfold State.txdBits State.txdOctets
  rw [hl, hx]

theorem txdBits_of_idleFill (hl : s.line = .idleFill) : s.txdBits = lineBits [0x9C] := by
  unfold State.txdBits State.txdOctets
  rw [hl]
  rfl

theorem txdBits_of_abort (hl : s.line = .abort) : s.txdBits = lineBits [0x9B, 0x9C] := by
  unfold State.txdBits State.txdOctets
  rw [hl]
  rfl

end

/-- Settles O29: the reception of a frame, its layout and escapes, its CRC, and its bits. -/
theorem framesSurviveTheLine : Obligations.FramesSurviveTheLine := by
  refine ⟨fun f hf => feed_lineOctets hf, fun f => ⟨?_, ?_⟩, crc_eq_lineBits,
    fun octets => ⟨octetsOfBits_lineBits octets, lineBits_length octets, fun k o hk i hi => lineBits_getElem? hk hi⟩,
    fun s => ⟨fun x => txdBits_of_frame, txdBits_of_idleFill, txdBits_of_abort⟩⟩
  · unfold lineOctets
    rw [escape_eq_flatMap]
    rfl
  · cases f with
    | blockStatus dst number outcome ready => cases outcome <;> rfl
    | _ => rfl

end Sys2Proof.Machine

/-! PROOFS. The taking of a started command (R2, R195 to R198, R213): it ends with OK or is refused, and keeps what no
command touches; the command codes, and the front of the queue of commands (log 24). -/

namespace Sys2Proof.Machine

/-! ### What no command touches -/

/-- The part of the state that a command leaves as it is until it ends (R195 to R197). -/
structure Standing where
  port      : Port
  memory    : Memory
  startUp   : Bool
  msCount   : Nat
  dataBus   : Word
  intEnable : Bool
  lineReady : Bool
  receiver  : Receiver
  pending   : List Instr

def State.standing (s : State) : Standing :=
  { port := s.port, memory := s.memory, startUp := s.startUp, msCount := s.msCount, dataBus := s.dataBus
    intEnable := s.intEnable, lineReady := s.lineReady, receiver := s.receiver, pending := s.pending }

/-- How a command ends (R198): with OK, what no command touches kept, or refused with nothing changed. -/
inductive Ends (s : State) : State → Prop where
  | succeeded {u : State} (kept : u.standing = s.standing) (values : List Nat) : Ends s (u.succeed values)
  | rejected (code : ResultCode) : Ends s (s.reject code)

section
variable {s t : State} {c : CircuitNo}

theorem EngineFrame.standing (h : EngineFrame c s t) : t.standing = s.standing := by
  simp [State.standing, h.port, h.memory, h.startUp, h.msCount, h.dataBus, h.intEnable, h.lineReady, h.receiver,
    h.pending]

theorem standing_onLink (f : Link → Link) : (s.onLink f).standing = s.standing := rfl

theorem standing_setLabel (l : Label) (e : LabelEntry) : (s.setLabel l e).standing = s.standing := by
  simp [State.standing]

theorem standing_countFree (taken : Bool) : (s.countFree taken).standing = s.standing := by
  simp [State.standing]

theorem standing_endRecord (s : State) (c : CircuitNo) : (s.endRecord c).standing = s.standing :=
  ((frame_setCircuit ..).standing (c := c)).trans (standing_setLabel ..)

theorem standing_createDialled (s : State) (c : CircuitNo) (l : Label) (r : CircuitRecord) :
    (s.createDialled c l r).standing = s.standing :=
  ((frame_setCircuit ..).standing (c := c)).trans (standing_setLabel ..)

theorem standing_leaveUp (s : State) (cause : Octet) (follows : LinkState) :
    (s.leaveUp cause follows).standing = s.standing := by
  have hport := leaveUp_port s cause follows
  have hothers := (leaveUp_leftUp s cause follows).others
  generalize s.leaveUp cause follows = t at hport hothers
  rw [hothers]
  simp [State.standing, hport]

theorem standing_abortTransmission (s : State) : s.abortTransmission.standing = s.standing := by
  cases h : s.tx with
  | none => unfold State.abortTransmission; rw [h]
  | some x => rw [abortTransmission_of_tx h]; rfl

/-! ### How each command ends -/

/-- A command acts on a circuit in use, or is refused (R2). -/
theorem ends_withCircuit (n : Nat) {body : CircuitNo → State} (hb : ∀ c, Ends s (body c)) :
    Ends s (s.withCircuit n body) := by
  unfold State.withCircuit
  split
  · exact .rejected _
  · exact hb _

theorem ends_takeSetLink (s : State) : Ends s s.takeSetLink := by
  unfold State.takeSetLink
  split
  · exact .rejected _
  · split
    · exact .rejected _
    · split
      · exact .rejected _
      · exact .succeeded (by rfl) _

theorem ends_takeReadLink (s : State) : Ends s s.takeReadLink := by
  unfold State.takeReadLink
  split
  iterate 4 exact .succeeded (by rfl) _
  exact .rejected _

theorem ends_takeStartLink (s : State) : Ends s s.takeStartLink := by
  unfold State.takeStartLink
  split
  · exact .rejected _
  · split
    · exact .rejected _
    · exact .succeeded (by rfl) _

theorem ends_takeStopLink (s : State) : Ends s s.takeStopLink := by
  unfold State.takeStopLink
  split
  · exact .rejected _
  · exact .succeeded (by rfl) _
  · unfold State.stopFromUp State.enterStopping
    exact .succeeded ((standing_onLink _).trans (standing_leaveUp ..)) _
  · exact .rejected _

theorem ends_takeListen (s : State) : Ends s s.takeListen := by
  unfold State.takeListen
  split
  · split
    · exact .rejected _
    · split
      · exact .rejected _
      · split
        · exact .rejected _
        · exact .succeeded (by rfl) _
  · exact .rejected _

theorem ends_takeUnlisten (s : State) : Ends s s.takeUnlisten := by
  unfold State.takeUnlisten
  split
  · exact .rejected _
  · exact .succeeded (by rfl) _

theorem ends_takeReadListen (s : State) : Ends s s.takeReadListen := by
  unfold State.takeReadListen
  split
  · exact .succeeded (by rfl) _
  · exact .rejected _

theorem ends_openCircuit (s : State) (service : Word) (limits : Limits) (requested : Nat) (data : List Octet) :
    Ends s (s.openCircuit service limits requested data) := by
  unfold State.openCircuit
  split
  · exact .rejected _
  · split
    · exact .rejected _
    · split
      · exact .rejected _
      · exact .rejected _
      · exact .succeeded (standing_createDialled ..) _

theorem ends_takeOpen (s : State) : Ends s s.takeOpen := by
  unfold State.takeOpen
  split
  · exact .rejected _
  · split
    · exact .rejected _
    · split
      · exact .rejected _
      · exact ends_openCircuit ..

theorem standing_acceptOffer (s : State) (c : CircuitNo) (limits : Limits) (agreed : Nat) :
    (s.acceptOffer c limits agreed).standing = s.standing :=
  ((frame_onCircuit ..).trans (frame_startDecision ..)).standing (c := c)

theorem standing_refuseOffer (s : State) (c : CircuitNo) (diagnostic : Octet) :
    (s.refuseOffer c diagnostic).standing = s.standing :=
  (standing_endRecord ..).trans ((frame_requestLoose ..).standing (c := c))

theorem ends_takeAnswerCommand (s : State) : Ends s s.takeAnswerCommand := by
  refine ends_withCircuit _ fun c => ?_
  split
  · exact .rejected _
  · split
    · split
      · exact .rejected _
      · split
        · exact .rejected _
        · exact .succeeded (standing_acceptOffer ..) _
    · exact .succeeded ((standing_countFree _).trans (standing_refuseOffer ..)) _
    · exact .rejected _

theorem ends_takeClose (s : State) : Ends s s.takeClose := by
  refine ends_withCircuit _ fun c => ?_
  unfold State.closeCircuit
  split
  · exact .succeeded ((standing_countFree _).trans (frame_enterClosed ..).standing) _
  iterate 2 exact .succeeded ((standing_countFree _).trans (frame_enterClosing ..).standing) _
  exact .rejected _

theorem ends_takeRewind (s : State) : Ends s s.takeRewind := by
  refine ends_withCircuit _ fun c => ?_
  split
  · exact .succeeded (frame_enterRewinding ..).standing _
  · exact .rejected _

theorem ends_takeRetire (s : State) : Ends s s.takeRetire := by
  refine ends_withCircuit _ fun c => ?_
  split
  · exact .succeeded ((standing_endRecord ..).trans ((frame_foldl_free ..).standing (c := c))) _
  · exact .rejected _

theorem ends_fixCircuit (s : State) (peer : Label) (service : Word) (maximum : Nat) (limits : Limits) :
    Ends s (s.fixCircuit peer service maximum limits) := by
  unfold State.fixCircuit
  split
  · exact .rejected _
  · split
    · exact .rejected _
    · split
      · exact .rejected _
      · split
        · exact .rejected _
        · next c _ => exact .succeeded (((frame_setCircuit ..).standing (c := c)).trans (standing_setLabel ..)) _

theorem ends_takeFix (s : State) : Ends s s.takeFix := by
  unfold State.takeFix
  split
  · split
    · exact .rejected _
    · split
      · exact .rejected _
      · exact ends_fixCircuit ..
  · exact .rejected _

theorem ends_takeUnfix (s : State) : Ends s s.takeUnfix := by
  refine ends_withCircuit _ fun c => ?_
  split
  · exact .succeeded (frame_toClosed ..).standing _
  · exact .rejected _

theorem ends_takeReadCircuit (s : State) : Ends s s.takeReadCircuit := by
  unfold State.takeReadCircuit
  split
  · split
    · exact .rejected _
    · split
      · exact .succeeded (frame_onCircuit ..).standing _
      · exact .succeeded (by rfl) _
  · exact .rejected _

theorem ends_takeSetCircuit (s : State) : Ends s s.takeSetCircuit := by
  refine ends_withCircuit _ fun c => ?_
  split
  · exact .rejected _
  · split
    · exact .rejected _
    · exact .succeeded (frame_onCircuit ..).standing _

theorem ends_takeAlloc (s : State) : Ends s s.takeAlloc := by
  unfold State.takeAlloc
  dsimp only
  split
  · exact .rejected _
  · split
    · exact .rejected _
    · split
      · exact .rejected _
      · exact .succeeded (by rfl) _

theorem ends_takeFree (s : State) : Ends s s.takeFree := by
  unfold State.takeFree
  split
  · exact .rejected _
  · exact .succeeded ((frame_freeDescriptor ..).standing (c := 0)) _

theorem frame_enqueue (s : State) (c : CircuitNo) (d : DescNo) (length : Nat) (tag : Word) :
    EngineFrame c s ((s.enqueue c d length tag).startIfIdle c) := by
  have hqueued : EngineFrame c s (s.enqueue c d length tag) := (frame_onDescriptor ..).trans (frame_onSend ..)
  unfold State.startIfIdle
  split
  · exact hqueued.trans (frame_startDecision ..)
  · exact hqueued

theorem ends_takeSubmit (s : State) : Ends s s.takeSubmit := by
  refine ends_withCircuit _ fun c => ?_
  split
  · exact .rejected _
  · unfold State.submitTo
    dsimp only
    iterate 4
      split
      · exact .rejected _
    exact .succeeded ((standing_countFree _).trans (frame_enqueue ..).standing) _

theorem ends_takeTake (s : State) : Ends s s.takeTake := by
  refine ends_withCircuit _ fun c => ?_
  split
  · exact .rejected _
  · split
    · exact .rejected _
    · exact .succeeded
        (((frame_onDescriptor ..).trans (frame_onRecv ..)).trans (frame_onCircuit ..)).standing _

theorem ends_takeReadDescriptor (s : State) : Ends s s.takeReadDescriptor := by
  unfold State.takeReadDescriptor
  split
  · exact .rejected _
  · split
    · exact .rejected _
    · split <;> exact .succeeded (by rfl) _

theorem ends_takeReadLabel (s : State) : Ends s s.takeReadLabel := by
  unfold State.takeReadLabel
  split
  · exact .rejected _
  · split <;> exact .succeeded (by rfl) _

theorem ends_takeInitialise (s : State) : Ends s s.takeInitialise := by
  unfold State.takeInitialise
  refine .succeeded ?_ _
  exact standing_abortTransmission s

/-! ### Every started command -/

theorem exec_ends {i : Instr} {body : State → State} (hs : Started i s)
    (hexec : exec i s = .next (s.taking i body)) (hb : Ends s (body s)) : ∃ t, exec i s = .next t ∧ Ends s t :=
  ⟨_, hexec.trans (congrArg _ (taking_of_started hs _)), hb⟩

/-- Each of the 24 commands ends at its taking; no other row can be a started command (R195, R196). -/
theorem Started.ends {i : Instr} (hs : Started i s) : ∃ t, exec i s = .next t ∧ Ends s t := by
  have hcode := hs.2.2
  cases i with
  | setLink => exact exec_ends hs rfl (ends_takeSetLink s)
  | readLink => exact exec_ends hs rfl (ends_takeReadLink s)
  | startLink => exact exec_ends hs rfl (ends_takeStartLink s)
  | stopLink => exact exec_ends hs rfl (ends_takeStopLink s)
  | listen => exact exec_ends hs rfl (ends_takeListen s)
  | unlisten => exact exec_ends hs rfl (ends_takeUnlisten s)
  | readListen => exact exec_ends hs rfl (ends_takeReadListen s)
  | openCommand => exact exec_ends hs rfl (ends_takeOpen s)
  | answer => exact exec_ends hs rfl (ends_takeAnswerCommand s)
  | closeCommand => exact exec_ends hs rfl (ends_takeClose s)
  | rewindCommand => exact exec_ends hs rfl (ends_takeRewind s)
  | retire => exact exec_ends hs rfl (ends_takeRetire s)
  | fix => exact exec_ends hs rfl (ends_takeFix s)
  | unfix => exact exec_ends hs rfl (ends_takeUnfix s)
  | readCircuit => exact exec_ends hs rfl (ends_takeReadCircuit s)
  | setCircuit => exact exec_ends hs rfl (ends_takeSetCircuit s)
  | alloc => exact exec_ends hs rfl (ends_takeAlloc s)
  | freeCommand => exact exec_ends hs rfl (ends_takeFree s)
  | submit => exact exec_ends hs rfl (ends_takeSubmit s)
  | take => exact exec_ends hs rfl (ends_takeTake s)
  | readDescriptor => exact exec_ends hs rfl (ends_takeReadDescriptor s)
  | readPool => exact exec_ends hs rfl (.succeeded (by rfl) _)
  | initialise => exact exec_ends hs rfl (ends_takeInitialise s)
  | readLabel => exact exec_ends hs rfl (ends_takeReadLabel s)
  | _ => exact nomatch hcode

theorem Ends.port (h : Ends s t) : ∃ code values, t.port = donePort s.port code values := by
  cases h with
  | succeeded kept values => exact ⟨.ok, values, congrArg (donePort · .ok values) (congrArg Standing.port kept)⟩
  | rejected code => exact ⟨code, [], rfl⟩

theorem Ends.standing (h : Ends s t) : t.standing = { s.standing with port := t.port } := by
  cases h with
  | succeeded kept values => rw [← kept]; rfl
  | rejected code => rfl

/-- A command that does not end with OK has changed the port alone, its RESULT registers to zero (R198). -/
theorem Ends.eq_of_refused (h : Ends s t) (hr : t.port.result ≠ .ok) :
    t = { s with port := donePort s.port t.port.result [] } := by
  cases h with
  | succeeded => exact absurd rfl hr
  | rejected code => rfl

/-! ### BAD-CIRCUIT (R2) and UNKNOWN-COMMAND (R195) -/

/-- A started command that reads a circuit from PARAM k is refused where it names none in use (R2). -/
theorem exec_of_no_circuit {i : Instr} {k : Nat} {body : State → State} {named : CircuitNo → State}
    (hs : Started i s) (hexec : exec i s = .next (s.taking i body))
    (hbody : body s = s.withCircuit (s.param k) named) (hn : ∀ n, ¬ NamesCircuit s k n) :
    exec i s = refusedWith s .badCircuit := by
  rw [hexec, taking_of_started hs, hbody, withCircuit_of_not hn, next_reject]

theorem exec_readCircuit_of_outside (hs : Started .readCircuit s) (h : 63 < s.param 0) :
    exec .readCircuit s = refusedWith s .badCircuit := by
  have htake : s.takeReadCircuit = s.reject .badCircuit := by
    unfold State.takeReadCircuit
    rw [dif_neg (by omega)]
  exact congrArg Host.Outcome.next ((taking_of_started hs _).trans htake)

theorem namesCommand_eq_false_iff (w : Word) : namesCommand w = false ↔ w = 0 ∨ 0x18 < w.toNat := by
  unfold namesCommand
  by_cases h : w = 0
  · simp [h]
  · simp only [h, false_or, Bool.and_eq_false_iff, bne_eq_false_iff_eq, decide_eq_false_iff_not, Nat.not_le]

theorem exec_unknownCommand (hb : s.port.state = .busy) (hu : s.startUp = false)
    (hw : s.port.command = 0 ∨ 0x18 < s.port.command.toNat) :
    exec .unknownCommand s = refusedWith s .unknownCommand := by
  have hrun : s.running = true := by simp [State.running, hb, hu]
  show execUnknownCommand s = _
  unfold execUnknownCommand
  rw [hrun, (namesCommand_eq_false_iff _).2 hw]
  rfl

end

/-! ### The command codes (R213) -/

/-- The command of each code from 0001h to 0018h (R213); any other code is answered with SET-LINK. -/
def commandNamed : Nat → Instr
  | 0x02 => .readLink
  | 0x03 => .startLink
  | 0x04 => .stopLink
  | 0x05 => .listen
  | 0x06 => .unlisten
  | 0x07 => .openCommand
  | 0x08 => .answer
  | 0x09 => .closeCommand
  | 0x0A => .rewindCommand
  | 0x0B => .retire
  | 0x0C => .fix
  | 0x0D => .unfix
  | 0x0E => .readCircuit
  | 0x0F => .setCircuit
  | 0x10 => .alloc
  | 0x11 => .freeCommand
  | 0x12 => .submit
  | 0x13 => .take
  | 0x14 => .readDescriptor
  | 0x15 => .readPool
  | 0x16 => .initialise
  | 0x17 => .readListen
  | 0x18 => .readLabel
  | _ => .setLink

theorem commandCode_commandNamed {n : Nat} (h1 : 1 ≤ n) (h2 : n ≤ 0x18) :
    commandCode (commandNamed n) = some (BitVec.ofNat 16 n) := by
  have hall : ∀ i : Fin 0x18, commandCode (commandNamed (i.val + 1)) = some (BitVec.ofNat 16 (i.val + 1)) := by decide
  have hn := hall ⟨n - 1, by omega⟩
  rwa [show (⟨n - 1, by omega⟩ : Fin 0x18).val + 1 = n from Nat.sub_add_cancel h1] at hn

/-- A row with a code is the command the code names (R213). -/
theorem commandNamed_of_commandCode {i : Instr} {w : Word} (h : commandCode i = some w) :
    1 ≤ w.toNat ∧ w.toNat ≤ 0x18 ∧ commandNamed w.toNat = i := by
  cases i
  all_goals cases h
  all_goals exact ⟨by decide, by decide, rfl⟩

theorem exists_commandCode_iff (w : Word) : (∃ i, commandCode i = some w) ↔ 1 ≤ w.toNat ∧ w.toNat ≤ 0x18 := by
  constructor
  · rintro ⟨i, h⟩
    obtain ⟨h1, h2, -⟩ := commandNamed_of_commandCode h
    exact ⟨h1, h2⟩
  · rintro ⟨h1, h2⟩
    exact ⟨commandNamed w.toNat, by rw [commandCode_commandNamed h1 h2, BitVec.ofNat_toNat, BitVec.setWidth_eq]⟩

theorem commandCode_injective {i j : Instr} {w : Word} (hi : commandCode i = some w) (hj : commandCode j = some w) :
    i = j :=
  (commandNamed_of_commandCode hi).2.2.symm.trans (commandNamed_of_commandCode hj).2.2

/-- Settles O1: the front command acts on the state with the queue's rest. -/
theorem stepRunsTheFrontCommand : Obligations.StepRunsTheFrontCommand := by
  intro s i rest hp
  unfold step
  rw [hp]

/-- Settles O4: a started command ends with OK or is refused, and either way leaves what no command touches. -/
theorem everyStartedCommandIsTaken : Obligations.EveryStartedCommandIsTaken := by
  intro i s hs
  obtain ⟨t, hexec, hends⟩ := hs.ends
  obtain ⟨code, values, hport⟩ := hends.port
  have kept := hends.standing
  refine ⟨t, hexec, ?_, ?_, ?_, ?_, congrArg Standing.memory kept, (congrArg Standing.startUp kept).trans hs.2.1,
    congrArg Standing.msCount kept, congrArg Standing.dataBus kept, congrArg Standing.intEnable kept,
    congrArg Standing.lineReady kept, congrArg Standing.receiver kept, congrArg Standing.pending kept⟩
  all_goals rw [hport]; rfl

/-- Settles O5: what a refusal leaves, BAD-CIRCUIT, the codes of the commands, and UNKNOWN-COMMAND. -/
theorem refusedCommandChangesNothing : Obligations.RefusedCommandChangesNothing := by
  refine ⟨fun i s t hs ht hr => ?_, fun i s hs hi hn => ?_, fun s hs hn => exec_of_no_circuit hs rfl rfl hn,
    fun s hs h => exec_readCircuit_of_outside hs h, by decide, exists_commandCode_iff,
    fun i j w => commandCode_injective, fun s => exec_unknownCommand⟩
  · obtain ⟨u, hu, hends⟩ := hs.ends
    obtain rfl : u = t := Host.Outcome.next.inj (hu.symm.trans ht)
    exact hends.eq_of_refused hr
  · simp only [List.mem_cons, List.not_mem_nil, or_false] at hi
    obtain rfl | rfl | rfl | rfl | rfl | rfl | rfl := hi
    all_goals exact exec_of_no_circuit hs rfl rfl hn

end Sys2Proof.Machine

/-! PROOFS. The register window (R194, R195, R197, R205, R211, R212): what a write to each offset does, what a read of
each gives, and the parameters and result values of a command. -/

namespace Sys2Proof.Machine

/-! ### The words of a 32-bit register (R194) -/

/-- The address of one word of register i of eight, the first of which stands at the word address base. -/
def halfAddress (base : Nat) (i : Fin 8) (high : Bool) : WordAddress :=
  BitVec.ofNat 17 (base + 2 * i.val + (if high then 1 else 0))

section
variable {base : Nat} (hb : base ≤ 24) (i : Fin 8) (high : Bool)
include hb

theorem offsetOf_halfAddress :
    offsetOf (halfAddress base i high) = 2 * base + (4 * i.val + (if high then 2 else 0)) := by
  have hi := i.isLt
  unfold offsetOf halfAddress
  cases high
  all_goals simp; omega

/-- The register of a word's offset. -/
theorem halfAddress_index : (offsetOf (halfAddress base i high) - 2 * base) / 4 = i.val := by
  rw [offsetOf_halfAddress hb, Nat.add_sub_cancel_left]
  cases high with
  | false => simp
  | true => simp; omega

/-- Which of a register's words an offset is of. -/
theorem halfAddress_high : ((offsetOf (halfAddress base i high) - 2 * base) % 4 == 2) = high := by
  rw [offsetOf_halfAddress hb, Nat.add_sub_cancel_left]
  cases high <;> simp

theorem halfAddress_range :
    2 * base ≤ offsetOf (halfAddress base i high) ∧ offsetOf (halfAddress base i high) ≤ 2 * base + 30 := by
  have hi := i.isLt
  rw [offsetOf_halfAddress hb]
  cases high
  all_goals simp; omega

end

theorem halfOf_eq (r : Reg) (high : Bool) :
    halfOf r high = if high then r.extractLsb' 16 16 else r.extractLsb' 0 16 := by cases high <;> rfl

section
variable {s : State} {value : Word}

/-! ### Writes (R194, R195, R197) -/

theorem exec_registerWrite (address : WordAddress) :
    exec (.registerWrite address value) s = .next (s.writeRegister address value) := rfl

theorem writeCommand_of_busy (h : s.port.state = .busy) : s.writeCommand value = s.collideWrite := by
  unfold State.writeCommand
  rw [h]

/-- A command starts in IDLE and DONE (R195). -/
theorem writeCommand_of_not_busy (h : s.port.state ≠ .busy) : s.writeCommand value = { s with
    port := { s.port with
      state := .busy, command := value, collide := false, result := .ok, results := Vector.replicate 8 0 } } := by
  unfold State.writeCommand
  cases hs : s.port.state with
  | busy => exact absurd hs h
  | idle => rfl
  | done => rfl

theorem writeParam_of_busy (h : s.port.state = .busy) (i : Fin 8) (high : Bool) :
    s.writeParam i high value = s.collideWrite := by
  unfold State.writeParam
  rw [h]

theorem writeParam_of_not_busy (h : s.port.state ≠ .busy) (i : Fin 8) (high : Bool) :
    s.writeParam i high value = { s with
      port := { s.port with params := s.port.params.set i.val (withHalf s.port.params[i.val] high value) } } := by
  unfold State.writeParam
  cases hs : s.port.state with
  | busy => exact absurd hs h
  | idle => rfl
  | done => rfl

theorem writeParam_congr {i j : Fin 8} {high upper : Bool} (hi : i.val = j.val) (hh : high = upper) :
    s.writeParam i high value = s.writeParam j upper value := by rw [Fin.ext hi, hh]

theorem writeRegister_command : s.writeRegister 0 value = s.writeCommand value := rfl

/-- A write to a word of a PARAM register (R194, R211). -/
theorem writeRegister_param (i : Fin 8) (high : Bool) :
    s.writeRegister (halfAddress 8 i high) value = s.writeParam i high value := by
  have hrange := halfAddress_range (base := 8) (by decide) i high
  unfold State.writeRegister
  dsimp only
  rw [if_neg, if_neg, dif_pos]
  · exact writeParam_congr (halfAddress_index (base := 8) (by decide) i high)
      (halfAddress_high (base := 8) (by decide) i high)
  all_goals omega

/-- A write to RESULT, PORT STATUS or an offset not in the table is ignored (R194). -/
theorem writeRegister_of_other {address : WordAddress}
    (h : address = 1 ∨ (3 ≤ address.toNat ∧ address.toNat ≤ 7) ∨ (24 ≤ address.toNat ∧ address ≠ 49)) :
    s.writeRegister address value = s := by
  have hn : address.toNat = 1 ∨ (3 ≤ address.toNat ∧ address.toNat ≤ 7) ∨ (24 ≤ address.toNat ∧ address.toNat ≠ 49) :=
    h.imp (congrArg BitVec.toNat) (Or.imp_right (And.imp_right fun hpop k => hpop (BitVec.eq_of_toNat_eq k)))
  unfold State.writeRegister offsetOf
  dsimp only
  rw [if_neg, if_neg, dif_neg, if_neg]
  all_goals omega

/-! ### Reads (R194, R205, R211, R212) -/

theorem readRegister_command : s.readRegister 0 = s.port.command := rfl

theorem readRegister_portControl : s.readRegister 2 = if s.intEnable then 1 else 0 := by
  show BitVec.ofNat 16 (flagCode s.intEnable) = _
  cases s.intEnable <;> rfl

theorem readRegister_eventCount : s.readRegister 48 = BitVec.ofNat 16 s.events.length := rfl

theorem resultCode_le (code : ResultCode) : code.code ≤ 0x0D := by cases code <;> decide

/-- PORT STATUS holds the port state, the collide flag and the result code in their bits (12.4). -/
theorem readRegister_portStatus : (s.readRegister 1).toNat =
    s.port.state.code + (if s.port.collide then 4 else 0) + 256 * s.port.result.code := by
  have hstate : s.port.state.code ≤ 2 := by cases s.port.state <;> decide
  have hresult := resultCode_le s.port.result
  show (BitVec.ofNat 16 (s.port.state.code + 4 * flagCode s.port.collide + 256 * s.port.result.code)).toNat = _
  rw [BitVec.toNat_ofNat]
  cases s.port.collide <;> simp [flagCode] <;> omega

theorem readRegister_param (i : Fin 8) (high : Bool) :
    s.readRegister (halfAddress 8 i high) = halfOf s.port.params[i.val] high := by
  have hrange := halfAddress_range (base := 8) (by decide) i high
  unfold State.readRegister
  dsimp only
  rw [if_neg, if_neg, if_neg, if_pos]
  · rw [halfAddress_index (base := 8) (by decide), halfAddress_high (base := 8) (by decide)]
    simp
  all_goals omega

theorem readRegister_result (i : Fin 8) (high : Bool) :
    s.readRegister (halfAddress 24 i high) = halfOf s.port.results[i.val] high := by
  have hrange := halfAddress_range (base := 24) (by decide) i high
  unfold State.readRegister
  dsimp only
  rw [if_neg, if_neg, if_neg, if_neg, if_pos]
  · rw [halfAddress_index (base := 24) (by decide), halfAddress_high (base := 24) (by decide)]
    simp
  all_goals omega

theorem readRegister_eventHead {k : Nat} (hk : k < 8) : s.readRegister (BitVec.ofNat 17 (56 + k)) = s.eventHead k := by
  have hoffset : offsetOf (BitVec.ofNat 17 (56 + k)) = 112 + 2 * k := by
    unfold offsetOf
    rw [BitVec.toNat_ofNat]
    omega
  unfold State.readRegister
  simp only [hoffset]
  rw [if_neg, if_neg, if_neg, if_neg, if_neg, if_neg, if_pos]
  · congr
    omega
  all_goals omega

theorem eventHead_of_empty (h : s.events = []) (k : Nat) : s.eventHead k = 0 := by
  unfold State.eventHead
  rw [h]

theorem eventHead_of_head {e : Event} {rest : List Event} (h : s.events = e :: rest) (k : Nat) :
    s.eventHead k = e.word k := by
  unfold State.eventHead
  rw [h]

/-- Every offset not in the table reads zero, and EVENT POP does (R194, R205). -/
theorem readRegister_of_other {address : WordAddress} (h : (3 ≤ address.toNat ∧ address.toNat ≤ 7) ∨
    (40 ≤ address.toNat ∧ address.toNat ≤ 47) ∨ (49 ≤ address.toNat ∧ address.toNat ≤ 55) ∨ 64 ≤ address.toNat) :
    s.readRegister address = 0 := by
  unfold State.readRegister offsetOf
  dsimp only
  rw [if_neg, if_neg, if_neg, if_neg, if_neg, if_neg, if_neg]
  all_goals omega

/-! ### Parameters and result values (R196, R211) -/

theorem param_eq (i : Fin 8) : s.param i.val = s.port.params[i.val].toNat := by simp [State.param]

theorem paramOctet_toNat (i : Fin 8) (k : Nat) :
    (s.paramOctet i.val k).toNat = s.port.params[i.val].toNat / 256 ^ k % 256 := by
  have hpow : 256 ^ k = 2 ^ (8 * k) := by rw [Nat.pow_mul]
  simp [State.paramOctet, Nat.shiftRight_eq_div_pow, hpow]

theorem resultRegisters_getElem (values : List Nat) (i : Fin 8) :
    (resultRegisters values)[i.val] = BitVec.ofNat 32 (values.getD i.val 0) := by simp [resultRegisters]

theorem listenPolicyOf_of_other {code : Nat} (h1 : code ≠ 1) (h2 : code ≠ 2) : listenPolicyOf code = none := by
  unfold listenPolicyOf
  split
  · contradiction
  · contradiction
  · rfl

end

/-- Settles O6: the writes by port state, the reads by offset, and the tables of codes. -/
theorem registerWindowWritesAndReads : Obligations.RegisterWindowWritesAndReads := by
  refine ⟨fun s value => ⟨fun h => ?_, fun h => ?_, fun i high => ⟨fun h => ?_, fun h => ?_⟩, fun address h => ?_⟩,
    fun s => ⟨readRegister_command, ?_, readRegister_portControl, fun i high => ⟨?_, ?_⟩, readRegister_eventCount,
      fun k hk => ⟨fun h => ?_, fun e rest h => ?_⟩, fun address => readRegister_of_other,
      fun i => ⟨param_eq i, fun k _ => paramOctet_toNat i k, fun values => resultRegisters_getElem values i⟩,
      by decide, by decide, by decide, by decide, by decide, by decide, by decide,
      fun code => listenPolicyOf_of_other, by decide, by decide, by decide, by decide, by decide,
      fun c fixed n => ⟨rfl, rfl, rfl⟩, by decide, by decide, by decide, fun cause => ⟨rfl, rfl, rfl⟩,
      fun cause diagnostic => ⟨rfl, rfl, rfl⟩, rfl, rfl⟩⟩
  · rw [exec_registerWrite, writeRegister_command, writeCommand_of_not_busy h]
  · rw [exec_registerWrite, writeRegister_command, writeCommand_of_busy h]
    rfl
  · exact congrArg Host.Outcome.next ((writeRegister_param i high).trans (writeParam_of_busy h i high))
  · exact congrArg Host.Outcome.next ((writeRegister_param i high).trans (writeParam_of_not_busy h i high))
  · rw [exec_registerWrite, writeRegister_of_other h]
  · rw [readRegister_portStatus]
    cases s.port.state <;> rfl
  · exact (readRegister_param i high).trans (halfOf_eq ..)
  · exact (readRegister_result i high).trans (halfOf_eq ..)
  · rw [readRegister_eventHead hk, eventHead_of_empty h]
  · rw [readRegister_eventHead hk, eventHead_of_head h]
    obtain rfl | rfl | rfl | rfl | rfl | rfl | rfl | rfl :
      k = 0 ∨ k = 1 ∨ k = 2 ∨ k = 3 ∨ k = 4 ∨ k = 5 ∨ k = 6 ∨ k = 7 := by omega
    all_goals rfl

end Sys2Proof.Machine

/-! PROOFS. INITIALISE (R23, R95, R111, R176, R199, R200): the whole state after its taking, the records and labels it
leaves, and its two counts. -/

namespace Sys2Proof.Machine

section
variable {s : State} {r : CircuitRecord}

/-! ### The fixed definitions (R23) -/

/-- A fixed circuit in OPEN, REWINDING or DORMANT, which INITIALISE keeps as a definition (R23). -/
def CircuitRecord.Defines (r : CircuitRecord) : Prop :=
  r.kind = some .fixed ∧ (r.state = .opened ∨ r.state = .rewinding ∨ r.state = .dormant)

theorem isDefinition_iff : r.isDefinition = true ↔ r.Defines := by
  unfold CircuitRecord.isDefinition CircuitRecord.Defines
  cases r.state <;> simp

/-- A fixed definition is left DORMANT, with the fields of its definition (R23). -/
theorem initialised_of_defines (h : r.Defines) : r.initialised = { CircuitRecord.free false with
    state := .dormant, kind := some .fixed, localLabel := r.localLabel, peerLabel := r.peerLabel, service := r.service
    maxSegments := r.fixedMaximum, fixedMaximum := r.fixedMaximum
    roundLimit := r.roundLimit, policy := r.policy, window := r.window } := by
  unfold CircuitRecord.initialised
  rw [if_pos (isDefinition_iff.2 h), h.1]

theorem initialised_of_not_defines (h : ¬ r.Defines) : r.initialised = CircuitRecord.free false :=
  if_neg (mt isDefinition_iff.1 h)

/-! ### The state after INITIALISE (R199) -/

theorem abortTransmission_eq (s : State) : s.abortTransmission = { s with
    tx := none, line := if s.tx = none then s.line else .abort, descriptors := s.abortTransmission.descriptors } := by
  cases h : s.tx with
  | none =>
    have hsame : s.abortTransmission = s := by
      unfold State.abortTransmission
      rw [h]
    rw [hsame, if_pos rfl, ← h]
  | some x => rw [abortTransmission_of_tx h, if_neg (by simp)]

/-- INITIALISE keeps the listen table, page memory, the receiver, the interrupt enable and the clock (R199). -/
theorem takeInitialise_eq (s : State) : s.takeInitialise = { s with
    circuits := s.circuits.map CircuitRecord.initialised
    labels := s.labels.map (LabelEntry.initialised (s.circuits.map CircuitRecord.initialised))
    allocPtr := 1, loose := [], descriptors := Vector.replicate 256 Descriptor.free, latch := none, events := []
    linkStale := false, tx := none, line := if s.tx = none then s.line else .abort, controlPos := 63, dataPos := 63
    link := { s.link.downed with looped := false, lastStopCause := 0 }
    port := donePort s.port .ok s.initialiseCounts } := by
  unfold State.takeInitialise
  rw [abortTransmission_eq]
  rfl

theorem exec_initialise (hs : Started .initialise s) : exec .initialise s = .next s.takeInitialise :=
  congrArg Host.Outcome.next (taking_of_started hs _)

theorem takeInitialise_startUp (s : State) : s.takeInitialise.startUp = s.startUp := by rw [takeInitialise_eq]

theorem takeInitialise_port (s : State) : s.takeInitialise.port = donePort s.port .ok s.initialiseCounts := by
  rw [takeInitialise_eq]

theorem takeInitialise_descriptor (s : State) (d : DescNo) : s.takeInitialise.descriptor d = Descriptor.free := by
  rw [takeInitialise_eq]
  simp [State.descriptor]

theorem takeInitialise_label (s : State) (l : Label) :
    s.takeInitialise.label l = (s.label l).initialised s.takeInitialise.circuits := by
  rw [takeInitialise_eq]
  exact Vector.getElem_map ..

/-- The entry of a fixed binding to a record left DORMANT is kept (R111). -/
theorem takeInitialise_label_of_kept {l : Label} {c : CircuitNo} (hb : s.label l = .bound c true)
    (hd : (s.takeInitialise.circuit c).state = .dormant) : s.takeInitialise.label l = .bound c true := by
  rw [takeInitialise_label, hb]
  exact if_pos hd

/-- Any other entry is FREE (R111). -/
theorem takeInitialise_label_of_other {l : Label}
    (h : ∀ c, s.label l = .bound c true → (s.takeInitialise.circuit c).state ≠ .dormant) :
    s.takeInitialise.label l = .free := by
  rw [takeInitialise_label]
  cases hl : s.label l with
  | free => rfl
  | resting n => rfl
  | bound c fixed =>
    cases fixed with
    | false => rfl
    | true => exact if_neg (h c hl)

/-- The two counts are of the records in use that become FREE and of those left DORMANT (R200). -/
theorem initialiseCounts_eq {p q : CircuitRecord → Bool}
    (hp : ∀ r, p r = true ↔ r.state ≠ .free ∧ ¬ r.Defines) (hq : ∀ r, q r = true ↔ r.Defines) :
    s.initialiseCounts = [(s.circuits.toList.filter p).length, (s.circuits.toList.filter q).length] := by
  obtain rfl : q = CircuitRecord.isDefinition := funext fun r => Bool.eq_iff_iff.2 ((hq r).trans isDefinition_iff.symm)
  obtain rfl : p = fun r => decide (r.state ≠ .free) && !r.isDefinition :=
    funext fun r => Bool.eq_iff_iff.2 (by simp [hp, ← isDefinition_iff])
  rw [← List.countP_eq_length_filter, ← List.countP_eq_length_filter]
  rfl

end

/-- Settles O25: the state after INITIALISE as a whole, record by record and label by label. -/
theorem initialiseKeepsTheDefinitions : Obligations.InitialiseKeepsTheDefinitions := by
  intro s hs
  refine ⟨s.takeInitialise, exec_initialise hs, ?_,
    fun c => ⟨fun h => (takeInitialise_circuit s c).trans (initialised_of_defines h),
      fun h => (takeInitialise_circuit s c).trans (initialised_of_not_defines h)⟩,
    fun l _ => ⟨fun c => takeInitialise_label_of_kept, takeInitialise_label_of_other⟩, ?_, ?_,
    takeInitialise_descriptor s, ?_, ?_, ?_, ?_, ?_, ?_, ?_, ?_, ?_, ?_, ?_, ?_, ?_, ?_, ?_,
    (takeInitialise_startUp s).trans hs.2.1, ?_,
    (takeInitialise_port s).trans (congrArg (donePort s.port .ok) (initialiseCounts_eq
      (fun r => decide_eq_true_iff) fun r => decide_eq_true_iff))⟩
  all_goals rw [takeInitialise_eq]

end Sys2Proof.Machine

/-! PROOFS. The event queue (R203 to R207): what a write to EVENT POP does, when INT is asserted, and the stale flag an
event concerns. -/

namespace Sys2Proof.Machine

/-! ### EVENT POP and INT (R205, R207) -/

section
variable {s : State}

/-- A write to EVENT POP on an empty queue is ignored (R205). -/
theorem popEvent_of_empty (h : s.events = []) : s.popEvent = s := by
  unfold State.popEvent
  rw [h, List.tail_nil, ← h]

/-- A write to EVENT POP removes the head entry (R205). -/
theorem popEvent_of_cons {e : Event} {rest : List Event} (h : s.events = e :: rest) :
    s.popEvent = { s with events := rest } := by
  unfold State.popEvent
  rw [h, List.tail_cons]

theorem intAsserted_iff (s : State) : s.intAsserted = true ↔ s.events ≠ [] ∧ s.intEnable = true := by
  simp [State.intAsserted]

/-! ### The stale flag an event concerns (R17, R204, R206) -/

theorem markStale_of_circuit (s : State) {e : Event} {c : CircuitNo} (h : e.circuit = some c) :
    s.markStale e = { s with circuits := s.circuits.set c.val { s.circuit c with stale := true } } := by
  unfold State.markStale
  rw [h]
  rfl

theorem markStale_of_link (s : State) {e : Event} (h : e.circuit = none) :
    s.markStale e = { s with linkStale := true } := by
  unfold State.markStale
  rw [h]

end

/-- Settles O7: a raised event by the entries already queued, below 127, at 127 and at 128. -/
theorem eventsQueueInOrderAndOverflowOnce : Obligations.EventsQueueInOrderAndOverflowOnce := by
  refine ⟨fun _ _ => rfl, fun s => ⟨fun h => congrArg Host.Outcome.next (popEvent_of_empty h),
    fun _ _ h => congrArg Host.Outcome.next (popEvent_of_cons h), intAsserted_iff s⟩, fun s e => ⟨fun h => ?room,
    fun c hc => ⟨fun h => ?lastOfCircuit, fun h => ?fullOfCircuit⟩,
    fun hn => ⟨fun h => ?lastOfLink, fun h => ?fullOfLink⟩⟩⟩
  case room => exact raise_of_room s e (by omega)
  case lastOfCircuit => rw [raise_of_last s e h, markStale_of_circuit s hc]
  case fullOfCircuit => rw [raise_of_full s e (by omega), markStale_of_circuit s hc]
  case lastOfLink => rw [raise_of_last s e h, markStale_of_link s hn]
  case fullOfLink => rw [raise_of_full s e (by omega), markStale_of_link s hn]

end Sys2Proof.Machine

/-! PROOFS. The bounds of the queues and buffers (R98, R105, R180, R203) and the canonical form of page memory: the
operations that touch them, and the moves of the circuits and of the link made of these. -/

namespace Sys2Proof.Machine

/-! ### What the bounds speak of -/

/-- The queues, the buffers and the pointer that have bounds, and page memory. -/
structure Buffers where
  memory   : Memory
  events   : List Event
  loose    : List LooseReply
  receiver : List Octet
  allocPtr : Label

/-- The bounded part of a state. -/
def State.buffers (s : State) : Buffers := ⟨s.memory, s.events, s.loose, s.receiver.buffer, s.allocPtr⟩

section
variable {s t : State} {c : CircuitNo}

/-- The bounds read nothing else of a state. -/
theorem BoundsLaw.same (h : BoundsLaw s) (e : t.buffers = s.buffers) : BoundsLaw t := by
  obtain ⟨hm, he, hl, hr, ha⟩ := Buffers.mk.inj e
  exact ⟨hm ▸ h.memory, he ▸ h.events, hl ▸ h.loose, hr ▸ h.receiver, ha ▸ h.allocPtr⟩

theorem BoundsLaw.onCircuit (h : BoundsLaw s) {f : CircuitRecord → CircuitRecord} : BoundsLaw (s.onCircuit c f) :=
  h.same rfl

theorem BoundsLaw.onSend (h : BoundsLaw s) {f : SendContext → SendContext} : BoundsLaw (s.onSend c f) := h.same rfl

theorem BoundsLaw.onRecv (h : BoundsLaw s) {f : RecvContext → RecvContext} : BoundsLaw (s.onRecv c f) := h.same rfl

theorem BoundsLaw.onLink (h : BoundsLaw s) {f : Link → Link} : BoundsLaw (s.onLink f) := h.same rfl

theorem BoundsLaw.finish (h : BoundsLaw s) {code : ResultCode} {values : List Nat} :
    BoundsLaw (s.finish code values) := h.same rfl

theorem BoundsLaw.countFree (h : BoundsLaw s) {b : Bool} : BoundsLaw (s.countFree b) := by
  rw [countFree_eq]
  exact h.same rfl

theorem BoundsLaw.setDescriptor (h : BoundsLaw s) {d : DescNo} {x : Descriptor} : BoundsLaw (s.setDescriptor d x) :=
  h.same rfl

theorem BoundsLaw.freeDescriptor (h : BoundsLaw s) {d : DescNo} : BoundsLaw (s.freeDescriptor d) := by
  rw [freeDescriptor_eq]
  exact h.setDescriptor

theorem BoundsLaw.foldl_free (h : BoundsLaw s) {l : List DescNo} : BoundsLaw (l.foldl State.freeDescriptor s) := by
  rw [foldl_freeDescriptor_eq]
  exact h.same rfl

theorem BoundsLaw.setLabel (h : BoundsLaw s) {l : Label} {e : LabelEntry} : BoundsLaw (s.setLabel l e) := by
  unfold State.setLabel
  split
  · exact h
  · exact h.same rfl

theorem BoundsLaw.abortTransmission (h : BoundsLaw s) : BoundsLaw s.abortTransmission := by
  rw [abortTransmission_eq]
  exact h.same rfl

/-! ### The operations that touch a queue or the pointer (R98, R105, R203) -/

/-- An event leaves at most 128 entries (R203, R204). -/
theorem BoundsLaw.raise (h : BoundsLaw s) {e : Event} : BoundsLaw (s.raise e) where
  memory   := by rw [raise_memory]; exact h.memory
  events   := raise_events_length s e h.events
  loose    := by rw [raise_loose]; exact h.loose
  receiver := by rw [raise_receiver]; exact h.receiver
  allocPtr := by rw [raise_allocPtr]; exact h.allocPtr

/-- A request leaves at most four loose replies (R105). -/
theorem BoundsLaw.requestLoose (h : BoundsLaw s) {x : LooseReply} : BoundsLaw (s.requestLoose x) := by
  rw [requestLoose_eq s s x rfl]
  exact { h with loose := requestLoose_length s x h.loose }

theorem BoundsLaw.dropLoose (h : BoundsLaw s) : BoundsLaw { s with loose := [] } := { h with loose := Nat.zero_le _ }

/-- Allocation moves the pointer to a label from 1 to 255 (R98). -/
theorem BoundsLaw.createDialled (h : BoundsLaw s) {l : Label} {r : CircuitRecord} :
    BoundsLaw (s.createDialled c l r) := by
  have hlabel : BoundsLaw (s.setLabel l (.bound c false)) := h.setLabel
  have hpointer : BoundsLaw (s.allocateLabel l c) := { hlabel with allocPtr := pointerAfter_ne_zero l }
  exact hpointer.same rfl

/-! ### The Send Engine (R29 to R50) -/

theorem BoundsLaw.startHead (h : BoundsLaw s) {l : List DescNo} : BoundsLaw (s.startHead c l) := by
  induction l generalizing s with
  | nil => exact h.onSend
  | cons d l ih =>
    unfold State.startHead
    split
    · exact ih h.raise.freeDescriptor
    · exact h.same rfl

theorem BoundsLaw.startDecision (h : BoundsLaw s) {b : Bool} : BoundsLaw (s.startDecision c b) := by
  unfold State.startDecision
  split
  · exact h.onSend
  · split
    · exact h.startHead
    · split
      · exact h.onSend.onCircuit
      · exact h.onSend.onCircuit

theorem BoundsLaw.advance (h : BoundsLaw s) {a : ActiveBlock} {ready : Bool} : BoundsLaw (s.advance c a ready) :=
  h.freeDescriptor.onSend.startDecision

theorem BoundsLaw.failActive (h : BoundsLaw s) {a : ActiveBlock} : BoundsLaw (s.failActive c a) :=
  h.raise.freeDescriptor.onSend

theorem BoundsLaw.takeAnswer (h : BoundsLaw s) : BoundsLaw (s.takeAnswer c) := h.same rfl

theorem BoundsLaw.readyInHeld (h : BoundsLaw s) {ready : Bool} : BoundsLaw (s.readyInHeld c ready) := by
  unfold State.readyInHeld
  dsimp only
  split
  · exact h.onSend.onCircuit.onCircuit.startDecision
  · split
    · exact h.onSend.onCircuit
    · exact h.onSend.onCircuit

theorem BoundsLaw.readyAt (h : BoundsLaw s) {ready : Bool} : BoundsLaw (State.readyAt ready c s) := by
  unfold State.readyAt
  split
  · exact h.readyInHeld
  · exact h.onSend
  all_goals exact h

/-! ### Closing and rewinding (R9, R135, R143 to R148) -/

theorem BoundsLaw.toClosed (h : BoundsLaw s) {cause diagnostic : Octet} {originator : Originator} {confirmed : Bool}
    {owed : Option ProtocolKind} : BoundsLaw (s.toClosed c cause diagnostic originator confirmed owed) := by
  rw [toClosed_eq]
  exact h.same rfl

theorem BoundsLaw.enterClosed (h : BoundsLaw s) {cause diagnostic : Octet} {originator : Originator}
    {confirmed : Bool} {owed : Option ProtocolKind} :
    BoundsLaw (s.enterClosed c cause diagnostic originator confirmed owed) := h.toClosed.raise

theorem BoundsLaw.finishClosing (h : BoundsLaw s) {confirmed : Bool} {owed : Option ProtocolKind} :
    BoundsLaw (s.finishClosing c confirmed owed) := h.onCircuit.raise

theorem BoundsLaw.endCircuit (h : BoundsLaw s) {cause : Octet} : BoundsLaw (s.endCircuit c cause) := by
  unfold State.endCircuit
  split
  · exact h.finishClosing
  · exact h.enterClosed

theorem BoundsLaw.enterClosing (h : BoundsLaw s) {cause diagnostic : Octet} {originator : Originator} :
    BoundsLaw (s.enterClosing c cause diagnostic originator) := by
  rw [enterClosing_eq]
  exact h.same rfl

theorem BoundsLaw.rewindBoth (h : BoundsLaw s) : BoundsLaw ((s.rewindSend c).rewindRecv c) := by
  rw [rewindBoth_eq]
  exact h.same rfl

theorem BoundsLaw.enterRewinding (h : BoundsLaw s) {cause : Octet} {originator : Originator} :
    BoundsLaw (s.enterRewinding c cause originator) := by
  rw [enterRewinding_eq]
  exact h.same rfl

theorem BoundsLaw.protocolError (h : BoundsLaw s) : BoundsLaw (s.protocolError c) := h.enterRewinding

theorem BoundsLaw.finishRewinding (h : BoundsLaw s) {owed : Option ProtocolKind} :
    BoundsLaw (s.finishRewinding c owed) := h.onCircuit.startDecision.raise

theorem BoundsLaw.rewindInOpen (h : BoundsLaw s) {cause : Octet} : BoundsLaw (s.rewindInOpen c cause) :=
  h.rewindBoth.onCircuit.startDecision.raise

/-- A record that becomes FREE leaves its label at rest (R12, R97). -/
theorem BoundsLaw.endRecord (h : BoundsLaw s) : BoundsLaw (s.endRecord c) := by
  have hlabel : BoundsLaw (s.releaseLabel (s.circuit c).localLabel) := h.setLabel
  exact hlabel.same rfl

/-! ### Moves with the link (R159 to R161, R170) -/

theorem BoundsLaw.enterDormant (h : BoundsLaw s) : BoundsLaw (s.enterDormant c) := h.rewindBoth.onCircuit

theorem BoundsLaw.leaveRecord (h : BoundsLaw s) {cause : Octet} : BoundsLaw (s.leaveRecord cause c) := by
  unfold State.leaveRecord
  split
  iterate 5 exact h.endCircuit
  · exact h.enterDormant
  · exact h.enterDormant
  · exact h.onCircuit
  · exact h

theorem BoundsLaw.wakeRecord (h : BoundsLaw s) {agreed : Nat} : BoundsLaw (s.wakeRecord agreed c) := by
  unfold State.wakeRecord
  split
  · exact h.onCircuit.startDecision
  · exact h

theorem BoundsLaw.restartRecord (h : BoundsLaw s) : BoundsLaw (s.restartRecord c) := by
  unfold State.restartRecord
  split
  · exact h.rewindBoth.onCircuit
  · exact h.rewindBoth.onCircuit
  · exact h.leaveRecord

theorem BoundsLaw.reagreeRecord (h : BoundsLaw s) {agreed : Nat} : BoundsLaw (s.reagreeRecord agreed c) := by
  unfold State.reagreeRecord
  split
  · exact h.onCircuit.startDecision
  · exact h

theorem BoundsLaw.forEachCircuit (h : BoundsLaw s) {f : State → CircuitNo → State}
    (hf : ∀ u c, BoundsLaw u → BoundsLaw (f u c)) : BoundsLaw (s.forEachCircuit f) := by
  have foldl (l : List CircuitNo) : ∀ u, BoundsLaw u → BoundsLaw (l.foldl f u) := by
    induction l with
    | nil => exact fun _ hu => hu
    | cons d l ih => exact fun u hu => ih _ (hf u d hu)
  exact foldl _ s h

theorem BoundsLaw.leaveUp (h : BoundsLaw s) {cause : Octet} {follows : LinkState} :
    BoundsLaw (s.leaveUp cause follows) := by
  have hmoved : BoundsLaw (s.forEachCircuit (State.leaveRecord cause)) :=
    h.forEachCircuit fun _ _ hu => hu.leaveRecord
  exact hmoved.dropLoose.raise

theorem BoundsLaw.linkLost (h : BoundsLaw s) : BoundsLaw s.linkLost := by
  unfold State.linkLost
  split
  · exact h
  · exact h.abortTransmission.onLink.raise
  · exact h.abortTransmission.leaveUp.onLink
  · exact h.abortTransmission.onLink

theorem BoundsLaw.reachUp (h : BoundsLaw s) {offered : Nat} {identity start : Word} :
    BoundsLaw (s.reachUp offered identity start) := by
  unfold State.reachUp
  exact (h.onLink.forEachCircuit fun _ _ hu => hu.wakeRecord).raise

theorem BoundsLaw.peerRestart (h : BoundsLaw s) {offered : Nat} {identity start : Word} :
    BoundsLaw (s.peerRestart offered identity start) := by
  have hmoved : BoundsLaw (s.forEachCircuit State.restartRecord) := h.forEachCircuit fun _ _ hu => hu.restartRecord
  unfold State.peerRestart
  exact (hmoved.dropLoose.onLink.forEachCircuit fun _ _ hu => hu.reagreeRecord).onLink.raise.raise

end

end Sys2Proof.Machine

/-! PROOFS. The Send Engine and the Receive Engine at an OPEN circuit, the expiries and the passing of a millisecond
keep the bounds (R14, R34 to R46, R56 to R64, R97, R158). -/

namespace Sys2Proof.Machine

section
variable {s t : State} {c : CircuitNo}

/-! ### Answers at an OPEN circuit (R34 to R46) -/

theorem BoundsLaw.pollExhausted (h : BoundsLaw s) : BoundsLaw (s.pollExhausted c) := by
  unfold State.pollExhausted
  split
  · exact h.enterRewinding
  · exact h.enterClosing

theorem BoundsLaw.giveUp (h : BoundsLaw s) {a : ActiveBlock} : BoundsLaw (s.giveUp c a) := by
  unfold State.giveUp
  split
  · exact h.failActive.enterRewinding
  · exact h.failActive.enterClosing
  · exact h.same rfl
  · exact h.same rfl

theorem BoundsLaw.missingAnswer (h : BoundsLaw s) {a : ActiveBlock} {map : SegSet} :
    BoundsLaw (s.missingAnswer c a map) := by
  unfold State.missingAnswer
  split
  · split
    · exact h.onSend
    · exact h.giveUp
  · exact h.protocolError

theorem BoundsLaw.pollAnswer (h : BoundsLaw s) {a : ActiveBlock} {outcome : StatusOutcome} {ready : Bool} :
    BoundsLaw (s.pollAnswer c a outcome ready) := by
  cases outcome with
  | missing map => exact h.takeAnswer.missingAnswer
  | complete => exact h.takeAnswer.raise.advance
  | abandoned => exact h.takeAnswer.protocolError

theorem BoundsLaw.abandonAnswer (h : BoundsLaw s) {a : ActiveBlock} {outcome : StatusOutcome} {ready : Bool} :
    BoundsLaw (s.abandonAnswer c a outcome ready) := by
  cases outcome with
  | missing _ => exact h
  | complete => exact h.takeAnswer.raise.advance
  | abandoned => exact h.takeAnswer.raise.advance

theorem BoundsLaw.statusAt (h : BoundsLaw s) {number : BlockNumber} {outcome : StatusOutcome} {ready : Bool} :
    BoundsLaw (State.statusAt number outcome ready c s) := by
  unfold State.statusAt
  split
  · split
    · exact h.pollAnswer
    · exact h
  · split
    · exact h.abandonAnswer
    · exact h
  · split
    · exact h
    all_goals
      split
      · exact h.readyInHeld
      · exact h
  · exact h

/-! ### A segment stored (R57, R78, R86) -/

/-- A payload of at most a page, written to a free page, stays inside the window (R78). -/
theorem BoundsLaw.fillSlot (h : BoundsLaw s) {d : DescNo} {page i : Nat} {payload : List Octet}
    (hp : page < Config.pageCount) (hl : payload.length ≤ Config.pageSize) :
    BoundsLaw (s.fillSlot d page i payload) := by
  have hend : page * Config.pageSize + payload.length ≤ Memory.size :=
    calc page * Config.pageSize + payload.length
        ≤ page * Config.pageSize + Config.pageSize := Nat.add_le_add_left hl _
      _ = (page + 1) * Config.pageSize := (Nat.succ_mul ..).symm
      _ ≤ Config.pageCount * Config.pageSize := Nat.mul_le_mul_right _ hp
  exact { h with memory := Memory.wf_writeAll h.memory _ _ hend }

theorem lowestFreePage_lt {page : Nat} (h : s.lowestFreePage = some page) : page < Config.pageCount :=
  ((pageFree_iff s page).1 (lowestFreePage_free h)).1

theorem BoundsLaw.storeSegment (h : BoundsLaw s) {i : Nat} {payload : List Octet}
    (hl : payload.length ≤ Config.pageSize) (ht : s.storeSegment c i payload = some t) : BoundsLaw t := by
  unfold State.storeSegment at ht
  split at ht
  · obtain ⟨page, hp, rfl⟩ := Option.map_eq_some_iff.1 ht
    exact h.fillSlot (lowestFreePage_lt hp) hl
  · split at ht
    · split at ht
      · next hp =>
        cases ht
        exact h.setDescriptor.onRecv.fillSlot (lowestFreePage_lt hp) hl
      · cases ht
    · cases ht

theorem BoundsLaw.complete (h : BoundsLaw s) : BoundsLaw (s.complete c) := by
  unfold State.complete
  split
  · exact h
  · exact h.setDescriptor.onRecv.raise.onRecv.onCircuit

theorem BoundsLaw.segCurrent (h : BoundsLaw s) {i : Nat} {payload : List Octet}
    (hl : payload.length ≤ Config.pageSize) : BoundsLaw (s.segCurrent c i payload) := by
  unfold State.segCurrent
  split
  · exact h
  · split
    · exact h
    · next ht =>
      have hstored := h.storeSegment hl ht
      split
      · exact hstored
      · split
        · exact hstored.complete
        · exact hstored

/-! ### The Receive Engine at an OPEN circuit (R56 to R63) -/

theorem BoundsLaw.segAt (h : BoundsLaw s) {number : BlockNumber} {i : Nat} {payload : List Octet}
    (hl : payload.length ≤ Config.pageSize) : BoundsLaw (State.segAt number i payload c s) := by
  unfold State.segAt
  split
  · exact h.protocolError
  · split
    · exact h
    · exact h.protocolError
    · split
      · exact h.segCurrent hl
      · exact h.protocolError

theorem BoundsLaw.blockEndAt (h : BoundsLaw s) {number : BlockNumber} {n : Nat} :
    BoundsLaw (State.blockEndAt number n c s) := by
  unfold State.blockEndAt
  split
  · exact h.protocolError
  · split
    · exact h.protocolError
    · exact h.onCircuit
    · split
      · split
        · exact h.complete
        · exact h.onRecv.onCircuit
      · exact h.protocolError

theorem BoundsLaw.blockAbandonAt (h : BoundsLaw s) {number : BlockNumber} :
    BoundsLaw (State.blockAbandonAt number c s) := by
  have hdrop : BoundsLaw (s.dropAssembly c) := by
    rw [dropAssembly_eq]
    exact h.same rfl
  unfold State.blockAbandonAt
  split
  · exact h.protocolError
  · exact h.onCircuit
  · exact hdrop.onRecv.onCircuit

/-! ### Expiries (R14, R97, R158) -/

theorem BoundsLaw.expire (h : BoundsLaw s) {purpose : TimerPurpose} {owner : State → State}
    (ho : ∀ u, BoundsLaw u → BoundsLaw (owner u)) : BoundsLaw (s.expire c purpose owner) := by
  unfold State.expire
  split
  · exact ho _ h.onCircuit
  · exact h

theorem BoundsLaw.openExpired (h : BoundsLaw s) : BoundsLaw (State.openExpired c s) := by
  unfold State.openExpired
  split
  · exact h.enterClosed
  · exact h

theorem BoundsLaw.offerExpired (h : BoundsLaw s) : BoundsLaw (State.offerExpired c s) := by
  unfold State.offerExpired
  split
  · exact h.requestLoose.raise.endRecord
  · exact h

theorem BoundsLaw.pollAgain (h : BoundsLaw s) {k : TransferKind} : BoundsLaw (s.pollAgain c k) := by
  unfold State.pollAgain
  split
  · exact h.onSend.onCircuit
  · exact h.pollExhausted

theorem BoundsLaw.statusExpired (h : BoundsLaw s) : BoundsLaw (State.statusExpired c s) := by
  unfold State.statusExpired
  split
  · exact h.pollAgain
  · exact h.pollAgain
  · exact h

theorem BoundsLaw.probeExpired (h : BoundsLaw s) : BoundsLaw (State.probeExpired c s) := by
  unfold State.probeExpired
  split
  · exact h.pollAgain
  · exact h

theorem BoundsLaw.retry (h : BoundsLaw s) {k : ProtocolKind} {purpose : TimerPurpose} {ms : Nat} :
    BoundsLaw (s.retry c k purpose ms) := h.same rfl

theorem BoundsLaw.closeExpired (h : BoundsLaw s) : BoundsLaw (State.closeExpired c s) := by
  unfold State.closeExpired
  split
  · split
    · exact h.retry
    · exact h.finishClosing
  · exact h

theorem BoundsLaw.rewindExpired (h : BoundsLaw s) : BoundsLaw (State.rewindExpired c s) := by
  unfold State.rewindExpired
  split
  · split
    · exact h.retry
    · exact h.enterClosing
  · exact h

theorem BoundsLaw.expireLink (h : BoundsLaw s) {purpose : LinkPurpose} {owner : State → State}
    (ho : ∀ u, BoundsLaw u → BoundsLaw (owner u)) : BoundsLaw (s.expireLink purpose owner) := by
  unfold State.expireLink
  split
  · exact ho _ h.onLink
  · exact h

theorem BoundsLaw.startExpired (h : BoundsLaw s) : BoundsLaw s.startExpired := by
  unfold State.startExpired
  split
  · exact h.onLink.onLink
  · exact h

theorem BoundsLaw.stopExpired (h : BoundsLaw s) : BoundsLaw s.stopExpired := by
  unfold State.stopExpired
  split
  · exact h.onLink
  · exact h

theorem BoundsLaw.restExpired (h : BoundsLaw s) {l : Label} : BoundsLaw (s.restExpired l) := by
  unfold State.restExpired
  split
  · exact h.setLabel
  · exact h
  · exact h

/-! ### One millisecond (R14) -/

theorem BoundsLaw.expireDue (h : BoundsLaw s) : BoundsLaw (s.expireDue c) := by
  unfold State.expireDue
  split
  · next purpose _ =>
    cases purpose with
    | openT => exact h.expire fun _ hu => hu.openExpired
    | offer => exact h.expire fun _ hu => hu.offerExpired
    | status => exact h.expire fun _ hu => hu.statusExpired
    | probe => exact h.expire fun _ hu => hu.probeExpired
    | close => exact h.expire fun _ hu => hu.closeExpired
    | rewind => exact h.expire fun _ hu => hu.rewindExpired
  · exact h

theorem BoundsLaw.expireLinkDue (h : BoundsLaw s) : BoundsLaw s.expireLinkDue := by
  unfold State.expireLinkDue
  split
  · exact h.expireLink fun _ hu => hu.startExpired
  · exact h.expireLink fun _ hu => hu.stopExpired
  · exact h

theorem BoundsLaw.tick (h : BoundsLaw s) : BoundsLaw s.tick := by
  have haged : BoundsLaw s.age := h.same rfl
  unfold State.tick
  split
  · exact h
  · exact (haged.forEachCircuit fun _ _ hu => hu.expireDue).expireLinkDue

end

end Sys2Proof.Machine

/-! PROOFS. The takings of the host commands keep the bounds (R196): few of them touch a queue, a buffer or the
allocation pointer. -/

namespace Sys2Proof.Machine

section
variable {s : State} {c : CircuitNo}

theorem BoundsLaw.taking (h : BoundsLaw s) {command : Instr} {body : State → State} (hb : BoundsLaw (body s)) :
    BoundsLaw (s.taking command body) := by
  unfold State.taking
  split
  · exact hb
  · exact h

/-- A command acts on the circuit it names, or is refused (R2). -/
theorem BoundsLaw.withCircuit (h : BoundsLaw s) {n : Nat} {body : CircuitNo → State} (hb : ∀ c, BoundsLaw (body c)) :
    BoundsLaw (s.withCircuit n body) := by
  unfold State.withCircuit
  split
  · exact h.finish
  · exact hb _

/-! ### The commands that read, and those of the tables (R18, R82, R92, R93, R109, R113, R114, R155, R174) -/

theorem BoundsLaw.takeSetLink (h : BoundsLaw s) : BoundsLaw s.takeSetLink := by
  unfold State.takeSetLink
  repeat' split
  all_goals exact h.same rfl

theorem BoundsLaw.takeReadLink (h : BoundsLaw s) : BoundsLaw s.takeReadLink := by
  unfold State.takeReadLink
  split
  all_goals exact h.same rfl

theorem BoundsLaw.takeStartLink (h : BoundsLaw s) : BoundsLaw s.takeStartLink := by
  unfold State.takeStartLink
  repeat' split
  all_goals exact h.same rfl

theorem BoundsLaw.takeListen (h : BoundsLaw s) : BoundsLaw s.takeListen := by
  unfold State.takeListen
  repeat' split
  all_goals exact h.same rfl

theorem BoundsLaw.takeUnlisten (h : BoundsLaw s) : BoundsLaw s.takeUnlisten := by
  unfold State.takeUnlisten
  split
  all_goals exact h.same rfl

theorem BoundsLaw.takeReadListen (h : BoundsLaw s) : BoundsLaw s.takeReadListen := by
  unfold State.takeReadListen
  split
  all_goals exact h.same rfl

theorem BoundsLaw.takeReadCircuit (h : BoundsLaw s) : BoundsLaw s.takeReadCircuit := by
  unfold State.takeReadCircuit
  repeat' split
  all_goals exact h.same rfl

theorem BoundsLaw.takeAlloc (h : BoundsLaw s) : BoundsLaw s.takeAlloc := by
  unfold State.takeAlloc
  dsimp only
  repeat' split
  all_goals exact h.same rfl

theorem BoundsLaw.takeReadDescriptor (h : BoundsLaw s) : BoundsLaw s.takeReadDescriptor := by
  unfold State.takeReadDescriptor
  repeat' split
  all_goals exact h.same rfl

theorem BoundsLaw.takeReadLabel (h : BoundsLaw s) : BoundsLaw s.takeReadLabel := by
  unfold State.takeReadLabel
  repeat' split
  all_goals exact h.same rfl

/-! ### STOP-LINK (R167) -/

theorem BoundsLaw.stopFromUp (h : BoundsLaw s) : BoundsLaw s.stopFromUp := by
  unfold State.stopFromUp State.enterStopping
  exact h.leaveUp.onLink

theorem BoundsLaw.takeStopLink (h : BoundsLaw s) : BoundsLaw s.takeStopLink := by
  unfold State.takeStopLink
  split
  · exact h.finish
  · exact h.onLink.finish
  · exact h.stopFromUp.finish
  · exact h.finish

/-! ### The commands of the Circuit Controller (R20, R21, R115 to R142, R172, R173) -/

theorem BoundsLaw.openCircuit (h : BoundsLaw s) {service : Word} {limits : Limits} {requested : Nat}
    {data : List Octet} : BoundsLaw (s.openCircuit service limits requested data) := by
  unfold State.openCircuit
  split
  · exact h.finish
  · split
    · exact h.finish
    · split
      · exact h.finish
      · exact h.finish
      · exact h.createDialled.finish

theorem BoundsLaw.takeOpen (h : BoundsLaw s) : BoundsLaw s.takeOpen := by
  unfold State.takeOpen
  split
  · exact h.finish
  · split
    · exact h.finish
    · split
      · exact h.finish
      · exact h.openCircuit

theorem BoundsLaw.takeAnswerCommand (h : BoundsLaw s) : BoundsLaw s.takeAnswerCommand := by
  refine h.withCircuit fun c => ?_
  split
  · exact h.finish
  · split
    · split
      · exact h.finish
      · split
        · exact h.finish
        · exact h.onCircuit.startDecision.finish
    · exact h.requestLoose.endRecord.countFree.finish
    · exact h.finish

theorem BoundsLaw.takeClose (h : BoundsLaw s) : BoundsLaw s.takeClose := by
  refine h.withCircuit fun c => ?_
  unfold State.closeCircuit
  split
  · exact h.enterClosed.countFree.finish
  · exact h.enterClosing.countFree.finish
  · exact h.enterClosing.countFree.finish
  · exact h.finish

theorem BoundsLaw.takeRewind (h : BoundsLaw s) : BoundsLaw s.takeRewind := by
  refine h.withCircuit fun c => ?_
  split
  · exact h.enterRewinding.finish
  · exact h.finish

theorem BoundsLaw.takeRetire (h : BoundsLaw s) : BoundsLaw s.takeRetire := by
  refine h.withCircuit fun c => ?_
  split
  · exact h.foldl_free.endRecord.finish
  · exact h.finish

theorem BoundsLaw.takeUnfix (h : BoundsLaw s) : BoundsLaw s.takeUnfix := by
  refine h.withCircuit fun c => ?_
  split
  · exact h.toClosed.finish
  · exact h.finish

theorem BoundsLaw.takeSetCircuit (h : BoundsLaw s) : BoundsLaw s.takeSetCircuit := by
  refine h.withCircuit fun c => ?_
  split
  · exact h.finish
  · split
    · exact h.finish
    · exact h.onCircuit.finish

theorem BoundsLaw.fixCircuit (h : BoundsLaw s) {peer : Label} {service : Word} {maximum : Nat} {limits : Limits} :
    BoundsLaw (s.fixCircuit peer service maximum limits) := by
  unfold State.fixCircuit
  split
  · exact h.finish
  · split
    · exact h.finish
    · next l _ =>
      split
      · exact h.finish
      · split
        · exact h.finish
        · next c _ =>
          have hlabel : BoundsLaw (s.setLabel l (.bound c true)) := h.setLabel
          exact hlabel.same rfl

theorem BoundsLaw.takeFix (h : BoundsLaw s) : BoundsLaw s.takeFix := by
  unfold State.takeFix
  split
  · split
    · exact h.finish
    · split
      · exact h.finish
      · exact h.fixCircuit
  · exact h.finish

/-! ### The commands about blocks (R26, R70, R84) -/

theorem BoundsLaw.takeFree (h : BoundsLaw s) : BoundsLaw s.takeFree := by
  unfold State.takeFree
  split
  · exact h.finish
  · exact h.freeDescriptor.finish

theorem BoundsLaw.submitTo (h : BoundsLaw s) {d : DescNo} : BoundsLaw (s.submitTo c d) := by
  have hstarted {length : Nat} {tag : Word} : BoundsLaw ((s.enqueue c d length tag).startIfIdle c) := by
    have hqueued : BoundsLaw (s.enqueue c d length tag) := h.setDescriptor.onSend
    unfold State.startIfIdle
    split
    · exact hqueued.startDecision
    · exact hqueued
  unfold State.submitTo
  dsimp only
  iterate 4
    split
    · exact h.finish
  exact hstarted.countFree.finish

theorem BoundsLaw.takeSubmit (h : BoundsLaw s) : BoundsLaw s.takeSubmit := by
  refine h.withCircuit fun c => ?_
  split
  · exact h.finish
  · exact h.submitTo

theorem BoundsLaw.takeTake (h : BoundsLaw s) : BoundsLaw s.takeTake := by
  refine h.withCircuit fun c => ?_
  split
  · exact h.finish
  · split
    · exact h.finish
    · exact h.setDescriptor.onRecv.onCircuit.finish

/-! ### INITIALISE (R199) -/

/-- INITIALISE empties both queues and sets the pointer to 1; page memory and the receiver are kept (R199). -/
theorem BoundsLaw.takeInitialise (h : BoundsLaw s) : BoundsLaw s.takeInitialise := by
  rw [takeInitialise_eq]
  exact { h with events := Nat.zero_le _, loose := Nat.zero_le _, allocPtr := (by decide : (1 : Label) ≠ 0) }

end

end Sys2Proof.Machine

/-! PROOFS. The arrivals, the host's accesses, the receiver and the transmitter, and so every row and every step, keep
the bounds of the queues and buffers: the settling of BoundsAreKept. -/

namespace Sys2Proof.Machine

/-! ### The receiver (R180) -/

/-- The candidate collected so far fits the receiver's buffer (R180). -/
def Receiver.fits (r : Receiver) : Prop := r.buffer.length ≤ Config.receiverCapacity

theorem fits_hunting : Receiver.hunting.fits := Nat.zero_le _

theorem fits_opened : Receiver.opened.fits := Nat.zero_le _

/-- An octet that finds no room discards the candidate (R180). -/
theorem Receiver.fits_append (r : Receiver) (o : Octet) : (r.append o).fits := by
  unfold Receiver.append
  split
  · exact fits_hunting
  · next hroom =>
    unfold Receiver.fits
    rw [List.length_append, List.length_singleton]
    omega

theorem Receiver.fits_take {r : Receiver} (h : r.fits) (o : Octet) : (r.take o).1.fits := by
  unfold Receiver.take
  split
  · split
    · exact fits_opened
    · exact h
  · split
    · exact fits_opened
    · split
      · exact h
      · exact r.fits_append o
  · split
    · exact r.fits_append delimiter
    · split
      · exact r.fits_append escapeOctet
      · split
        · exact fits_opened
        · exact fits_hunting

theorem Receiver.fits_feed {r : Receiver} (h : r.fits) (octets : List Octet) : (r.feed octets).1.fits := by
  induction octets generalizing r with
  | nil => exact h
  | cons o octets ih => exact ih (fits_take h o)

section
variable {s t : State} {c : CircuitNo}

theorem BoundsLaw.hear (h : BoundsLaw s) {r : Receiver} (hr : r.fits) : BoundsLaw { s with receiver := r } :=
  { h with receiver := hr }

/-! ### The host's accesses (R90, R91, R194, R205) -/

theorem BoundsLaw.popEvent (h : BoundsLaw s) : BoundsLaw s.popEvent :=
  { h with events := Nat.le_trans (List.tail_sublist s.events).length_le h.events }

theorem BoundsLaw.writeRegister (h : BoundsLaw s) {address : WordAddress} {value : Word} :
    BoundsLaw (s.writeRegister address value) := by
  unfold State.writeRegister State.writeCommand State.writeParam
  dsimp only
  split
  · split <;> exact h.same rfl
  · split
    · exact h.same rfl
    · split
      · split <;> exact h.same rfl
      · split
        · exact h.popEvent
        · exact h

theorem BoundsLaw.reportRefusal (h : BoundsLaw s) {page : Nat} : BoundsLaw (s.reportRefusal page) := by
  have hlatch : BoundsLaw { s with latch := some page } := h.same rfl
  unfold State.reportRefusal
  split
  · exact h
  · exact hlatch.raise

theorem BoundsLaw.readPacket (h : BoundsLaw s) {address : WordAddress} : BoundsLaw (s.readPacket address) := by
  have hzero : BoundsLaw { s with dataBus := 0 } := h.same rfl
  unfold State.readPacket
  split
  · exact hzero
  · split
    · exact h.same rfl
    · exact hzero.reportRefusal

/-- Both octets of a word address lie in the window (R78). -/
theorem BoundsLaw.storeWord (h : BoundsLaw s) {address : WordAddress} {value : Word} :
    BoundsLaw (s.storeWord address value) := by
  have hend : offsetOf address + 2 ≤ Memory.size := by
    have hlt := address.isLt
    simp only [offsetOf, Memory.size, Config.pageCount, Config.pageSize]
    omega
  exact { h with memory := Memory.wf_writeAll h.memory _ _ hend }

theorem BoundsLaw.writePacket (h : BoundsLaw s) {address : WordAddress} {value : Word} :
    BoundsLaw (s.writePacket address value) := by
  unfold State.writePacket
  split
  · exact h
  · split
    · exact h.storeWord
    · exact h.reportRefusal

/-! ### Arrivals (R102 to R104, R180) -/

/-- A frame reaches its owner only in the bounds of a good frame (R182). -/
theorem BoundsLaw.arrive (h : BoundsLaw s) {f : Frame} {owner : State → State}
    (ho : f.wellFormed = true → ∀ u, BoundsLaw u → BoundsLaw (owner u)) : BoundsLaw (s.arrive f owner) := by
  unfold State.arrive
  split
  · split
    · next hf => exact ho hf _ (h.hear fits_opened)
    · exact h.hear fits_opened
  · exact h

theorem BoundsLaw.dispatch (h : BoundsLaw s) {dst : Label} {bound : CircuitNo → State → State}
    {unbound : State → State} (hb : ∀ c, BoundsLaw (bound c s)) (hu : BoundsLaw (unbound s)) :
    BoundsLaw (s.dispatch dst bound unbound) := by
  unfold State.dispatch
  split
  · split
    · exact hb _
    · exact hu
    · exact hu
  · exact h

theorem BoundsLaw.dispatchOpen (h : BoundsLaw s) {dst : Label} {taken : CircuitNo → State → State}
    (ht : ∀ c, BoundsLaw (taken c s)) : BoundsLaw (s.dispatchOpen dst taken) := by
  refine h.dispatch (fun c => ?_) h
  split
  · exact ht c
  · exact h

theorem BoundsLaw.openListed (h : BoundsLaw s) {x : OpenFields} : BoundsLaw (s.openListed x) := by
  unfold State.openListed
  split
  · exact h.requestLoose
  · split
    · exact h.requestLoose
    · split
      · split
        · exact h.createDialled.raise
        · exact h.createDialled.raise
      · exact h.requestLoose

theorem BoundsLaw.openFrameAt (h : BoundsLaw s) {dst : Label} {x : OpenFields} : BoundsLaw (s.openFrameAt dst x) := by
  unfold State.openFrameAt State.openAt
  split
  · split
    · exact h.openListed
    · split
      · exact h.requestLoose
      · exact h.endCircuit.openListed
  · exact h

theorem BoundsLaw.openByAccept (h : BoundsLaw s) {src : Label} {agreed : Nat} :
    BoundsLaw (s.openByAccept c src agreed) := h.onCircuit.raise.startDecision

theorem BoundsLaw.refuseAccept (h : BoundsLaw s) {src : Label} : BoundsLaw (s.refuseAccept c src) :=
  h.requestLoose.enterClosed

theorem BoundsLaw.acceptOpening (h : BoundsLaw s) {src : Label} {agreed : Nat} :
    BoundsLaw (s.acceptOpening c src agreed) := by
  unfold State.acceptOpening
  split
  · split
    · exact h.openByAccept
    · split
      · exact h.refuseAccept
      · exact h.endCircuit.openByAccept
  · exact h.refuseAccept

theorem BoundsLaw.acceptAt (h : BoundsLaw s) {dst src : Label} {agreed : Octet} :
    BoundsLaw (s.acceptAt dst src agreed) := by
  unfold State.acceptAt
  split
  · exact h
  · refine h.dispatch (fun c => ?_) h.requestLoose
    split
    · exact h.acceptOpening
    · exact h.requestLoose

theorem BoundsLaw.refuseAt (h : BoundsLaw s) {dst : Label} {cause diagnostic : Octet} :
    BoundsLaw (s.refuseAt dst cause diagnostic) := by
  refine h.dispatch (fun c => ?_) h
  split
  · exact h.enterClosed
  · exact h

theorem BoundsLaw.closeDialled (h : BoundsLaw s) {dst src : Label} {cause diagnostic : Octet} :
    BoundsLaw (s.closeDialled c dst src cause diagnostic) := by
  unfold State.closeDialled State.closeRepeated
  split
  · exact h.enterClosed
  · exact h.enterClosed
  · exact h.finishClosing
  · split
    · exact h.onCircuit
    · exact h.requestLoose
  all_goals exact h

theorem BoundsLaw.closeAt (h : BoundsLaw s) {dst src : Label} {cause diagnostic : Octet} :
    BoundsLaw (s.closeAt dst src cause diagnostic) := by
  unfold State.closeAt
  split
  · exact h
  · refine h.dispatch (fun c => ?_) h.requestLoose
    split
    · exact h
    · exact h.closeDialled

theorem BoundsLaw.closeDoneAt (h : BoundsLaw s) {dst : Label} : BoundsLaw (s.closeDoneAt dst) := by
  refine h.dispatch (fun c => ?_) h
  split
  · exact h.finishClosing
  · exact h

theorem BoundsLaw.rewindTaken (h : BoundsLaw s) {cause : Octet} : BoundsLaw (s.rewindTaken c cause) := by
  unfold State.rewindTaken
  split
  · exact h.rewindInOpen
  · exact h.finishRewinding
  all_goals exact h

theorem BoundsLaw.rewindDoneTaken (h : BoundsLaw s) : BoundsLaw (s.rewindDoneTaken c) := by
  unfold State.rewindDoneTaken
  split
  · exact h.finishRewinding
  · exact h

/-! ### Link frames (R163 to R168) -/

theorem BoundsLaw.startTaken (h : BoundsLaw s) {maxSegments : Octet} {identity startNumber : Word} :
    BoundsLaw (s.startTaken maxSegments identity startNumber) := by
  unfold State.startTaken
  split
  · exact h.onLink.reachUp
  · split
    · exact h.onLink
    · exact h.peerRestart
  · exact h
  · exact h

theorem BoundsLaw.linkStartAt (h : BoundsLaw s) {version maxSegments : Octet} {identity startNumber : Word} :
    BoundsLaw (s.linkStartAt version maxSegments identity startNumber) := by
  unfold State.linkStartAt State.loopSeen
  split
  · exact h
  · split
    · split
      · exact h.onLink.raise
      · exact h
    · split
      · exact h.onLink
      · split
        · exact h.startTaken
        · exact h

theorem BoundsLaw.linkAgreeAt (h : BoundsLaw s) {maxSegments : Octet} {identity startNumber : Word} :
    BoundsLaw (s.linkAgreeAt maxSegments identity startNumber) := by
  unfold State.linkAgreeAt
  split
  · exact h.onLink.reachUp
  · exact h

theorem BoundsLaw.linkStopAt (h : BoundsLaw s) {cause : Octet} : BoundsLaw (s.linkStopAt cause) := by
  unfold State.linkStopAt
  split
  · exact h
  · exact h.onLink
  · exact h.onLink.leaveUp.onLink
  · exact h.onLink.onLink

/-! ### The transmitter (R187 to R191) -/

/-- A loose reply that starts leaves its queue (R106). -/
theorem BoundsLaw.startClaim (h : BoundsLaw s) {claim : Claim} : BoundsLaw (s.startClaim claim) := by
  cases claim with
  | loose reply =>
    have hqueue : BoundsLaw { s with loose := s.loose.tail } :=
      { h with loose := Nat.le_trans (List.tail_sublist s.loose).length_le h.loose }
    exact hqueue.same rfl
  | link p => exact h.same rfl
  | protocol c k => exact h.same rfl
  | answer c k => exact h.same rfl
  | transfer c k => exact h.same rfl
  | data c a i => exact h.same rfl

theorem BoundsLaw.startTransmission (h : BoundsLaw s) : BoundsLaw s.startTransmission := by
  unfold State.startTransmission
  split
  · exact h.startClaim
  · exact h

theorem BoundsLaw.reportToSender (h : BoundsLaw s) {f : Frame} : BoundsLaw (s.reportToSender c f) := by
  unfold State.reportToSender State.segSent State.blockEndSent State.blockAbandonSent State.probeSent
  dsimp only
  repeat' split
  all_goals exact h.same rfl

theorem BoundsLaw.linkFrameSent (h : BoundsLaw s) {f : Frame} : BoundsLaw (s.linkFrameSent f) := by
  unfold State.linkFrameSent
  split
  · split
    · exact h.onLink
    · exact h
  · exact h

theorem BoundsLaw.endPin (h : BoundsLaw s) {pin : Option (Nat × DescNo)} : BoundsLaw (s.endPin pin) := by
  unfold State.endPin
  split
  · exact h
  · split
    · exact h.setDescriptor
    · exact h

theorem BoundsLaw.reportEnd (h : BoundsLaw s) {x : TxFrame} : BoundsLaw (s.reportEnd x) := by
  unfold State.reportEnd
  split
  · exact h.linkFrameSent
  · exact h
  · refine BoundsLaw.endPin ?_
    split
    · exact h
    · exact h.reportToSender

theorem BoundsLaw.endTransmission (h : BoundsLaw s) : BoundsLaw s.endTransmission := by
  unfold State.endTransmission
  split
  · exact h
  · next x _ =>
    have hreported : BoundsLaw (s.reportEnd x) := h.reportEnd
    exact hreported.same rfl

/-! ### Every row and every step -/

/-- The bounds, where an outcome is a state. -/
def BoundedOutcome : Host.Outcome State Fault Refusal → Prop
  | .next t => BoundsLaw t
  | .fault _ => True
  | .refused _ => True

/-- A payload of a good SEG fits a page (R181). -/
theorem payload_fits {dst : Label} {number : BlockNumber} {index : Octet} {payload : List Octet}
    (h : (Frame.seg dst number index payload).wellFormed = true) : payload.length ≤ Config.pageSize := by
  simp only [Frame.wellFormed, Bool.and_eq_true, decide_eq_true_eq] at h
  exact h.2

/-- Every row of the table keeps the bounds. -/
theorem exec_bounded (h : BoundsLaw s) (i : Instr) : BoundedOutcome (exec i s) := by
  cases i with
  | setLink => exact h.taking h.takeSetLink
  | readLink => exact h.taking h.takeReadLink
  | startLink => exact h.taking h.takeStartLink
  | stopLink => exact h.taking h.takeStopLink
  | listen => exact h.taking h.takeListen
  | unlisten => exact h.taking h.takeUnlisten
  | readListen => exact h.taking h.takeReadListen
  | openCommand => exact h.taking h.takeOpen
  | answer => exact h.taking h.takeAnswerCommand
  | closeCommand => exact h.taking h.takeClose
  | rewindCommand => exact h.taking h.takeRewind
  | retire => exact h.taking h.takeRetire
  | fix => exact h.taking h.takeFix
  | unfix => exact h.taking h.takeUnfix
  | readCircuit => exact h.taking h.takeReadCircuit
  | setCircuit => exact h.taking h.takeSetCircuit
  | alloc => exact h.taking h.takeAlloc
  | freeCommand => exact h.taking h.takeFree
  | submit => exact h.taking h.takeSubmit
  | take => exact h.taking h.takeTake
  | readDescriptor => exact h.taking h.takeReadDescriptor
  | readPool => exact h.taking (h.same rfl)
  | initialise => exact h.taking h.takeInitialise
  | readLabel => exact h.taking h.takeReadLabel
  | unknownCommand =>
    show BoundsLaw (if _ then _ else _)
    split
    · exact h.finish
    · exact h
  | registerWrite address value => exact h.writeRegister
  | portControlWrite value => exact h.same rfl
  | eventPop => exact h.popEvent
  | packetMemoryRead address => exact h.readPacket
  | packetMemoryWrite address value => exact h.writePacket
  | hardwareReset => exact { reset_bounds with memory := h.memory }
  | startUpEnd =>
    show BoundsLaw (if _ then _ else _)
    split
    · exact { h with memory := rfl }
    · exact h
  | lineReadyFall =>
    have hfall : BoundsLaw { s with lineReady := false, receiver := Receiver.hunting } := (h.hear fits_hunting).same rfl
    show BoundsLaw (if _ then _ else _)
    split
    · exact hfall.linkLost
    · exact h
  | lineReadyRise => exact h.same rfl
  | candidateDiscard octets =>
    show BoundsLaw (if _ then _ else _)
    split
    · exact h.hear (Receiver.fits_feed h.receiver octets)
    · exact h
  | linkStartArrival version maxSegments identity startNumber => exact h.arrive fun _ _ hu => hu.linkStartAt
  | linkAgreeArrival maxSegments identity startNumber => exact h.arrive fun _ _ hu => hu.linkAgreeAt
  | linkStopArrival cause => exact h.arrive fun _ _ hu => hu.linkStopAt
  | openFrameArrival dst src requested service data => exact h.arrive fun _ _ hu => hu.openFrameAt
  | acceptArrival dst src agreed => exact h.arrive fun _ _ hu => hu.acceptAt
  | refuseArrival dst src cause diagnostic => exact h.arrive fun _ _ hu => hu.refuseAt
  | closeFrameArrival dst src cause diagnostic => exact h.arrive fun _ _ hu => hu.closeAt
  | closeDoneArrival dst src => exact h.arrive fun _ _ hu => hu.closeDoneAt
  | rewindFrameArrival dst cause => exact h.arrive fun _ _ hu => hu.dispatch (fun _ => hu.rewindTaken) hu
  | rewindDoneArrival dst => exact h.arrive fun _ _ hu => hu.dispatch (fun _ => hu.rewindDoneTaken) hu
  | segArrival dst number index payload =>
    exact h.arrive fun hf _ hu => hu.dispatchOpen fun _ => hu.segAt (payload_fits hf)
  | blockEndArrival dst number count => exact h.arrive fun _ _ hu => hu.dispatchOpen fun _ => hu.blockEndAt
  | blockAbandonArrival dst number => exact h.arrive fun _ _ hu => hu.dispatchOpen fun _ => hu.blockAbandonAt
  | blockStatusArrival dst number outcome ready => exact h.arrive fun _ _ hu => hu.dispatchOpen fun _ => hu.statusAt
  | probeArrival dst => exact h.arrive fun _ _ hu => hu.dispatchOpen fun _ => hu.same rfl
  | readyArrival dst ready => exact h.arrive fun _ _ hu => hu.dispatchOpen fun _ => hu.readyAt
  | openTimerExpiry circuit => exact h.expire fun _ hu => hu.openExpired
  | offerTimerExpiry circuit => exact h.expire fun _ hu => hu.offerExpired
  | statusTimerExpiry circuit => exact h.expire fun _ hu => hu.statusExpired
  | probeTimerExpiry circuit => exact h.expire fun _ hu => hu.probeExpired
  | closeTimerExpiry circuit => exact h.expire fun _ hu => hu.closeExpired
  | rewindTimerExpiry circuit => exact h.expire fun _ hu => hu.rewindExpired
  | startTimerExpiry => exact h.expireLink fun _ hu => hu.startExpired
  | stopTimerExpiry => exact h.expireLink fun _ hu => hu.stopExpired
  | restTimeExpiry label => exact h.restExpired
  | transmissionStart => exact h.startTransmission
  | transmissionEnd => exact h.endTransmission
  | huntDelimiterReceived =>
    show BoundsLaw (if _ then _ else _)
    split
    · exact h.hear fits_opened
    · exact h

/-- Every step keeps the bounds. -/
theorem step_bounded (h : BoundsLaw s) : BoundedOutcome (step s) := by
  unfold step
  split
  · exact h.tick
  · next i rest _ => exact exec_bounded (s := { s with pending := rest }) (h.same rfl) i

end

/-- Settles O54: the bounds of the queues and buffers, kept row by row. -/
theorem boundsAreKept : Obligations.BoundsAreKept := by
  intro s t h ht
  have hstep := step_bounded h
  rwa [ht] at hstep

end Sys2Proof.Machine

/-! PROOFS. What the circuits hold and what the descriptors are (R26, R53, R77, R80, R88), put in the terms that the
moves of the part change: the stock of a record, and the descriptor of each number under the pin. -/

namespace Sys2Proof.Machine

/-! ### The stock of a record (R26, R53, R80) -/

/-- The descriptor states that name a collection of a circuit (R80). -/
def DescState.collected : DescState → Bool
  | .queued | .active | .assembling | .delivered => true
  | .free | .filling | .held | .returning => false

/-- The sender states with an active block (R25). -/
def SenderState.busy : SenderState → Bool
  | .sending | .polling | .abandoning => true
  | .idle | .held | .stopped => false

/-- The collections that a circuit may hold blocks in, by its state (R25, R50, R52, R74). -/
def CircuitState.mayCollect : CircuitState → DescState → Bool
  | .free, _ | .offered, _ => false
  | .closing, x | .closed, x => decide (x = .delivered)
  | .opened, _ => true
  | .opening, x | .rewinding, x | .dormant, x => decide (x ≠ .active)

/-- What a record says about the blocks it holds. -/
structure Stock where
  state     : CircuitState
  window    : Nat
  busy      : Bool
  queue     : List DescNo
  active    : Option DescNo
  assembly  : Option DescNo
  delivered : List DescNo

/-- The stock of a record. -/
def CircuitRecord.stock (r : CircuitRecord) : Stock where
  state     := r.state
  window    := r.window
  busy      := r.send.sender.busy
  queue     := r.send.queue
  active    := r.send.active.map ActiveBlock.desc
  assembly  := r.recv.assembly
  delivered := r.recv.delivered

/-- The collection that a descriptor state names (R80). -/
def Stock.collection (x : Stock) : DescState → List DescNo
  | .queued => x.queue
  | .active => x.active.toList
  | .assembling => x.assembly.toList
  | .delivered => x.delivered
  | .free | .filling | .held | .returning => []

/-- A stock with nothing in it. -/
def Stock.Empty (x : Stock) : Prop := ∀ k, x.collection k = []

/-- A stock in agreement with its record's state: no descriptor twice in a collection, blocks where the circuit's state
allows them, and an active block under a busy sender alone. -/
structure Stock.Tidy (x : Stock) : Prop where
  once : ∀ k, (x.collection k).Nodup
  held : ∀ k, x.collection k ≠ [] → x.state.mayCollect k = true
  busy : x.active ≠ none → x.busy = true

/-- A stock inside its bounds (R26, R53, R6). -/
structure Stock.Fits (x : Stock) : Prop where
  send     : (x.collection .active).length + (x.collection .queued).length ≤ Config.sendCapacity
  received : (x.collection .delivered).length + (x.collection .assembling).length ≤ x.window
  window   : x.window ≤ 8
  offered  : x.state = .offered → x.Empty

theorem collection_of_uncollected (x : Stock) {k : DescState} (hk : k.collected = false) : x.collection k = [] := by
  cases k <;> simp_all [DescState.collected, Stock.collection]

theorem Stock.empty_iff (x : Stock) :
    x.Empty ↔ x.queue = [] ∧ x.active = none ∧ x.assembly = none ∧ x.delivered = [] := by
  constructor
  · intro h
    exact ⟨h .queued, by simpa [Stock.collection] using h .active, by simpa [Stock.collection] using h .assembling,
      h .delivered⟩
  · rintro ⟨hq, ha, hs, hd⟩ k
    cases k <;> simp [Stock.collection, hq, ha, hs, hd]

theorem Stock.Empty.tidy {x : Stock} (h : x.Empty) : x.Tidy where
  once k    := by rw [h k]; exact List.nodup_nil
  held k hk := absurd (h k) hk
  busy ha   := absurd ((x.empty_iff.1 h).2.1) ha

theorem Stock.Empty.fits {x : Stock} (h : x.Empty) (hw : x.window ≤ 8) : x.Fits where
  send      := by rw [h .active, h .queued]; exact Nat.zero_le _
  received  := by rw [h .delivered, h .assembling]; exact Nat.zero_le _
  window    := hw
  offered _ := h

/-- A circuit whose state allows no collection holds nothing. -/
theorem Stock.Tidy.empty {x : Stock} (h : x.Tidy) (hs : x.state = .free ∨ x.state = .offered) : x.Empty := by
  intro k
  refine Classical.byContradiction fun hk => ?_
  have := h.held k hk
  rcases hs with hs | hs <;> simp [hs, CircuitState.mayCollect] at this

/-- A circuit has an active block in OPEN alone. -/
theorem Stock.Tidy.no_active {x : Stock} (h : x.Tidy) (hs : x.state ≠ .opened ∨ x.busy = false) : x.active = none := by
  refine Classical.byContradiction fun ha => ?_
  rcases hs with hs | hs
  · have := h.held .active (by simpa [Stock.collection] using ha)
    cases hx : x.state <;> simp_all [CircuitState.mayCollect]
  · rw [h.busy ha] at hs
    cases hs

/-! ### The bounds of what circuits hold -/

theorem receivedBlocks_eq (r : CircuitRecord) :
    r.receivedBlocks = (r.stock.collection .delivered).length + (r.stock.collection .assembling).length := by
  unfold CircuitRecord.receivedBlocks CircuitRecord.deliveredCount
  cases h : r.recv.assembly <;> simp [CircuitRecord.stock, Stock.collection, h]

theorem blocks_eq (r : CircuitRecord) :
    r.send.blocks = r.stock.collection .active ++ r.stock.collection .queued := rfl

theorem blocks_eq_nil_iff (r : CircuitRecord) : r.send.blocks = [] ↔ r.stock.active = none ∧ r.stock.queue = [] := by
  rw [blocks_eq, List.append_eq_nil_iff]
  simp [Stock.collection]

theorem receivedBlocks_eq_zero_iff (r : CircuitRecord) :
    r.receivedBlocks = 0 ↔ r.stock.delivered = [] ∧ r.stock.assembly = none := by
  rw [receivedBlocks_eq, Nat.add_eq_zero_iff, List.length_eq_zero_iff, List.length_eq_zero_iff]
  simp [Stock.collection]

/-- The law of holdings, record by record. -/
theorem holdingsLaw_iff (s : State) :
    HoldingsLaw s ↔ (∀ c, (s.circuit c).stock.Fits) ∧
      ∀ (k : Fin 16) (e : ListenEntry), s.listen[k.val] = some e → e.window ≤ 8 := by
  constructor
  · refine fun h => ⟨fun c => ⟨?_, ?_, h.window c, fun hs => ?_⟩, h.listen⟩
    · rw [← List.length_append, ← blocks_eq]; exact h.send c
    · rw [← receivedBlocks_eq]; exact h.received c
    · obtain ⟨hr, hb⟩ := h.offered c hs
      obtain ⟨hd, ha⟩ := (receivedBlocks_eq_zero_iff _).1 hr
      obtain ⟨hc, hq⟩ := (blocks_eq_nil_iff _).1 hb
      exact (Stock.empty_iff _).2 ⟨hq, hc, ha, hd⟩
  · rintro ⟨h, hl⟩
    refine ⟨fun c => ?_, fun c => ?_, fun c => (h c).window, hl, fun c hs => ?_⟩
    · rw [blocks_eq, List.length_append]; exact (h c).send
    · rw [receivedBlocks_eq]; exact (h c).received
    · obtain ⟨hq, hc, ha, hd⟩ := (Stock.empty_iff _).1 ((h c).offered hs)
      exact ⟨(receivedBlocks_eq_zero_iff _).2 ⟨hd, ha⟩, (blocks_eq_nil_iff _).2 ⟨hc, hq⟩⟩

/-! ### The collections and the pin (R80, R88) -/

/-- A descriptor as the pin allows it (R79, R88). -/
structure Descriptor.PinOk (x : Descriptor) (underPin : Prop) : Prop where
  pinned    : underPin → x.state = .queued ∨ x.state = .active ∨ x.state = .returning
  returning : x.state = .returning → underPin
  free      : x.state = .free → x = Descriptor.free

/-- A descriptor in no collection but those of circuit c. -/
def Descriptor.OpenTo (x : Descriptor) (c : CircuitNo) : Prop := x.state.collected = true → x.circuit = some c

theorem nodup_toList {α : Type} (o : Option α) : o.toList.Nodup := by cases o <;> simp

/-- The law of collections in terms of stocks: a descriptor is in the collection its state and circuit name, and in no
other; every stock is tidy; and every descriptor is as the pin allows it. -/
structure Collected (s : State) : Prop where
  member : ∀ c k d, d ∈ (s.circuit c).stock.collection k ↔
    k.collected = true ∧ (s.descriptor d).state = k ∧ (s.descriptor d).circuit = some c
  owned  : ∀ d, (s.descriptor d).state.collected = true → (s.descriptor d).circuit ≠ none
  tidy   : ∀ c, (s.circuit c).stock.Tidy
  pin    : ∀ d, (s.descriptor d).PinOk (s.pinnedDescriptor = some d)
  pinner : ∀ x, s.tx = some x → x.pin ≠ none → ∃ c, x.owner = .circuit c

theorem Collected.collectionsLaw {s : State} (h : Collected s) : CollectionsLaw s := by
  have member {c : CircuitNo} {d : DescNo} (k : DescState) (hd : d ∈ (s.circuit c).stock.collection k) :
      (s.descriptor d).state = k ∧ (s.descriptor d).circuit = some c := ((h.member c k d).1 hd).2
  have placed {d : DescNo} {k : DescState} (hk : k.collected = true) (hd : (s.descriptor d).state = k) :
      ∃ c, (s.descriptor d).circuit = some c ∧ d ∈ (s.circuit c).stock.collection k := by
    obtain ⟨c, hc⟩ := Option.ne_none_iff_exists'.1 (h.owned d (by rw [hd]; exact hk))
    exact ⟨c, hc, (h.member c k d).2 ⟨hk, hd, hc⟩⟩
  refine
    { queued := fun c d hd => member .queued hd
      active := fun c a ha => member .active (by simp [CircuitRecord.stock, Stock.collection, ha])
      assembling := fun c d hd => member .assembling (by simp [CircuitRecord.stock, Stock.collection, hd])
      delivered := fun c d hd => member .delivered hd
      ofQueued := fun d hd => placed rfl hd
      ofActive := fun d hd => ?_
      ofAssembling := fun d hd => ?_
      ofDelivered := fun d hd => placed rfl hd
      queueOnce := fun c => (h.tidy c).once .queued
      arrivedOnce := fun c => (h.tidy c).once .delivered
      pinned := fun d => (h.pin d).pinned
      pinner := h.pinner
      returning := fun d => (h.pin d).returning
      free := fun d => (h.pin d).free
      ended := fun c hs => ?_
      unread := fun c hs => ((Stock.empty_iff _).1 ((h.tidy c).empty hs)).2.2.2 }
  · obtain ⟨c, hc, hm⟩ := placed (k := .active) rfl hd
    obtain ⟨a, ha, had⟩ := Option.map_eq_some_iff.1 (Option.mem_toList.1 hm)
    exact ⟨c, a, hc, ha, had⟩
  · obtain ⟨c, hc, hm⟩ := placed (k := .assembling) rfl hd
    exact ⟨c, hc, Option.mem_toList.1 hm⟩
  · have none_of (k : DescState) (hk : k ≠ .delivered) : (s.circuit c).stock.collection k = [] := by
      refine Classical.byContradiction fun hn => ?_
      have hm := (h.tidy c).held k hn
      rcases hs with hs | hs | hs | hs <;> simp [CircuitRecord.stock, hs, CircuitState.mayCollect, hk] at hm
    refine ⟨?_, ?_⟩
    · rw [blocks_eq, none_of _ (by simp), none_of _ (by simp)]; rfl
    · exact Option.toList_eq_nil_iff.1 (none_of .assembling (by simp))

/-- The law of collections gives the stocks of lawful records (R25). -/
theorem CollectionsLaw.collected {s : State} (h : CollectionsLaw s) (hr : RecordsLaw s) : Collected s := by
  have busy {c : CircuitNo} (ha : (s.circuit c).send.active ≠ none) :
      (s.circuit c).send.sender.busy = true ∧ (s.circuit c).state = .opened := by
    have hsender := (hr c).active.1 (Option.isSome_iff_ne_none.2 ha)
    refine ⟨by rcases hsender with hs | hs | hs <;> rw [hs] <;> rfl, Classical.byContradiction fun ho => ?_⟩
    have := (hr c).sender.2 ho
    rcases hsender with hs | hs | hs <;> rw [hs] at this <;> cases this
  refine ⟨fun c k d => ⟨fun hd => ?_, ?_⟩, fun d hd hn => ?_, fun c => ⟨fun k => ?_, fun k hk => ?_, fun ha => ?_⟩,
    fun d => ⟨h.pinned d, h.returning d, h.free d⟩, h.pinner⟩
  · cases k with
    | queued => exact ⟨rfl, h.queued c d hd⟩
    | active =>
      obtain ⟨a, ha, rfl⟩ := Option.map_eq_some_iff.1 (Option.mem_toList.1 hd)
      exact ⟨rfl, h.active c a ha⟩
    | assembling => exact ⟨rfl, h.assembling c d (Option.mem_toList.1 hd)⟩
    | delivered => exact ⟨rfl, h.delivered c d hd⟩
    | _ => cases hd
  · rintro ⟨hk, hd, hc⟩
    cases k with
    | queued =>
      obtain ⟨e, he, hm⟩ := h.ofQueued d hd
      cases hc.symm.trans he
      exact hm
    | active =>
      obtain ⟨e, a, he, ha, had⟩ := h.ofActive d hd
      cases hc.symm.trans he
      exact Option.mem_toList.2 (Option.map_eq_some_iff.2 ⟨a, ha, had⟩)
    | assembling =>
      obtain ⟨e, he, hm⟩ := h.ofAssembling d hd
      cases hc.symm.trans he
      exact Option.mem_toList.2 hm
    | delivered =>
      obtain ⟨e, he, hm⟩ := h.ofDelivered d hd
      cases hc.symm.trans he
      exact hm
    | _ => cases hk
  · cases hk : (s.descriptor d).state with
    | queued => obtain ⟨e, he, -⟩ := h.ofQueued d hk; rw [he] at hn; cases hn
    | active => obtain ⟨e, a, he, -⟩ := h.ofActive d hk; rw [he] at hn; cases hn
    | assembling => obtain ⟨e, he, -⟩ := h.ofAssembling d hk; rw [he] at hn; cases hn
    | delivered => obtain ⟨e, he, -⟩ := h.ofDelivered d hk; rw [he] at hn; cases hn
    | _ => rw [hk] at hd; cases hd
  · cases k with
    | queued => exact h.queueOnce c
    | delivered => exact h.arrivedOnce c
    | active => exact nodup_toList _
    | assembling => exact nodup_toList _
    | _ => exact List.nodup_nil
  · have opened_of_active (ha : k = .active) : (s.circuit c).state = .opened := by
      refine (busy fun hn => hk ?_).2
      simp [ha, CircuitRecord.stock, Stock.collection, hn]
    have not_ended (hd : k ≠ .delivered) : ¬ ((s.circuit c).state = .free ∨ (s.circuit c).state = .offered ∨
        (s.circuit c).state = .closing ∨ (s.circuit c).state = .closed) := by
      intro hs
      obtain ⟨hb, ha⟩ := h.ended c hs
      obtain ⟨hactive, hqueue⟩ := (blocks_eq_nil_iff _).1 hb
      cases k <;> simp_all [Stock.collection, CircuitRecord.stock]
    have not_unread (hd : k = .delivered) : ¬ ((s.circuit c).state = .free ∨ (s.circuit c).state = .offered) :=
      fun hs => hk (by rw [hd]; exact h.unread c hs)
    show (s.circuit c).state.mayCollect k = true
    cases hs : (s.circuit c).state <;> simp_all [CircuitState.mayCollect]
  · exact (busy (by simpa [CircuitRecord.stock] using ha)).1

end Sys2Proof.Machine

/-! PROOFS. Changes of the state under the laws of pages, holdings and collections (R26, R53, R77, R80): those that
change no stock and no descriptor, and those of one circuit. -/

namespace Sys2Proof.Machine

/-! ### The pages of each descriptor (R77) -/

theorem descriptors_toList (s : State) : s.descriptors.toList = (List.finRange 256).map s.descriptor := by
  refine List.ext_getElem (by simp) fun i h _ => ?_
  simp [State.descriptor]

theorem heldPages_eq (s : State) : s.heldPages = (List.finRange 256).flatMap fun d => (s.descriptor d).held := by
  rw [State.heldPages, descriptors_toList, List.flatMap_map]

/-- The law of pages, descriptor by descriptor. -/
theorem pagesLaw_iff (s : State) :
    PagesLaw s ↔ (∀ d, (s.descriptor d).held.Nodup ∧ ∀ p ∈ (s.descriptor d).held, p < Config.pageCount) ∧
      ∀ d e, d ≠ e → List.Disjoint (s.descriptor d).held (s.descriptor e).held := by
  have disjoint_iff : (List.finRange 256).Pairwise (Function.onFun List.Disjoint fun d => (s.descriptor d).held) ↔
      ∀ d e, d ≠ e → List.Disjoint (s.descriptor d).held (s.descriptor e).held := by
    constructor
    · intro h d e hde
      have : Std.Symm (Function.onFun List.Disjoint fun d => (s.descriptor d).held) := ⟨fun _ _ k => k.symm⟩
      exact h.forall (List.mem_finRange d) (List.mem_finRange e) hde
    · exact fun h => (List.nodup_finRange 256).pairwise_of_forall_ne fun d _ e _ hde => h d e hde
  unfold PagesLaw
  rw [heldPages_eq, List.nodup_flatMap, disjoint_iff]
  simp only [List.mem_flatMap, List.mem_finRange, true_and, forall_const]
  constructor
  · rintro ⟨⟨hn, hd⟩, hp⟩
    exact ⟨fun d => ⟨hn d, fun p h => hp p ⟨d, h⟩⟩, hd⟩
  · rintro ⟨h, hd⟩
    exact ⟨⟨fun d => (h d).1, hd⟩, fun p ⟨d, hp⟩ => (h d).2 p hp⟩

/-- Descriptors that hold no new page keep the law of pages. -/
theorem pagesLaw_of_sublist {s t : State} (h : ∀ d, (t.descriptor d).held.Sublist (s.descriptor d).held)
    (hs : PagesLaw s) : PagesLaw t := by
  obtain ⟨hd, hdis⟩ := (pagesLaw_iff s).1 hs
  refine (pagesLaw_iff t).2 ⟨fun d => ⟨(hd d).1.sublist (h d), fun p hp => (hd d).2 p ((h d).subset hp)⟩,
    fun d e hde p hpd hpe => hdis d e hde ((h d).subset hpd) ((h e).subset hpe)⟩

/-- One descriptor holding pages of its own or of the free pool keeps the law of pages (R77). -/
theorem pagesLaw_of_free {s t : State} {d : DescNo} (ho : ∀ e, e ≠ d → t.descriptor e = s.descriptor e)
    (hn : (s.descriptor d).held.Nodup → (t.descriptor d).held.Nodup)
    (hp : ∀ p ∈ (t.descriptor d).held, p ∈ (s.descriptor d).held ∨ s.pageFree p = true) (hs : PagesLaw s) :
    PagesLaw t := by
  obtain ⟨hd, hdis⟩ := (pagesLaw_iff s).1 hs
  have apart {e : DescNo} (he : e ≠ d) {p : Nat} (hpd : p ∈ (t.descriptor d).held) :
      p ∉ (s.descriptor e).held := by
    intro hpe
    rcases hp p hpd with h | h
    · exact hdis d e he.symm h hpe
    · refine ((pageFree_iff s p).1 h).2 ?_
      rw [heldPages_eq]
      exact List.mem_flatMap.2 ⟨e, List.mem_finRange e, hpe⟩
  refine (pagesLaw_iff t).2 ⟨fun e => ?_, fun e f hef p hpe hpf => ?_⟩
  · by_cases he : e = d
    · subst he
      refine ⟨hn (hd e).1, fun p hpt => (hp p hpt).elim ((hd e).2 p) fun h => ((pageFree_iff s p).1 h).1⟩
    · rw [ho e he]; exact hd e
  · by_cases he : e = d
    · subst he
      rw [ho f hef.symm] at hpf
      exact apart hef.symm hpe hpf
    · rw [ho e he] at hpe
      by_cases hf : f = d
      · subst hf; exact apart he hpf hpe
      · rw [ho f hf] at hpf
        exact hdis e f hef hpe hpf

/-! ### Changes that keep the three laws -/

/-- A change that keeps the laws of pages, holdings and collections. -/
structure Upholds (s t : State) : Prop where
  pages     : PagesLaw s → PagesLaw t
  holdings  : HoldingsLaw s → HoldingsLaw t
  collected : Collected s → Collected t

theorem Upholds.refl (s : State) : Upholds s s := ⟨id, id, id⟩

theorem Upholds.trans {s t u : State} (h : Upholds s t) (k : Upholds t u) : Upholds s u :=
  ⟨k.pages ∘ h.pages, k.holdings ∘ h.holdings, k.collected ∘ h.collected⟩

/-- What the laws read of the frame in transmission: its owner and its pin (R88). -/
def State.txPin (s : State) : Option (TxOwner × Option (Nat × DescNo)) := s.tx.map fun x => (x.owner, x.pin)

theorem pinnedDescriptor_of_txPin {s t : State} (h : t.txPin = s.txPin) :
    t.pinnedDescriptor = s.pinnedDescriptor := by
  have of_txPin (u : State) : u.pinnedDescriptor = u.txPin.bind fun x => x.2.map Prod.snd := by
    unfold State.pinnedDescriptor State.txPin
    cases u.tx <;> rfl
  rw [of_txPin, of_txPin, h]

theorem pinner_of_txPin {s t : State} (h : t.txPin = s.txPin)
    (hs : ∀ x, s.tx = some x → x.pin ≠ none → ∃ c, x.owner = .circuit c) :
    ∀ x, t.tx = some x → x.pin ≠ none → ∃ c, x.owner = .circuit c := by
  intro x hx hp
  have hm : s.txPin = some (x.owner, x.pin) := by rw [← h, State.txPin, hx]; rfl
  obtain ⟨y, hy, he⟩ := Option.map_eq_some_iff.1 hm
  obtain ⟨ho, hpin⟩ := Prod.mk.injEq .. ▸ he
  rw [← ho]
  exact hs y hy (by rw [hpin]; exact hp)

/-- A change behind the stock of every record, the descriptors, the listen table and the pin. -/
structure Quiet (s t : State) : Prop where
  stock       : ∀ c, (t.circuit c).stock = (s.circuit c).stock
  descriptors : t.descriptors = s.descriptors
  listen      : t.listen = s.listen
  txPin       : t.txPin = s.txPin

theorem Quiet.refl (s : State) : Quiet s s := ⟨fun _ => rfl, rfl, rfl, rfl⟩

theorem Quiet.trans {s t u : State} (h : Quiet s t) (k : Quiet t u) : Quiet s u :=
  ⟨fun c => (k.stock c).trans (h.stock c), k.descriptors.trans h.descriptors, k.listen.trans h.listen,
    k.txPin.trans h.txPin⟩

/-- The circuits but c, the listen table and the pin stay as the three laws see them. -/
structure Around (c : CircuitNo) (s t : State) : Prop where
  others : ∀ d, d ≠ c → (t.circuit d).stock = (s.circuit d).stock
  listen : t.listen = s.listen
  txPin  : t.txPin = s.txPin

section
variable {s t u : State} {c : CircuitNo}

theorem Quiet.upholds (h : Quiet s t) : Upholds s t where
  pages := pagesLaw_of_sublist fun d => by rw [descriptor_of_descriptors h.descriptors]
  holdings hs := by
    rw [holdingsLaw_iff] at hs ⊢
    exact ⟨fun c => by rw [h.stock c]; exact hs.1 c, by rw [h.listen]; exact hs.2⟩
  collected hs := by
    have hd := fun d => descriptor_of_descriptors h.descriptors d
    exact ⟨fun c k d => by rw [h.stock c, hd]; exact hs.member c k d, fun d => by rw [hd]; exact hs.owned d,
      fun c => by rw [h.stock c]; exact hs.tidy c,
      fun d => by rw [hd, pinnedDescriptor_of_txPin h.txPin]; exact hs.pin d, pinner_of_txPin h.txPin hs.pinner⟩

theorem quiet_of_eq (hc : t.circuits = s.circuits) (hd : t.descriptors = s.descriptors) (hl : t.listen = s.listen)
    (hx : t.tx = s.tx) : Quiet s t :=
  ⟨fun c => by rw [circuit_of_circuits hc], hd, hl, by rw [State.txPin, hx]; rfl⟩

theorem upholds_of_eq (hc : t.circuits = s.circuits) (hd : t.descriptors = s.descriptors) (hl : t.listen = s.listen)
    (hx : t.tx = s.tx) : Upholds s t := (quiet_of_eq hc hd hl hx).upholds

theorem CircuitFrame.around (h : CircuitFrame c s t) : Around c s t :=
  ⟨fun d hd => by rw [h.others d hd], h.listen, by rw [State.txPin, h.tx]; rfl⟩

theorem EngineFrame.around (h : EngineFrame c s t) : Around c s t := h.toCircuitFrame.around

/-- A change of one circuit behind the stock of its record. -/
theorem Around.quiet (h : Around c s t) (hc : (t.circuit c).stock = (s.circuit c).stock)
    (hd : t.descriptors = s.descriptors) : Quiet s t := by
  refine ⟨fun d => ?_, hd, h.listen, h.txPin⟩
  by_cases hdc : d = c
  · rw [hdc]; exact hc
  · exact h.others d hdc

theorem quiet_onCircuit {f : CircuitRecord → CircuitRecord} (h : (f (s.circuit c)).stock = (s.circuit c).stock) :
    Quiet s (s.onCircuit c f) :=
  (frame_onCircuit s c f).around.quiet (by rw [circuit_onCircuit_self]; exact h) rfl

/-! ### Changes of one circuit -/

/-- A descriptor that a change of circuit c leaves, with its place in c's collections; or one that was in no other
circuit's collection, and is now in c's as its state says, and as the pin allows it. -/
def Shifts (c : CircuitNo) (s t : State) (d : DescNo) : Prop :=
  (t.descriptor d = s.descriptor d ∧
      ∀ k, d ∈ (t.circuit c).stock.collection k ↔ d ∈ (s.circuit c).stock.collection k) ∨
  ((s.descriptor d).OpenTo c ∧ (t.descriptor d).OpenTo c ∧
      (t.descriptor d).PinOk (s.pinnedDescriptor = some d) ∧
      ∀ k, d ∈ (t.circuit c).stock.collection k ↔ k.collected = true ∧ (t.descriptor d).state = k)

/-- A change of one circuit keeps the law of collections where its record stays tidy and every descriptor shifts. -/
theorem Around.collected (h : Around c s t) (hs : Collected s) (ht : (t.circuit c).stock.Tidy)
    (hd : ∀ d, Shifts c s t d) : Collected t := by
  refine ⟨fun e k d => ?_, fun d => ?_, fun e => ?_, fun d => ?_, pinner_of_txPin h.txPin hs.pinner⟩
  · by_cases he : e = c
    · subst he
      rcases hd d with ⟨hk, hm⟩ | ⟨-, ho, -, hm⟩
      · rw [hm, hk]; exact hs.member e k d
      · rw [hm]
        exact and_congr_right fun hk => ⟨fun hst => ⟨hst, ho (by rw [hst]; exact hk)⟩, And.left⟩
    · rw [h.others e he, hs.member]
      rcases hd d with ⟨hk, -⟩ | ⟨hso, hto, -⟩
      · rw [hk]
      · have absent {x : Descriptor} (hx : x.OpenTo c) : ¬ (k.collected = true ∧ x.state = k ∧ x.circuit = some e) := by
          rintro ⟨hk, hst, hce⟩
          rw [hx (by rw [hst]; exact hk)] at hce
          exact he (Option.some.inj hce).symm
        exact iff_of_false (absent hso) (absent hto)
  · rcases hd d with ⟨hk, -⟩ | ⟨-, ho, -⟩
    · rw [hk]; exact hs.owned d
    · intro hc; rw [ho hc]; simp
  · by_cases he : e = c
    · rw [he]; exact ht
    · rw [h.others e he]; exact hs.tidy e
  · rw [pinnedDescriptor_of_txPin h.txPin]
    rcases hd d with ⟨hk, -⟩ | ⟨-, -, hp, -⟩
    · rw [hk]; exact hs.pin d
    · exact hp

/-- A change of one circuit keeps the law of holdings where its record stays inside its bounds. -/
theorem Around.holdings (h : Around c s t) (hc : (s.circuit c).stock.Fits → (t.circuit c).stock.Fits)
    (hs : HoldingsLaw s) : HoldingsLaw t := by
  rw [holdingsLaw_iff] at hs ⊢
  refine ⟨fun d => ?_, by rw [h.listen]; exact hs.2⟩
  by_cases hd : d = c
  · rw [hd]; exact hc (hs.1 c)
  · rw [h.others d hd]; exact hs.1 d

/-- A stock with no more blocks in any collection stays inside its bounds. -/
theorem Stock.Fits.of_le {x y : Stock} (h : x.Fits) (hw : y.window = x.window)
    (hl : ∀ k, (y.collection k).length ≤ (x.collection k).length) (ho : y.state = .offered → x.state = .offered) :
    y.Fits where
  send      := Nat.le_trans (Nat.add_le_add (hl _) (hl _)) h.send
  received  := by rw [hw]; exact Nat.le_trans (Nat.add_le_add (hl _) (hl _)) h.received
  window    := by rw [hw]; exact h.window
  offered k j := by
    have := hl j
    rw [h.offered (ho k) j] at this
    exact List.length_eq_zero_iff.1 (Nat.le_zero.1 this)

/-- A stock with the same collections is tidy where its state allows them and its sender is as busy. -/
theorem Stock.Tidy.of_eq {x y : Stock} (h : x.Tidy) (hk : ∀ k, y.collection k = x.collection k)
    (hs : ∀ k, x.collection k ≠ [] → y.state.mayCollect k = true) (hb : x.active ≠ none → y.busy = true) : y.Tidy where
  once k    := by rw [hk]; exact h.once k
  held k hn := hs k (by rw [← hk]; exact hn)
  busy ha   := hb fun hn => ha (Option.toList_eq_nil_iff.1 ((hk .active).trans (Option.toList_eq_nil_iff.2 hn)))

/-- A change of one circuit after a change that keeps the laws. -/
theorem Upholds.around (h : Upholds s u) (hf : Around c u t)
    (hp : ∀ d, (t.descriptor d).held.Sublist (u.descriptor d).held)
    (hfit : (u.circuit c).stock.Fits → (t.circuit c).stock.Fits)
    (hc : Collected s → Collected u → (t.circuit c).stock.Tidy ∧ ∀ d, Shifts c u t d) : Upholds s t where
  pages := pagesLaw_of_sublist hp ∘ h.pages
  holdings := hf.holdings hfit ∘ h.holdings
  collected hs :=
    have hu := h.collected hs
    hf.collected hu (hc hs hu).1 (hc hs hu).2

theorem Upholds.quiet (h : Upholds s u) (k : Quiet u t) : Upholds s t := h.trans k.upholds

/-- A record that keeps its blocks and moves to another circuit state. -/
theorem Upholds.relisted (h : Upholds s u) (hf : Around c u t) (hd : t.descriptors = u.descriptors)
    (hk : ∀ k, (t.circuit c).stock.collection k = (u.circuit c).stock.collection k)
    (hw : (t.circuit c).window = (u.circuit c).window)
    (ho : (t.circuit c).state = .offered → (u.circuit c).state = .offered)
    (ht : Collected s → Collected u → (t.circuit c).stock.Tidy) : Upholds s t :=
  h.around hf (fun d => by rw [descriptor_of_descriptors hd]) (fun k => k.of_le hw (fun j => by rw [hk]) ho)
    fun hs hu => ⟨ht hs hu, fun d => .inl ⟨descriptor_of_descriptors hd d, fun k => by rw [hk]⟩⟩

/-! ### Descriptors under the pin (R79, R81, R88) -/

theorem freed_state (s : State) (d : DescNo) : (freed s d).state.collected = false := by
  unfold freed
  split <;> rfl

theorem freed_held (s : State) (d : DescNo) : (freed s d).held.Sublist (s.descriptor d).held := by
  unfold freed
  split
  · exact .refl _
  · exact List.nil_sublist _

theorem pinOk_freed (s : State) (d : DescNo) : (freed s d).PinOk (s.pinnedDescriptor = some d) := by
  unfold freed
  split
  · next hp => exact ⟨fun _ => .inr (.inr rfl), fun _ => hp, fun h => by cases h⟩
  · next hp => exact ⟨fun h => absurd h hp, fun h => (by cases h), fun _ => rfl⟩

/-- A QUEUED or ACTIVE descriptor may be pinned or not (R88). -/
theorem pinOk_of_sending {x : Descriptor} {p : Prop} (h : x.state = .queued ∨ x.state = .active) : x.PinOk p := by
  refine ⟨fun _ => h.imp_right .inl, ?_, ?_⟩ <;> rcases h with h | h <;> rw [h] <;> intro k <;> cases k

/-- A descriptor that is not pinned is as it may be in every state but FREE and RETURNING (R88). -/
theorem pinOk_of_unpinned {x : Descriptor} {p : Prop} (hp : ¬ p) (hr : x.state ≠ .returning) (hf : x.state ≠ .free) :
    x.PinOk p := ⟨fun h => absurd h hp, fun h => absurd h hr, fun h => absurd h hf⟩

/-- A descriptor that is neither QUEUED, ACTIVE nor RETURNING is not pinned (R88). -/
theorem Collected.unpinned (h : Collected s) {d : DescNo} (hq : (s.descriptor d).state ≠ .queued)
    (ha : (s.descriptor d).state ≠ .active) (hr : (s.descriptor d).state ≠ .returning) :
    s.pinnedDescriptor ≠ some d := by
  intro hp
  rcases (h.pin d).pinned hp with k | k | k
  · exact hq k
  · exact ha k
  · exact hr k

theorem openTo_of_uncollected {x : Descriptor} (h : x.state.collected = false) (c : CircuitNo) : x.OpenTo c :=
  fun k => by rw [h] at k; cases k

/-- A descriptor in one of c's collections is in no other circuit's. -/
theorem Collected.openTo (h : Collected s) {d : DescNo} {k : DescState} (hd : d ∈ (s.circuit c).stock.collection k) :
    (s.descriptor d).OpenTo c := fun _ => ((h.member c k d).1 hd).2.2

/-- Blocks that a circuit gives up are freed (R50, R74, R81). -/
theorem Upholds.released (h : Upholds s u) (hf : Around c u t) (L : List DescNo)
    (hd : ∀ d, t.descriptor d = if d ∈ L then freed u d else u.descriptor d)
    (hw : (t.circuit c).window = (u.circuit c).window) (hst : (t.circuit c).state = (u.circuit c).state)
    (hsub : ∀ k, ((t.circuit c).stock.collection k).Sublist ((u.circuit c).stock.collection k))
    (hbusy : Collected u → (t.circuit c).stock.active ≠ none → (t.circuit c).stock.busy = true)
    (hin : ∀ d ∈ L, ∃ k, d ∈ (u.circuit c).stock.collection k)
    (hout : Collected u → ∀ k, ∀ d ∈ (u.circuit c).stock.collection k,
      d ∈ (t.circuit c).stock.collection k ↔ d ∉ L) : Upholds s t := by
  refine h.around hf (fun d => ?_) (fun k => k.of_le hw (fun j => (hsub j).length_le) fun ho => hst.symm.trans ho)
    fun _ hu => ⟨⟨fun k => ((hu.tidy c).once k).sublist (hsub k), fun k hn => ?_, hbusy hu⟩, fun d => ?_⟩
  · rw [hd]
    split
    · exact freed_held u d
    · exact .refl _
  · show (t.circuit c).state.mayCollect k = true
    rw [hst]
    exact (hu.tidy c).held k fun hn' => hn (List.sublist_nil.1 (hn' ▸ hsub k))
  · by_cases hL : d ∈ L
    · refine .inr ⟨?_, openTo_of_uncollected ?_ c, ?_, fun k => iff_of_false (fun hm => ?_) fun hk => ?_⟩
      · obtain ⟨k, hk⟩ := hin d hL
        exact hu.openTo hk
      · rw [hd, if_pos hL]; exact freed_state u d
      · rw [hd, if_pos hL]; exact pinOk_freed u d
      · exact (hout hu k d ((hsub k).subset hm)).1 hm hL
      · have := freed_state u d
        rw [hd, if_pos hL] at hk
        rw [hk.2, hk.1] at this
        cases this
    · refine .inl ⟨by rw [hd, if_neg hL], fun k => ⟨fun hm => (hsub k).subset hm, fun hm => (hout hu k d hm).2 hL⟩⟩

/-- One descriptor moves into, out of or between collections of a circuit (R80). -/
theorem Upholds.moved (h : Upholds s u) (hf : Around c u t) (d : DescNo)
    (hd : ∀ e, e ≠ d → t.descriptor e = u.descriptor e) (hp : (t.descriptor d).held.Sublist (u.descriptor d).held)
    (hfit : (u.circuit c).stock.Fits → (t.circuit c).stock.Fits)
    (ht : Collected s → Collected u → (t.circuit c).stock.Tidy)
    (ho : Collected u → (u.descriptor d).OpenTo c ∧ (t.descriptor d).OpenTo c ∧
      (t.descriptor d).PinOk (u.pinnedDescriptor = some d))
    (hself : Collected s → Collected u → ∀ k, d ∈ (t.circuit c).stock.collection k ↔
      k.collected = true ∧ (t.descriptor d).state = k)
    (hother : Collected s → Collected u → ∀ e, e ≠ d → ∀ k,
      e ∈ (t.circuit c).stock.collection k ↔ e ∈ (u.circuit c).stock.collection k) : Upholds s t := by
  refine h.around hf (fun e => ?_) hfit fun hs hu => ⟨ht hs hu, fun e => ?_⟩
  · by_cases he : e = d
    · rw [he]; exact hp
    · rw [hd e he]
  · by_cases he : e = d
    · subst he
      obtain ⟨h1, h2, h3⟩ := ho hu
      exact .inr ⟨h1, h2, h3, hself hs hu⟩
    · exact .inl ⟨hd e he, hother hs hu e he⟩

end

end Sys2Proof.Machine

/-! PROOFS. The part's shared operations uphold the laws of pages, holdings and collections: events, freeing, the close
and rewind of both sides, and the start decision. -/

namespace Sys2Proof.Machine

section
variable {s t u : State} {c : CircuitNo}

/-! ### Operations that no stock notices -/

theorem quiet_raise (s : State) (e : Event) : Quiet s (s.raise e) := by
  refine ⟨fun d => ?_, raise_descriptors s e, raise_listen s e, by rw [State.txPin, raise_tx]; rfl⟩
  obtain ⟨b, hb⟩ := raise_circuit s e d
  rw [hb]
  rfl

theorem quiet_requestLoose (s : State) (x : LooseReply) : Quiet s (s.requestLoose x) :=
  quiet_of_eq (by simp) (by simp) (by simp) (by simp)

theorem quiet_onLink (s : State) (f : Link → Link) : Quiet s (s.onLink f) := quiet_of_eq rfl rfl rfl rfl

theorem quiet_finish (s : State) (code : ResultCode) (values : List Nat) : Quiet s (s.finish code values) :=
  quiet_of_eq rfl rfl rfl rfl

theorem quiet_countFree (s : State) (b : Bool) : Quiet s (s.countFree b) :=
  quiet_of_eq (by simp) (by simp) (by simp) (by simp)

theorem quiet_stopTimer (s : State) (c : CircuitNo) : Quiet s (s.stopTimer c) := quiet_onCircuit rfl

theorem quiet_startTimer (s : State) (c : CircuitNo) (purpose : TimerPurpose) (ms : Nat) :
    Quiet s (s.startTimer c purpose ms) := quiet_onCircuit rfl

theorem quiet_setTransfer (s : State) (c : CircuitNo) (k : Option TransferKind) : Quiet s (s.setTransfer c k) :=
  quiet_onCircuit rfl

theorem quiet_setAnswer (s : State) (c : CircuitNo) (k : Option AnswerKind) : Quiet s (s.setAnswer c k) :=
  quiet_onCircuit rfl

theorem quiet_setProtocol (s : State) (c : CircuitNo) (k : Option ProtocolKind) : Quiet s (s.setProtocol c k) :=
  quiet_onCircuit rfl

theorem offerReady_stock (r : CircuitRecord) : r.offerReady.stock = r.stock := by
  unfold CircuitRecord.offerReady
  split <;> rfl

theorem stopSendTimer_stock (r : CircuitRecord) : r.stopSendTimer.stock = r.stock := by
  unfold CircuitRecord.stopSendTimer
  split <;> rfl

/-! ### Collections given up (R50, R74, R81) -/

/-- A descriptor is in one collection at most (R80). -/
theorem Collected.unique (h : Collected u) {d : DescNo} {j k : DescState} (hj : d ∈ (u.circuit c).stock.collection j)
    (hk : d ∈ (u.circuit c).stock.collection k) : j = k :=
  ((h.member c j d).1 hj).2.1.symm.trans ((h.member c k d).1 hk).2.1

/-- A descriptor is in no collection but the one its state names (R80). -/
theorem Collected.not_mem (h : Collected u) {d : DescNo} {x k : DescState} (hx : (u.descriptor d).state = x)
    (hk : x ≠ k) : d ∉ (u.circuit c).stock.collection k := fun hm => hk (hx.symm.trans ((h.member c k d).1 hm).2.1)

/-- Whole collections of a circuit are given up, and their descriptors freed. -/
theorem Upholds.emptied (h : Upholds s u) (hf : Around c u t) (given : DescState → Bool) (L : List DescNo)
    (hL : ∀ d, d ∈ L ↔ ∃ k, given k = true ∧ d ∈ (u.circuit c).stock.collection k)
    (hd : ∀ d, t.descriptor d = if d ∈ L then freed u d else u.descriptor d)
    (hw : (t.circuit c).window = (u.circuit c).window) (hst : (t.circuit c).state = (u.circuit c).state)
    (hk : ∀ k, (t.circuit c).stock.collection k = if given k = true then [] else (u.circuit c).stock.collection k)
    (hbusy : given .active = true ∨ (t.circuit c).stock.busy = (u.circuit c).stock.busy) : Upholds s t := by
  refine h.released hf L hd hw hst (fun k => ?_) (fun hu ha => ?_) (fun d hdL => ?_) fun hu k d hdk => ?_
  · rw [hk]
    split
    · exact List.nil_sublist _
    · exact .refl _
  · have hactive := hk .active
    rcases hbusy with hg | hb
    · rw [if_pos hg] at hactive
      exact absurd (Option.toList_eq_nil_iff.1 hactive) ha
    · rw [hb]
      refine (hu.tidy c).busy fun hn => ha (Option.toList_eq_nil_iff.1 ?_)
      refine hactive.trans ?_
      rw [show (u.circuit c).stock.collection .active = [] from Option.toList_eq_nil_iff.2 hn, ite_self]
  · obtain ⟨k, -, hm⟩ := (hL d).1 hdL
    exact ⟨k, hm⟩
  · rw [hk, hL]
    by_cases hg : given k = true
    · rw [if_pos hg]
      exact iff_of_false (by simp) fun hn => hn ⟨k, hg, hdk⟩
    · rw [if_neg hg]
      refine iff_of_true hdk ?_
      rintro ⟨j, hj, hm⟩
      rw [hu.unique hm hdk] at hj
      exact hg hj

/-! ### The close of both sides (R50, R74) -/

theorem closeSend_stock (s : State) (c : CircuitNo) : ((s.closeSend c).circuit c).stock =
    { (s.circuit c).stock with busy := false, queue := [], active := none } := by rw [closeSend_circuit]; rfl

theorem Upholds.closeSend (h : Upholds s u) : Upholds s (u.closeSend c) := by
  refine h.emptied (frame_closeSend u c).around (fun k => decide (k = .queued ∨ k = .active))
    (u.circuit c).send.blocks (fun d => ?_) (closeSend_descriptor u c) (by rw [closeSend_circuit])
    (by rw [closeSend_circuit]) (fun k => ?_) (.inl rfl)
  · rw [blocks_eq, List.mem_append]
    simp [or_comm]
  · rw [closeSend_stock]
    cases k <;> simp [Stock.collection]

theorem dropAssembly_stock (s : State) (c : CircuitNo) : ((s.dropAssembly c).circuit c).stock =
    { (s.circuit c).stock with assembly := none } := by rw [dropAssembly_circuit]; rfl

theorem Upholds.dropAssembly (h : Upholds s u) : Upholds s (u.dropAssembly c) := by
  refine h.emptied (frame_dropAssembly u c).around (fun k => decide (k = .assembling))
    (u.circuit c).recv.assembly.toList (fun d => ?_) (fun d => ?_) (by rw [dropAssembly_circuit])
    (by rw [dropAssembly_circuit]) (fun k => ?_) (.inr (by rw [dropAssembly_stock]))
  · simp [Stock.collection, CircuitRecord.stock]
  · simp only [Option.mem_toList, dropAssembly_descriptor]
  · rw [dropAssembly_stock]
    cases k <;> simp [Stock.collection]

theorem closeRecv_stock (s : State) (c : CircuitNo) : ((s.closeRecv c).circuit c).stock =
    { (s.circuit c).stock with assembly := none } := by rw [closeRecv_circuit]; rfl

theorem Upholds.closeRecv (h : Upholds s u) : Upholds s (u.closeRecv c) := by
  unfold State.closeRecv State.onRecv
  exact h.dropAssembly.quiet (quiet_onCircuit rfl)

/-- A record that holds no block but delivered ones may enter CLOSING and CLOSED (R50, R74). -/
theorem Stock.Tidy.ended {x y : Stock} (h : x.Tidy) (hk : ∀ k, y.collection k = x.collection k)
    (hx : x.queue = [] ∧ x.active = none ∧ x.assembly = none) (hs : y.state = .closing ∨ y.state = .closed) :
    y.Tidy := by
  obtain ⟨hq, ha, hm⟩ := hx
  refine h.of_eq hk (fun k hn => ?_) fun hb => absurd ha hb
  cases k <;> rcases hs with hs | hs <;> simp_all [Stock.collection, CircuitState.mayCollect]

/-- A record with both sides closed enters CLOSED or CLOSING (R9, R135). -/
theorem Upholds.closeBoth (h : Upholds s u) {f : CircuitRecord → CircuitRecord} {x : CircuitState}
    (hx : x = .closing ∨ x = .closed)
    (hf : ∀ r, (f r).stock = { r.stock with state := x }) :
    Upholds s (((u.closeSend c).closeRecv c).onCircuit c f) := by
  have hempty : (((u.closeSend c).closeRecv c).circuit c).stock.queue = [] ∧
      (((u.closeSend c).closeRecv c).circuit c).stock.active = none ∧
      (((u.closeSend c).closeRecv c).circuit c).stock.assembly = none := by
    rw [closeRecv_stock, closeSend_stock]
    exact ⟨rfl, rfl, rfl⟩
  have hclosed := (h.closeSend (c := c)).closeRecv (c := c)
  generalize (u.closeSend c).closeRecv c = v at hempty hclosed
  have hstock : ((v.onCircuit c f).circuit c).stock = { (v.circuit c).stock with state := x } := by
    rw [circuit_onCircuit_self]; exact hf _
  have hstate : ((v.onCircuit c f).circuit c).state = x := congrArg Stock.state hstock
  refine hclosed.relisted (frame_onCircuit v c f).around rfl (fun k => ?_) (congrArg Stock.window hstock)
    (fun ho => ?_) fun _ hv => (hv.tidy c).ended (fun k => ?_) hempty ?_
  · rw [hstock]; cases k <;> rfl
  · rw [hstate] at ho; rcases hx with rfl | rfl <;> cases ho
  · rw [hstock]; cases k <;> rfl
  · rw [hstock]; exact hx

theorem Upholds.toClosed (h : Upholds s u) (cause diagnostic : Octet) (originator : Originator) (confirmed : Bool)
    (owed : Option ProtocolKind) : Upholds s (u.toClosed c cause diagnostic originator confirmed owed) :=
  h.closeBoth (x := .closed) (.inr rfl) fun _ => rfl

theorem Upholds.enterClosed (h : Upholds s u) (cause diagnostic : Octet) (originator : Originator) (confirmed : Bool)
    (owed : Option ProtocolKind) : Upholds s (u.enterClosed c cause diagnostic originator confirmed owed) :=
  (h.toClosed cause diagnostic originator confirmed owed).quiet (quiet_raise ..)

theorem Upholds.enterClosing (h : Upholds s u) (cause diagnostic : Octet) (originator : Originator) :
    Upholds s (u.enterClosing c cause diagnostic originator) :=
  (h.closeBoth (x := .closing) (.inl rfl) fun _ => rfl).quiet (quiet_startTimer ..)

/-- A CLOSING record holds nothing but delivered blocks, and so may enter CLOSED (R10). -/
theorem Upholds.finishClosing (h : Upholds s u) (hs : (u.circuit c).state = .closing) (confirmed : Bool)
    (owed : Option ProtocolKind) : Upholds s (u.finishClosing c confirmed owed) := by
  refine Upholds.quiet (h.relisted (c := c) (frame_onCircuit ..).around rfl (fun k => ?_) ?_ (fun ho => ?_)
    fun _ hu => (hu.tidy c).of_eq (fun k => ?_) (fun k hn => ?_) fun ha => ?_) (quiet_raise ..)
  · rw [circuit_onCircuit_self]; cases k <;> rfl
  · rw [circuit_onCircuit_self]; rfl
  · rw [circuit_onCircuit_self] at ho; cases ho
  · rw [circuit_onCircuit_self]; cases k <;> rfl
  · rw [circuit_onCircuit_self]
    have := (hu.tidy c).held k hn
    rw [show (u.circuit c).stock.state = .closing from hs] at this
    exact this
  · rw [(hu.tidy c).no_active (.inl (by simp [CircuitRecord.stock, hs]))] at ha
    exact absurd rfl ha

theorem Upholds.endCircuit (h : Upholds s u) (cause : Octet) : Upholds s (u.endCircuit c cause) := by
  unfold State.endCircuit
  split
  · next hs => exact h.finishClosing hs ..
  · exact h.enterClosed ..

/-! ### The rewind of both sides (R48, R73) -/

theorem returnActive_of_none (h : (s.circuit c).send.active = none) : s.returnActive c = s := by
  unfold State.returnActive
  rw [h]

theorem returnActive_of_some {a : ActiveBlock} (h : (s.circuit c).send.active = some a) : s.returnActive c =
    (s.onDescriptor a.desc (fun x => { x with state := .queued, blockNumber := none })).onSend c (fun x =>
      { x with active := none, queue := a.desc :: x.queue }) := by
  unfold State.returnActive
  rw [h]

/-- The active block goes back to the head of the queue (R48). -/
theorem Upholds.returnActive (h : Upholds s u) : Upholds s (u.returnActive c) := by
  cases ha : (u.circuit c).send.active with
  | none => rw [returnActive_of_none ha]; exact h
  | some a =>
    have hmem : a.desc ∈ (u.circuit c).stock.collection .active := by
      simp [CircuitRecord.stock, Stock.collection, ha]
    have hactive : (u.circuit c).stock.active = some a.desc := by simp [CircuitRecord.stock, ha]
    have hstock : ((u.returnActive c).circuit c).stock =
        { (u.circuit c).stock with active := none, queue := a.desc :: (u.circuit c).stock.queue } := by
      rw [returnActive_of_some ha, State.onSend, circuit_onCircuit_self]; rfl
    have hself : (u.returnActive c).descriptor a.desc =
        { u.descriptor a.desc with state := .queued, blockNumber := none } := by
      rw [returnActive_of_some ha]; exact descriptor_setDescriptor_self ..
    have alone (hu : Collected u) {k : DescState} (hk : .active ≠ k) : a.desc ∉ (u.circuit c).stock.collection k :=
      hu.not_mem ((hu.member c .active a.desc).1 hmem).2.1 hk
    refine h.moved (frame_returnActive u c).around a.desc (fun e he => ?_) ?_ (fun hfit => ?_) (fun _ hu => ?_)
      (fun hu => ⟨hu.openTo hmem, ?_, ?_⟩) (fun _ hu k => ?_) fun _ _ e he k => ?_
    · rw [returnActive_of_some ha]; exact descriptor_setDescriptor_ne _ _ he
    · rw [hself]; exact .refl _
    · refine ⟨?_, ?_, ?_, fun ho => absurd ((Stock.empty_iff _).1 (hfit.offered ?_)).2.1 (by rw [hactive]; simp)⟩
      · rw [hstock]
        have := hfit.send
        simp only [Stock.collection, hactive, Option.toList_some, Option.toList_none, List.length_nil,
          List.length_cons] at this ⊢
        omega
      · rw [hstock]; exact hfit.received
      · rw [hstock]; exact hfit.window
      · rw [hstock] at ho; exact ho
    · have hs := (hu.tidy c).held .active (List.ne_nil_of_mem hmem)
      rw [hstock]
      refine ⟨fun k => ?_, fun k hn => ?_, fun hb => absurd rfl hb⟩
      · cases k with
        | queued => exact List.nodup_cons.2 ⟨alone hu (k := .queued) (by simp), (hu.tidy c).once .queued⟩
        | active => exact List.nodup_nil
        | assembling => exact (hu.tidy c).once .assembling
        | delivered => exact (hu.tidy c).once .delivered
        | _ => exact List.nodup_nil
      · revert hs
        show (u.circuit c).state.mayCollect .active = true → (u.circuit c).state.mayCollect k = true
        cases (u.circuit c).state <;> simp [CircuitState.mayCollect]
    · rw [hself]; exact fun _ => ((hu.member c .active a.desc).1 hmem).2.2
    · rw [hself]; exact pinOk_of_sending (.inl rfl)
    · rw [hself, hstock]
      cases k with
      | queued => simp [Stock.collection, DescState.collected]
      | active => simp [Stock.collection]
      | assembling => exact iff_of_false (alone hu (k := .assembling) (by simp)) (by simp)
      | delivered => exact iff_of_false (alone hu (k := .delivered) (by simp)) (by simp)
      | _ => simp [Stock.collection]
    · rw [hstock]
      cases k <;> simp [Stock.collection, hactive, he]

theorem rewindSend_stock (s : State) (c : CircuitNo) : ((s.rewindSend c).circuit c).stock =
    { (s.circuit c).stock with busy := false, queue := (s.circuit c).send.blocks, active := none } := by
  rw [rewindSend_circuit]
  exact congrArg (fun x : Stock => { x with busy := false, queue := (s.circuit c).send.blocks, active := none })
    (stopSendTimer_stock (s.circuit c))

theorem returnActive_stock (s : State) (c : CircuitNo) : ((s.returnActive c).circuit c).stock =
    { (s.circuit c).stock with queue := (s.circuit c).send.blocks, active := none } := by
  cases ha : (s.circuit c).send.active with
  | none => rw [returnActive_of_none ha]; simp [CircuitRecord.stock, SendContext.blocks, ha]
  | some a =>
    rw [returnActive_of_some ha, State.onSend, circuit_onCircuit_self]
    simp only [CircuitRecord.stock, SendContext.blocks, ha]
    rfl

theorem Upholds.rewindSend (h : Upholds s u) : Upholds s (u.rewindSend c) := by
  have hstock : ((u.rewindSend c).circuit c).stock = { ((u.returnActive c).circuit c).stock with busy := false } := by
    rw [rewindSend_stock, returnActive_stock]
  refine (h.returnActive (c := c)).relisted (frame_onCircuit (u.returnActive c) c _).around rfl (fun k => ?_)
    (congrArg Stock.window hstock) (fun ho => (congrArg Stock.state hstock).symm.trans ho) fun _ hv =>
      (hv.tidy c).of_eq (fun k => ?_) (fun k hn => ?_) fun ha => absurd ?_ ha
  · exact (congrArg (Stock.collection · k) hstock).trans (by cases k <;> rfl)
  · exact (congrArg (Stock.collection · k) hstock).trans (by cases k <;> rfl)
  · exact (congrArg (fun x : Stock => x.state.mayCollect k) hstock).trans ((hv.tidy c).held k hn)
  · rw [returnActive_stock]

theorem Upholds.rewindRecv (h : Upholds s u) : Upholds s (u.rewindRecv c) := by
  unfold State.rewindRecv
  exact h.dropAssembly.quiet (quiet_onCircuit rfl)

theorem Upholds.rewindBoth (h : Upholds s u) : Upholds s ((u.rewindSend c).rewindRecv c) := h.rewindSend.rewindRecv

theorem rewindBoth_stock (s : State) (c : CircuitNo) : (((s.rewindSend c).rewindRecv c).circuit c).stock =
    { (s.circuit c).stock with
      busy := false, queue := (s.circuit c).send.blocks, active := none, assembly := none } := by
  rw [rewindRecv_circuit]
  exact congrArg (fun x : Stock => { x with assembly := none }) (rewindSend_stock s c)

/-- A circuit that has no active block and no assembly moves between the states where it may hold queued and delivered
blocks alone (R12, R51, R143, R159). -/
theorem Upholds.moves (h : Upholds s u) {f : CircuitRecord → CircuitRecord} {x : CircuitState}
    (hx : x = .opened ∨ x = .rewinding ∨ x = .dormant)
    (hf : (f (u.circuit c)).stock = { (u.circuit c).stock with state := x })
    (hn : Collected s → x ≠ .opened → (u.circuit c).stock.active = none) :
    Upholds s (u.onCircuit c f) := by
  have hstock : ((u.onCircuit c f).circuit c).stock = { (u.circuit c).stock with state := x } := by
    rw [circuit_onCircuit_self]; exact hf
  refine h.relisted (frame_onCircuit u c f).around rfl (fun k => ?_) (congrArg Stock.window hstock)
    (fun ho => ?_) fun hs hu => (hu.tidy c).of_eq (fun k => ?_) (fun k hk => ?_) fun ha => ?_
  · rw [hstock]; cases k <;> rfl
  · rw [show ((u.onCircuit c f).circuit c).state = x from congrArg Stock.state hstock] at ho
    rcases hx with rfl | rfl | rfl <;> cases ho
  · rw [hstock]; cases k <;> rfl
  · rw [hstock]
    have hactive : x ≠ .opened → k ≠ .active := by
      rintro ho rfl
      exact hk (Option.toList_eq_nil_iff.2 (hn hs ho))
    rcases hx with rfl | rfl | rfl <;> simp_all [CircuitState.mayCollect]
  · rw [hstock]; exact (hu.tidy c).busy ha

/-- A circuit with both sides rewound enters another state (R143, R160, R161). -/
theorem Upholds.rewound (h : Upholds s u) {f : CircuitRecord → CircuitRecord} {x : CircuitState}
    (hx : x = .opened ∨ x = .rewinding ∨ x = .dormant) (hf : ∀ r, (f r).stock = { r.stock with state := x }) :
    Upholds s (((u.rewindSend c).rewindRecv c).onCircuit c f) :=
  h.rewindBoth.moves hx (hf _) fun _ _ => by rw [rewindBoth_stock]

theorem Upholds.enterRewinding (h : Upholds s u) (cause : Octet) (originator : Originator) :
    Upholds s (u.enterRewinding c cause originator) :=
  (h.rewound (x := .rewinding) (.inr (.inl rfl)) fun _ => rfl).quiet (quiet_startTimer ..)

theorem Upholds.protocolError (h : Upholds s u) : Upholds s (u.protocolError c) := h.enterRewinding ..

theorem Upholds.enterDormant (h : Upholds s u) : Upholds s (u.enterDormant c) :=
  h.rewound (x := .dormant) (.inr (.inr rfl)) fun _ => rfl

end

end Sys2Proof.Machine

/-! PROOFS. The start decision (R29, R30), the Send Engine (R32 to R46) and the Receive Engine (R56 to R75) uphold the
laws of pages, holdings and collections. -/

namespace Sys2Proof.Machine

section
variable {s t u : State} {c : CircuitNo}

/-! ### The start decision (R29, R30) -/

/-- A circuit whose start decision may start a block: OPEN, with no active block (R29). -/
def CircuitRecord.Startable (r : CircuitRecord) : Prop := r.state = .opened ∧ r.send.active = none

theorem no_active_of_stock {r : CircuitRecord} (h : r.stock.active = none) : r.send.active = none :=
  Option.map_eq_none_iff.1 h

theorem stock_of_no_active {r : CircuitRecord} (h : r.send.active = none) : r.stock.active = none :=
  Option.map_eq_none_iff.2 h

theorem startBlock_stock (s : State) (c : CircuitNo) (d : DescNo) (rest : List DescNo) :
    ((s.startBlock c d rest).circuit c).stock =
      { (s.circuit c).stock with busy := true, queue := rest, active := some d } := by
  unfold State.startBlock State.onSend
  rw [circuit_onCircuit_self]
  rfl

/-- The head of the queue starts (R30). -/
theorem Upholds.startBlock (h : Upholds s u) {d : DescNo} {rest : List DescNo}
    (hq : (u.circuit c).send.queue = d :: rest) (hr : Collected s → (u.circuit c).Startable) :
    Upholds s (u.startBlock c d rest) := by
  have hqueue : (u.circuit c).stock.queue = d :: rest := hq
  have hmem : d ∈ (u.circuit c).stock.collection .queued := by
    show d ∈ (u.circuit c).stock.queue
    rw [hqueue]; exact List.mem_cons_self
  have hstock := startBlock_stock u c d rest
  have hself : (u.startBlock c d rest).descriptor d =
      { u.descriptor d with state := .active, blockNumber := some (u.circuit c).send.nextNumber } :=
    descriptor_setDescriptor_self ..
  have alone (hu : Collected u) {k : DescState} (hk : .queued ≠ k) : d ∉ (u.circuit c).stock.collection k :=
    hu.not_mem ((hu.member c .queued d).1 hmem).2.1 hk
  have once (hu : Collected u) : d ∉ rest ∧ rest.Nodup :=
    List.nodup_cons.1 (hqueue ▸ (hu.tidy c).once .queued)
  refine h.moved (frame_startBlock u c d rest).around d (fun e he => descriptor_setDescriptor_ne _ _ he) ?_
    (fun hfit => ?_) (fun hs hu => ?_) (fun hu => ⟨hu.openTo hmem, ?_, ?_⟩) (fun _ hu k => ?_) fun hs _ e he k => ?_
  · rw [hself]; exact .refl _
  · refine ⟨?_, ?_, ?_, fun ho => absurd ((Stock.empty_iff _).1 (hfit.offered ?_)).1 (by rw [hqueue]; simp)⟩
    · rw [hstock]
      have := hfit.send
      simp only [Stock.collection, hqueue, Option.toList_some, List.length_cons, List.length_nil] at this ⊢
      omega
    · rw [hstock]; exact hfit.received
    · rw [hstock]; exact hfit.window
    · rw [hstock] at ho; exact ho
  · rw [hstock]
    refine ⟨fun k => ?_, fun k _ => ?_, fun _ => rfl⟩
    · cases k with
      | queued => exact (once hu).2
      | active => exact List.nodup_singleton d
      | assembling => exact (hu.tidy c).once .assembling
      | delivered => exact (hu.tidy c).once .delivered
      | _ => exact List.nodup_nil
    · show (u.circuit c).state.mayCollect k = true
      rw [(hr hs).1]
      rfl
  · rw [hself]; exact fun _ => ((hu.member c .queued d).1 hmem).2.2
  · rw [hself]; exact pinOk_of_sending (.inr rfl)
  · rw [hself, hstock]
    cases k with
    | queued => exact iff_of_false (once hu).1 (by simp)
    | active => simp [Stock.collection, DescState.collected]
    | assembling => exact iff_of_false (alone hu (k := .assembling) (by simp)) (by simp)
    | delivered => exact iff_of_false (alone hu (k := .delivered) (by simp)) (by simp)
    | _ => simp [Stock.collection]
  · rw [hstock]
    have hnone : (u.circuit c).stock.active = none := stock_of_no_active (hr hs).2
    cases k <;> simp [Stock.collection, hqueue, hnone, he]

/-- The head of the queue that is too large fails, and leaves the queue (R30, R47). -/
theorem Upholds.failHead (h : Upholds s u) {d : DescNo} {rest : List DescNo}
    (hq : (u.circuit c).send.queue = d :: rest) :
    Upholds s ((u.failTooLarge c d).onSend c fun x => { x with queue := rest }) := by
  have hqueue : (u.circuit c).stock.queue = d :: rest := hq
  obtain ⟨b, hb⟩ := raise_circuit u (tooLargeOf c (u.descriptor d)) c
  have hrec : ((u.failTooLarge c d).onSend c fun x => { x with queue := rest }).circuit c =
      { u.circuit c with stale := b, send := { (u.circuit c).send with queue := rest } } := by
    rw [State.onSend, circuit_onCircuit_self, failTooLarge_eq, circuit_setDescriptor, hb]
  have hstock : (((u.failTooLarge c d).onSend c fun x => { x with queue := rest }).circuit c).stock =
      { (u.circuit c).stock with queue := rest } := by rw [hrec]; rfl
  refine h.released ((frame_failTooLarge u c d).trans (frame_onSend ..)).around [d] (fun e => ?_)
    (by rw [hrec]) (by rw [hrec]) (fun k => ?_) (fun hu ha => ?_) (fun e he => ⟨.queued, ?_⟩) fun hu k e hk => ?_
  · show (u.failTooLarge c d).descriptor e = _
    rw [failTooLarge_eq, descriptor_setDescriptor]
    simp only [List.mem_singleton]
    refine ite_congr rfl (fun he => by rw [he]) fun _ => ?_
    exact descriptor_of_descriptors (raise_descriptors ..) e
  · rw [hstock]
    cases k with
    | queued =>
      show rest.Sublist (u.circuit c).stock.queue
      rw [hqueue]; exact List.sublist_cons_self ..
    | _ => exact .refl _
  · rw [hstock] at ha ⊢; exact (hu.tidy c).busy ha
  · show e ∈ (u.circuit c).stock.queue
    rw [hqueue, List.mem_singleton.1 he]; exact List.mem_cons_self
  · rw [hstock, List.mem_singleton]
    have hd : d ∈ (u.circuit c).stock.collection .queued := by
      show d ∈ (u.circuit c).stock.queue
      rw [hqueue]; exact List.mem_cons_self
    by_cases hkq : k = .queued
    · subst hkq
      have hn : (d :: rest).Nodup := hqueue ▸ (hu.tidy c).once .queued
      have he : e ∈ d :: rest := hqueue ▸ hk
      constructor
      · rintro hm rfl; exact (List.nodup_cons.1 hn).1 hm
      · exact fun hne => (List.mem_cons.1 he).resolve_left hne
    · refine iff_of_true ?_ fun he => hkq (hu.unique (he ▸ hk) hd)
      cases k with
      | queued => exact absurd rfl hkq
      | _ => exact hk

/-- A record given another queue first raises the same event (R204). -/
theorem raise_onSend_queue (s : State) (q : List DescNo) {e : Event} (he : e.circuit = some c) :
    (s.onSend c fun x => { x with queue := q }).raise e = (s.raise e).onSend c fun x => { x with queue := q } := by
  have mark : (s.onSend c fun x => { x with queue := q }).markStale e =
      (s.markStale e).onSend c fun x => { x with queue := q } := by
    simp [State.markStale, he, State.onSend]
  rcases Nat.lt_trichotomy s.events.length 127 with h | h | h
  · rw [raise_of_room s e h]; exact raise_of_room (s.onSend c fun x => { x with queue := q }) e h
  · rw [raise_of_last s e h]
    exact (raise_of_last (s.onSend c fun x => { x with queue := q }) e h).trans (by rw [mark]; rfl)
  · rw [raise_of_full s e h]; exact (raise_of_full (s.onSend c fun x => { x with queue := q }) e h).trans mark

/-- A start reads no queue but the one it is given. -/
theorem startHead_onSend_queue (l q : List DescNo) (s : State) (c : CircuitNo) :
    (s.onSend c fun x => { x with queue := q }).startHead c l = s.startHead c l := by
  induction l generalizing s with
  | nil => simp [State.startHead, State.onSend]
  | cons d l ih =>
    have hfail : (s.onSend c fun x => { x with queue := q }).failTooLarge c d =
        (s.failTooLarge c d).onSend c fun x => { x with queue := q } := by
      rw [failTooLarge_eq, failTooLarge_eq, raise_onSend_queue s q rfl]
      rfl
    have hstart : (s.onSend c fun x => { x with queue := q }).startBlock c d l = s.startBlock c d l := by
      rw [startBlock_eq, startBlock_eq, State.onSend, circuit_onCircuit_self]
      simp [State.onCircuit, State.setCircuit, SendContext.started, State.descriptor]
    have hmax : ((s.onSend c fun x => { x with queue := q }).circuit c).maxSegments = (s.circuit c).maxSegments := by
      rw [State.onSend, circuit_onCircuit_self]
    rw [State.startHead, State.startHead, hfail, ih, hstart, hmax]
    rfl

/-- A record with no active block leaves the states of a busy sender. -/
theorem Upholds.unbusied (h : Upholds s u) {f : CircuitRecord → CircuitRecord}
    (hf : (f (u.circuit c)).stock = { (u.circuit c).stock with busy := false })
    (hn : Collected s → (u.circuit c).send.active = none) : Upholds s (u.onCircuit c f) := by
  have hstock : ((u.onCircuit c f).circuit c).stock = { (u.circuit c).stock with busy := false } := by
    rw [circuit_onCircuit_self]; exact hf
  refine h.relisted (frame_onCircuit u c f).around rfl (fun k => ?_) (congrArg Stock.window hstock) (fun ho => ?_)
    fun hs hu => (hu.tidy c).of_eq (fun k => ?_) (fun k hk => ?_) fun ha => ?_
  · rw [hstock]; cases k <;> rfl
  · exact (congrArg Stock.state hstock).symm.trans ho
  · rw [hstock]; cases k <;> rfl
  · rw [hstock]; exact (hu.tidy c).held k hk
  · exact absurd (stock_of_no_active (hn hs)) ha

theorem Upholds.startHead {l : List DescNo} (h : Upholds s u) (hq : (u.circuit c).send.queue = l)
    (hr : Collected s → (u.circuit c).Startable) : Upholds s (u.startHead c l) := by
  induction l generalizing u with
  | nil =>
    exact h.unbusied (f := fun r => { r with send := { r.send with sender := .idle, queue := [] } })
      (by simp only [CircuitRecord.stock, hq]; rfl) fun hs => (hr hs).2
  | cons d rest ih =>
    rw [State.startHead]
    split
    · rw [← startHead_onSend_queue rest rest]
      obtain ⟨b, hb⟩ := raise_circuit u (tooLargeOf c (u.descriptor d)) c
      have hrec : ((u.failTooLarge c d).onSend c fun x => { x with queue := rest }).circuit c =
          { u.circuit c with stale := b, send := { (u.circuit c).send with queue := rest } } := by
        rw [State.onSend, circuit_onCircuit_self, failTooLarge_eq, circuit_setDescriptor, hb]
      exact ih (h.failHead hq) (by rw [hrec]) fun hs => by rw [hrec]; exact hr hs
    · exact h.startBlock hq hr

/-- The start decision of a circuit that may start a block (R29). -/
theorem Upholds.startDecision (h : Upholds s u) (hr : Collected s → (u.circuit c).Startable) (b : Bool) :
    Upholds s (u.startDecision c b) := by
  have hnone : Collected s → (u.circuit c).send.active = none := fun hs => (hr hs).2
  unfold State.startDecision
  split
  · exact h.unbusied rfl hnone
  · next d rest hq =>
    split
    · exact h.startHead hq hr
    · split
      · exact (h.unbusied rfl hnone).quiet (quiet_startTimer ..)
      · exact (h.unbusied rfl hnone).quiet (quiet_setTransfer ..)

/-- A circuit that comes back to OPEN with no active block resumes (R49, R147, R148, R159). -/
theorem Upholds.resumed (h : Upholds s u) {f : CircuitRecord → CircuitRecord}
    (hf : (f (u.circuit c)).stock = { (u.circuit c).stock with state := .opened })
    (hn : Collected s → (u.circuit c).send.active = none) : Upholds s ((u.onCircuit c f).resumeSend c) := by
  refine (h.moves (x := .opened) (.inl rfl) hf fun hs _ => stock_of_no_active (hn hs)).startDecision (fun hs => ?_) _
  rw [circuit_onCircuit_self]
  refine ⟨congrArg Stock.state hf, no_active_of_stock ?_⟩
  rw [hf]
  exact stock_of_no_active (hn hs)

/-- A circuit out of OPEN has no active block (R25). -/
theorem Collected.no_active (h : Collected s) (hs : (s.circuit c).state ≠ .opened) :
    (s.circuit c).send.active = none := no_active_of_stock ((h.tidy c).no_active (.inl hs))

/-- A sender that is IDLE, HELD or STOPPED has no active block (R25). -/
theorem Collected.no_active_of_sender (h : Collected s) (hs : (s.circuit c).send.sender.busy = false) :
    (s.circuit c).send.active = none := no_active_of_stock ((h.tidy c).no_active (.inr hs))

theorem Upholds.finishRewinding (h : Upholds s u) (hu : (u.circuit c).state = .rewinding)
    (owed : Option ProtocolKind) : Upholds s (u.finishRewinding c owed) :=
  (h.resumed rfl fun hs => (h.collected hs).no_active (by simp [hu])).quiet (quiet_raise ..)

theorem upholds_rewindInOpen (hs : (s.circuit c).state = .opened) (cause : Octet) :
    Upholds s (s.rewindInOpen c cause) := by
  have hstock := rewindBoth_stock s c
  have h := (Upholds.refl s).rewindBoth (c := c)
  unfold State.rewindInOpen
  generalize (s.rewindSend c).rewindRecv c = u at h hstock
  refine ((h.quiet (quiet_setProtocol u c _)).startDecision (fun _ => ?_) false).quiet (quiet_raise ..)
  unfold State.setProtocol
  rw [circuit_onCircuit_self]
  exact ⟨(congrArg Stock.state hstock).trans hs, no_active_of_stock (congrArg Stock.active hstock)⟩

end

end Sys2Proof.Machine

/-! PROOFS. The Send Engine (R32 to R46) upholds the laws of pages, holdings and collections. -/

namespace Sys2Proof.Machine

section
variable {s t u : State} {c : CircuitNo}

/-! ### The active block leaves (R37, R41) -/

/-- The active block's descriptor is freed and the circuit left without an active block (R37, R41). -/
theorem Upholds.activeFreed (h : Upholds s u) {d : DescNo} (ha : (u.circuit c).stock.active = some d)
    {f : CircuitRecord → CircuitRecord} {b : Bool}
    (hf : (f (u.circuit c)).stock = { (u.circuit c).stock with active := none, busy := b }) :
    Upholds s ((u.freeDescriptor d).onCircuit c f) := by
  have hstock : (((u.freeDescriptor d).onCircuit c f).circuit c).stock =
      { (u.circuit c).stock with active := none, busy := b } := by
    rw [circuit_onCircuit_self, freeDescriptor_circuit]; exact hf
  refine h.emptied ((frame_freeDescriptor u c d).trans (frame_onCircuit ..)).around (fun k => decide (k = .active)) [d]
    (fun e => ?_) (fun e => ?_) (congrArg Stock.window hstock) (congrArg Stock.state hstock) (fun k => ?_) (.inl rfl)
  · simp [Stock.collection, ha, eq_comm]
  · rw [freeDescriptor_eq]
    refine (descriptor_setDescriptor ..).trans ?_
    simp only [List.mem_singleton]
    exact ite_congr rfl (fun he => by rw [he]) fun _ => rfl
  · rw [hstock]
    cases k <;> simp [Stock.collection]

/-- The active block advances (R37). -/
theorem Upholds.advance (h : Upholds s u) {a : ActiveBlock} (ha : (u.circuit c).stock.active = some a.desc)
    (ho : (u.circuit c).stock.state = .opened) (ready : Bool) : Upholds s (u.advance c a ready) := by
  refine (h.activeFreed (b := false) ha rfl).startDecision (fun _ => ?_) true
  rw [circuit_onCircuit_self, freeDescriptor_circuit]
  exact ⟨ho, rfl⟩

theorem Upholds.blockDelivered (h : Upholds s u) {a : ActiveBlock} (ha : (u.circuit c).stock.active = some a.desc)
    (ho : (u.circuit c).stock.state = .opened) (ready : Bool) : Upholds s (u.blockDelivered c a ready) := by
  have hq := quiet_raise u (a.sentEvent c (u.descriptor a.desc).tag)
  exact (h.quiet hq).advance (by rw [hq.stock]; exact ha) (by rw [hq.stock]; exact ho) ready

theorem Upholds.failActive (h : Upholds s u) {a : ActiveBlock} (ha : (u.circuit c).stock.active = some a.desc) :
    Upholds s (u.failActive c a) := by
  have hq := quiet_raise u (a.failedEvent c (u.descriptor a.desc).tag)
  exact (h.quiet hq).activeFreed (b := ((u.raiseFailed c a).circuit c).stock.busy)
    (f := fun r => { r with send := { r.send with active := none } }) (by rw [hq.stock]; exact ha) rfl

/-! ### Answers to polls (R36 to R43) -/

theorem quiet_takeAnswer (s : State) (c : CircuitNo) : Quiet s (s.takeAnswer c) :=
  (quiet_stopTimer s c).trans (quiet_setTransfer ..)

/-- A busy sender changes its phase and keeps its active block (R32, R33, R38, R42). -/
theorem quiet_onSend {f : SendContext → SendContext}
    (hb : (f (s.circuit c).send).sender.busy = (s.circuit c).stock.busy)
    (hq : (f (s.circuit c).send).queue = (s.circuit c).send.queue)
    (ha : (f (s.circuit c).send).active.map ActiveBlock.desc = (s.circuit c).stock.active) :
    Quiet s (s.onSend c f) := by
  refine quiet_onCircuit ?_
  simp only [CircuitRecord.stock, hb, hq, ha]

/-- A sender with an active block is busy, and so it may go from one busy state to another. -/
theorem quiet_busy {f : SendContext → SendContext} (hb : (f (s.circuit c).send).sender.busy = true)
    (hs : (s.circuit c).stock.busy = true) (hq : (f (s.circuit c).send).queue = (s.circuit c).send.queue)
    (ha : (f (s.circuit c).send).active.map ActiveBlock.desc = (s.circuit c).stock.active) :
    Quiet s (s.onSend c f) := quiet_onSend (hb.trans hs.symm) hq ha

theorem quiet_beginAbandon (hb : (s.circuit c).stock.busy = true) : Quiet s (s.beginAbandon c) :=
  (quiet_busy rfl hb rfl rfl).trans (quiet_setTransfer ..)

theorem Upholds.giveUp (h : Upholds s u) {a : ActiveBlock} (ha : (u.circuit c).stock.active = some a.desc)
    (hb : (u.circuit c).stock.busy = true) : Upholds s (u.giveUp c a) := by
  unfold State.giveUp
  split
  · exact (h.failActive ha).enterRewinding ..
  · exact (h.failActive ha).enterClosing ..
  · exact h.quiet (quiet_beginAbandon hb)
  · exact h.quiet (quiet_beginAbandon hb)

theorem Upholds.missingAnswer (h : Upholds s u) {a : ActiveBlock} (ha : (u.circuit c).stock.active = some a.desc)
    (hb : (u.circuit c).stock.busy = true) (map : SegSet) : Upholds s (u.missingAnswer c a map) := by
  unfold State.missingAnswer
  split
  · split
    · exact h.quiet (quiet_busy rfl hb rfl ha.symm)
    · exact h.giveUp ha hb
  · exact h.protocolError

end

section
variable {s : State} {c : CircuitNo} {a : ActiveBlock} (ha : (s.circuit c).stock.active = some a.desc)
  (ho : (s.circuit c).stock.state = .opened)
include ha ho

theorem upholds_pollAnswer (hb : (s.circuit c).stock.busy = true) (outcome : StatusOutcome) (ready : Bool) :
    Upholds s (s.pollAnswer c a outcome ready) := by
  have hq := quiet_takeAnswer s c
  rw [← hq.stock c] at ha ho hb
  cases outcome with
  | missing map => exact hq.upholds.missingAnswer ha hb map
  | complete => exact hq.upholds.blockDelivered ha ho ready
  | abandoned => exact hq.upholds.protocolError

theorem upholds_abandonAnswer (outcome : StatusOutcome) (ready : Bool) :
    Upholds s (s.abandonAnswer c a outcome ready) := by
  have hq := quiet_takeAnswer s c
  have hr := hq.trans (quiet_raise (s.takeAnswer c) (a.failedEvent c ((s.takeAnswer c).descriptor a.desc).tag))
  cases outcome with
  | missing _ => exact Upholds.refl s
  | complete =>
    rw [← hq.stock c] at ha ho
    exact hq.upholds.blockDelivered ha ho ready
  | abandoned =>
    rw [← hr.stock c] at ha ho
    exact hr.upholds.advance ha ho ready

end

section
variable {s t u : State} {c : CircuitNo}

theorem upholds_readyInHeld (ho : (s.circuit c).state = .opened) (hs : (s.circuit c).send.sender = .held)
    (ready : Bool) : Upholds s (s.readyInHeld c ready) := by
  have hq : Quiet s (s.onSend c fun x => { x with pollCount := 0, peerReady := ready }) := quiet_onCircuit rfl
  have hc : ((s.onSend c fun x => { x with pollCount := 0, peerReady := ready }).circuit c) =
      { s.circuit c with send := { (s.circuit c).send with pollCount := 0, peerReady := ready } } :=
    circuit_onCircuit_self ..
  unfold State.readyInHeld
  generalize s.onSend c (fun x => { x with pollCount := 0, peerReady := ready }) = u at hq hc
  dsimp only
  split
  · refine ((hq.trans (quiet_stopTimer u c)).trans (quiet_setTransfer ..)).upholds.startDecision (fun h => ?_) false
    have hnone := h.no_active_of_sender (c := c) (by rw [hs]; rfl)
    simp only [State.setTransfer, State.stopTimer, circuit_onCircuit_self, hc]
    exact ⟨ho, hnone⟩
  · split
    · exact (hq.trans (quiet_stopTimer ..)).upholds
    · exact (hq.trans (quiet_startTimer ..)).upholds

theorem upholds_readyAt (ho : (s.circuit c).state = .opened) (ready : Bool) :
    Upholds s (State.readyAt ready c s) := by
  unfold State.readyAt
  split
  · next hs => exact upholds_readyInHeld ho hs ready
  · exact (quiet_onCircuit rfl).upholds
  all_goals exact Upholds.refl s

theorem stock_of_active {a : ActiveBlock} (h : (s.circuit c).send.active = some a) :
    (s.circuit c).stock.active = some a.desc := by simp [CircuitRecord.stock, h]

theorem upholds_statusAt (ho : (s.circuit c).state = .opened) (number : BlockNumber) (outcome : StatusOutcome)
    (ready : Bool) : Upholds s (State.statusAt number outcome ready c s) := by
  have busy {x : SenderState} (hs : (s.circuit c).send.sender = x) : (s.circuit c).stock.busy = x.busy := by
    rw [← hs]; rfl
  unfold State.statusAt
  split
  · next a hs ha =>
    split
    · exact upholds_pollAnswer (stock_of_active ha) ho (busy hs) ..
    · exact Upholds.refl s
  · next a hs ha =>
    split
    · exact upholds_abandonAnswer (stock_of_active ha) ho ..
    · exact Upholds.refl s
  · next hs =>
    split
    · exact Upholds.refl s
    all_goals
      split
      · exact upholds_readyInHeld ho hs ready
      · exact Upholds.refl s
  · exact Upholds.refl s

/-! ### Transmission ends reported to the sender (R32, R33, R42, R45) -/

theorem quiet_reportToSender (s : State) (c : CircuitNo) (f : Frame) : Quiet s (s.reportToSender c f) := by
  have busy {x : SenderState} (hs : (s.circuit c).send.sender = x) : x.busy = (s.circuit c).stock.busy := by
    rw [← hs]; rfl
  unfold State.reportToSender
  split
  · unfold State.segSent
    split
    · next a hs ha =>
      split
      · have hq (left : SegSet) :
            Quiet s (s.onSend c fun x => { x with active := some { a with toSend := left } }) :=
          quiet_onSend rfl rfl (stock_of_active ha).symm
        dsimp only
        split
        · exact ((hq _).trans (quiet_onCircuit rfl)).trans (quiet_setTransfer ..)
        · exact hq _
      · exact Quiet.refl s
    · exact Quiet.refl s
  · unfold State.blockEndSent
    split
    · split
      · next hs =>
        have hb : SenderState.polling.busy = (s.circuit c).stock.busy := by
          rcases hs.2 with hs | hs
          · exact busy (x := .sending) hs.1
          · exact busy hs
        exact (quiet_onSend hb rfl rfl).trans (quiet_startTimer ..)
      · exact Quiet.refl s
    · exact Quiet.refl s
  · unfold State.blockAbandonSent
    split
    · split
      · exact quiet_startTimer ..
      · exact Quiet.refl s
    · exact Quiet.refl s
  · unfold State.probeSent
    split
    · exact quiet_startTimer ..
    · exact Quiet.refl s
  · exact Quiet.refl s

/-! ### Polls that go unanswered (R34, R35, R45) -/

theorem upholds_pollExhausted (s : State) (c : CircuitNo) : Upholds s (s.pollExhausted c) := by
  unfold State.pollExhausted
  split
  · exact (Upholds.refl s).enterRewinding ..
  · exact (Upholds.refl s).enterClosing ..

theorem upholds_pollAgain (s : State) (c : CircuitNo) (k : TransferKind) : Upholds s (s.pollAgain c k) := by
  unfold State.pollAgain
  split
  · exact ((quiet_onCircuit rfl).trans (quiet_setTransfer ..)).upholds
  · exact upholds_pollExhausted ..

end

end Sys2Proof.Machine

/-! PROOFS. Changes of descriptors that no circuit collects, the end of a pin (R88, R89), the Receive Engine (R56 to
R75) and the expiries (R14, R97, R158) uphold the laws of pages, holdings and collections. -/

namespace Sys2Proof.Machine

section
variable {s t u : State} {c : CircuitNo}

/-! ### Descriptors changed behind the circuits (R79) -/

/-- Two descriptors with one place in the collections, or with none. -/
def Descriptor.SamePlace (x y : Descriptor) : Prop :=
  (x.state = y.state ∧ x.circuit = y.circuit) ∨ (x.state.collected = false ∧ y.state.collected = false)

theorem Descriptor.SamePlace.refl (x : Descriptor) : x.SamePlace x := .inl ⟨rfl, rfl⟩

/-- A change behind the stock of every record leaves each bound as it was. -/
theorem holdingsLaw_of_stock (hc : ∀ c, (t.circuit c).stock = (s.circuit c).stock) (hl : t.listen = s.listen)
    (h : HoldingsLaw s) : HoldingsLaw t := by
  rw [holdingsLaw_iff] at h ⊢
  exact ⟨fun c => by rw [hc]; exact h.1 c, by rw [hl]; exact h.2⟩

/-- A change of descriptors that keeps their places keeps the law of collections. -/
theorem Collected.redescribed (h : Collected s) (hc : ∀ c, (t.circuit c).stock = (s.circuit c).stock)
    (hd : ∀ d, (t.descriptor d).SamePlace (s.descriptor d))
    (hp : ∀ d, (t.descriptor d).PinOk (t.pinnedDescriptor = some d))
    (hx : ∀ x, t.tx = some x → x.pin ≠ none → ∃ c, x.owner = .circuit c) : Collected t where
  member c k d := by
    rw [hc, h.member]
    rcases hd d with ⟨hs, hc⟩ | ⟨ht, hs⟩
    · rw [hs, hc]
    · refine iff_of_false ?_ ?_ <;> rintro ⟨hk, rfl, -⟩
      · rw [hs] at hk; cases hk
      · rw [ht] at hk; cases hk
  owned d hk := by
    rcases hd d with ⟨hs, hc⟩ | ⟨ht, -⟩
    · rw [hc]; exact h.owned d (hs ▸ hk)
    · rw [ht] at hk; cases hk
  tidy c := by rw [hc]; exact h.tidy c
  pin := hp
  pinner := hx

/-- One descriptor changes in its place. -/
theorem Collected.redescribed_one (h : Collected s) {d : DescNo} (hc : ∀ c, (t.circuit c).stock = (s.circuit c).stock)
    (hd : ∀ e, e ≠ d → t.descriptor e = s.descriptor e) (hs : (t.descriptor d).SamePlace (s.descriptor d))
    (hp : (t.descriptor d).PinOk (s.pinnedDescriptor = some d)) (hx : t.txPin = s.txPin) : Collected t := by
  refine h.redescribed hc (fun e => ?_) (fun e => ?_) (pinner_of_txPin hx h.pinner)
  · by_cases he : e = d
    · rw [he]; exact hs
    · rw [hd e he]; exact .refl _
  · rw [pinnedDescriptor_of_txPin hx]
    by_cases he : e = d
    · rw [he]; exact hp
    · rw [hd e he]; exact h.pin e

/-! ### The end of a pin (R88, R89) -/

/-- The frame in transmission ends, and with it its pin (R89, R191, R192). -/
theorem upholds_unpinned {x : TxFrame} {pin : Option (Nat × DescNo)} (hx : s.tx = some x)
    (hc : ∀ c, (t.circuit c).stock = (s.circuit c).stock) (hl : t.listen = s.listen) (ht : t.tx = none)
    (hd : t.descriptors = (s.endPin pin).descriptors) (hp : Collected s → pin = x.pin) : Upholds s t := by
  have hdesc (e : DescNo) : t.descriptor e = (s.endPin pin).descriptor e := descriptor_of_descriptors hd e
  have ended (e : DescNo) : t.descriptor e = s.descriptor e ∨
      (t.descriptor e = Descriptor.free ∧ (s.descriptor e).state = .returning) := by
    rw [hdesc]
    rcases pin with _ | ⟨page, d⟩
    · exact .inl rfl
    · rw [endPin_descriptor]
      split
      · next h => exact .inr ⟨rfl, by rw [h.1]; exact h.2⟩
      · exact .inl rfl
  refine ⟨pagesLaw_of_sublist fun e => ?_, holdingsLaw_of_stock hc hl, fun hs => hs.redescribed hc (fun e => ?_)
    (fun e => ?_) fun y hy => by rw [ht] at hy; cases hy⟩
  · rcases ended e with he | ⟨he, -⟩
    · rw [he]
    · rw [he]; exact List.nil_sublist _
  · rcases ended e with he | ⟨he, hr⟩
    · rw [he]; exact .refl _
    · exact .inr ⟨by rw [he]; rfl, by rw [hr]; rfl⟩
  · refine ⟨fun hn => ?_, fun hr => ?_, fun hf => ?_⟩
    · simp [State.pinnedDescriptor, ht] at hn
    · rcases ended e with he | ⟨he, -⟩
      · rw [he] at hr
        have hpin := (hs.pin e).returning hr
        obtain ⟨y, hy⟩ : ∃ p, x.pin = some (p, e) := by
          simpa [State.pinnedDescriptor, hx] using hpin
        have hfree : t.descriptor e = Descriptor.free := by
          rw [hdesc, hp hs, hy, endPin_descriptor, if_pos ⟨rfl, hr⟩]
        rw [hfree] at he
        rw [← he] at hr
        cases hr
      · rw [he] at hr; cases hr
    · rcases ended e with he | ⟨he, -⟩
      · rw [he] at hf ⊢; exact (hs.pin e).free hf
      · exact he

theorem upholds_abortTransmission (s : State) : Upholds s s.abortTransmission := by
  cases hx : s.tx with
  | none =>
    rw [show s.abortTransmission = s by unfold State.abortTransmission; rw [hx]]
    exact Upholds.refl s
  | some x =>
    rw [abortTransmission_of_tx hx]
    exact upholds_unpinned hx (fun _ => rfl) rfl rfl rfl fun _ => rfl

theorem quiet_enterDown (s : State) : Quiet s s.enterDown := quiet_onLink ..

theorem quiet_linkFrameSent (s : State) (f : Frame) : Quiet s (s.linkFrameSent f) := by
  unfold State.linkFrameSent
  split
  · split
    · exact quiet_enterDown s
    · exact Quiet.refl s
  · exact Quiet.refl s

/-- The reports of an end change no descriptor but that of the pin (R191). -/
theorem upholds_endTransmission (s : State) : Upholds s s.endTransmission := by
  unfold State.endTransmission
  split
  · exact Upholds.refl s
  · next x hx =>
    have unowned (ho : ∀ c, x.owner ≠ .circuit c) (hs : Collected s) : none = x.pin :=
      (Classical.byContradiction fun hn => (hs.pinner x hx fun h => hn h.symm).elim ho)
    unfold State.reportEnd
    split
    · next ho =>
      have hq := quiet_linkFrameSent s x.frame
      exact upholds_unpinned (pin := none) hx hq.stock hq.listen rfl hq.descriptors (unowned (by simp [ho]))
    · next ho => exact upholds_unpinned hx (fun _ => rfl) rfl rfl rfl (unowned (by simp [ho]))
    · next c ho =>
      have hq : Quiet s (if x.detached then s else s.reportToSender c x.frame) := by
        split
        · exact Quiet.refl s
        · exact quiet_reportToSender ..
      generalize (if x.detached then s else s.reportToSender c x.frame) = u at hq
      have hpin : (u.endPin x.pin).descriptors = (s.endPin x.pin).descriptors := by
        have hd := hq.descriptors
        unfold State.endPin State.setDescriptor
        split
        · exact hd
        · rw [descriptor_of_descriptors hd]
          split
          · rw [← hd]
          · exact hd
      refine upholds_unpinned (pin := x.pin) hx (fun d => ?_) ?_ rfl hpin fun _ => rfl
      · rw [← hq.stock d]
        show ((u.endPin x.pin).circuit d).stock = _
        rw [endPin_eq]
        rfl
      · rw [← hq.listen]
        show (u.endPin x.pin).listen = _
        rw [endPin_eq]

/-! ### The transmission start (R190) -/

/-- A frame without a pin starts where none is in transmission. -/
theorem upholds_transmit_unpinned (hc : ∀ c, (t.circuit c).stock = (s.circuit c).stock)
    (hd : t.descriptors = s.descriptors) (hl : t.listen = s.listen) (hs : s.tx = none) {x : TxFrame}
    (ht : t.tx = some x) (hp : x.pin = none) : Upholds s t where
  pages := pagesLaw_of_sublist fun d => by rw [descriptor_of_descriptors hd]
  holdings := holdingsLaw_of_stock hc hl
  collected h := by
    have hpin : t.pinnedDescriptor = s.pinnedDescriptor := by simp [State.pinnedDescriptor, hs, ht, hp]
    refine h.redescribed hc (fun d => ?_) (fun d => ?_) fun y hy hn => ?_
    · rw [descriptor_of_descriptors hd]; exact .refl _
    · rw [descriptor_of_descriptors hd, hpin]; exact h.pin d
    · rw [ht] at hy
      cases hy
      exact absurd hp hn

theorem dataClaim_active {cl : Claim} (h : s.dataClaim c = some cl) :
    ∃ a i, cl = .data c a i ∧ (s.circuit c).send.active = some a := by
  unfold State.dataClaim at h
  split at h
  · next a _ ha =>
    obtain ⟨i, -, rfl⟩ := Option.map_eq_some_iff.1 h
    exact ⟨a, i, rfl, ha⟩
  · cases h

/-- A segment is claimed for the active block of its circuit (R31, R189). -/
theorem chooseClaim_data {a : ActiveBlock} {i : Nat} (h : s.chooseClaim = some (.data c a i)) :
    (s.circuit c).send.active = some a := by
  unfold State.chooseClaim State.circuitStages at h
  split at h
  · cases h
  · split at h
    · split at h
      · cases h
      · rcases Option.or_eq_some_iff.1 h with h | ⟨-, h⟩
        · obtain ⟨d, -, hd⟩ := List.exists_of_findSome?_eq_some h
          unfold State.controlClaim at hd
          split at hd <;> cases hd
        · obtain ⟨d, -, hd⟩ := List.exists_of_findSome?_eq_some h
          obtain ⟨b, j, he, hb⟩ := dataClaim_active hd
          cases he
          exact hb
    · cases h

theorem reportReady_stock (r : CircuitRecord) : r.reportReady.stock = r.stock := rfl

/-- A frame starts: its claim leaves its class, and a segment pins the page it is read from (R88, R190). -/
theorem upholds_startTransmission (s : State) : Upholds s s.startTransmission := by
  unfold State.startTransmission
  split
  · next claim hx hclaim =>
    unfold State.startClaim
    split
    · exact upholds_transmit_unpinned (fun _ => rfl) rfl rfl hx rfl rfl
    · exact upholds_transmit_unpinned (fun _ => rfl) rfl rfl hx rfl rfl
    · next c _ => exact upholds_transmit_unpinned (quiet_setProtocol s c none).stock rfl rfl hx rfl rfl
    · next c _ =>
      have hq : Quiet s ((s.setAnswer c none).onCircuit c CircuitRecord.reportReady) :=
        (quiet_setAnswer s c none).trans (quiet_onCircuit (reportReady_stock _))
      exact upholds_transmit_unpinned hq.stock rfl rfl hx rfl rfl
    · next c _ => exact upholds_transmit_unpinned (quiet_setTransfer s c none).stock rfl rfl hx rfl rfl
    · next c a i =>
      have ha := chooseClaim_data hclaim
      refine ⟨id, holdingsLaw_of_stock (fun _ => rfl) rfl, fun hs =>
        hs.redescribed (fun _ => rfl) (fun d => .refl _) (fun d => ?_) fun x hx _ => ?_⟩
      · have hactive : (s.descriptor a.desc).state = .active :=
          ((hs.member c .active a.desc).1 (by simp [CircuitRecord.stock, Stock.collection, ha])).2.1
        have hn : s.pinnedDescriptor = none := by simp [State.pinnedDescriptor, hx]
        have hp := hs.pin d
        rw [hn] at hp
        show (s.descriptor d).PinOk (some a.desc = some d)
        refine ⟨?_, fun hr => ?_, hp.free⟩
        · rintro h
          cases h
          exact .inr (.inl hactive)
        · cases hp.returning hr
      · cases hx; exact ⟨c, rfl⟩
  · exact Upholds.refl s

end

end Sys2Proof.Machine

/-! PROOFS. The Receive Engine (R56 to R75) and the expiries (R14, R97, R158) uphold the laws of pages, holdings and
collections. -/

namespace Sys2Proof.Machine

section
variable {s t u : State} {c : CircuitNo} {d : DescNo} {page i : Nat} {payload : List Octet}

/-! ### A segment stored (R57, R86) -/

/-- A slot put among others is one more slot. -/
theorem insertSlot_perm (x : Slot) (l : List Slot) : (insertSlot x l).Perm (x :: l) := by
  induction l with
  | nil => exact .refl _
  | cons y l ih =>
    unfold insertSlot
    split
    · exact .refl _
    · exact (ih.cons y).trans (.swap x y l)

/-- A page that is free stays free where no descriptor takes one (R77). -/
theorem pageFree_of_sublist (h : ∀ d, (t.descriptor d).held.Sublist (s.descriptor d).held) {p : Nat}
    (hp : s.pageFree p = true) : t.pageFree p = true := by
  rw [pageFree_iff, heldPages_eq, List.mem_flatMap] at hp ⊢
  refine ⟨hp.1, ?_⟩
  rintro ⟨d, hd, hm⟩
  exact hp.2 ⟨d, hd, (h d).subset hm⟩

theorem fillSlot_descriptor_self (s : State) (d : DescNo) (page i : Nat) (payload : List Octet) :
    (s.fillSlot d page i payload).descriptor d = { s.descriptor d with
      slots := insertSlot { index := i, page, octets := payload.length } (s.descriptor d).slots } :=
  descriptor_setDescriptor_self ..

theorem fillSlot_descriptor_ne (s : State) {d e : DescNo} (he : e ≠ d) (page i : Nat) (payload : List Octet) :
    (s.fillSlot d page i payload).descriptor e = s.descriptor e := descriptor_setDescriptor_ne _ _ he

/-- An assembly takes a page from the pool (R57). -/
theorem upholds_fillSlot (hp : s.pageFree page = true) (hd : Collected s → (s.descriptor d).state = .assembling)
    (i : Nat) (payload : List Octet) : Upholds s (s.fillSlot d page i payload) := by
  have hheld : ((s.fillSlot d page i payload).descriptor d).held.Perm (page :: (s.descriptor d).held) := by
    rw [fillSlot_descriptor_self]
    refine (List.Perm.append_left _ ((insertSlot_perm _ _).map _)).trans ?_
    exact List.perm_middle
  have hfree : page ∉ (s.descriptor d).held := fun hm =>
    ((pageFree_iff s page).1 hp).2 ((heldPages_eq s) ▸ List.mem_flatMap.2 ⟨d, List.mem_finRange d, hm⟩)
  refine ⟨pagesLaw_of_free (d := d) (fun e he => fillSlot_descriptor_ne s he ..) (fun hn => ?_) fun p hm => ?_,
    holdingsLaw_of_stock (fun _ => rfl) rfl, fun hs => ?_⟩
  · exact hheld.nodup_iff.2 (List.nodup_cons.2 ⟨hfree, hn⟩)
  · rcases List.mem_cons.1 (hheld.mem_iff.1 hm) with rfl | hm
    · exact .inr hp
    · exact .inl hm
  · refine hs.redescribed_one (d := d) (fun _ => rfl) (fun e he => fillSlot_descriptor_ne s he ..) ?_ ?_ rfl
    · rw [fillSlot_descriptor_self]; exact .inl ⟨rfl, rfl⟩
    · rw [fillSlot_descriptor_self]
      refine ⟨(hs.pin d).pinned, (hs.pin d).returning, fun hf => ?_⟩
      have := hd hs
      rw [show (s.descriptor d).state = .free from hf] at this
      cases this

/-- A FREE descriptor becomes the assembly of a circuit with room for one (R53, R57). -/
theorem upholds_newAssembly (ho : (s.circuit c).state = .opened) (ha : (s.circuit c).recv.assembly = none)
    (hr : (s.circuit c).readyFlag = true) (hd : (s.descriptor d).state = .free) {x : Descriptor}
    (hx : x.state = .assembling) (hc : x.circuit = some c) (hh : x.held = []) :
    Upholds s ((s.setDescriptor d x).onRecv c fun y => { y with assembly := some d }) := by
  have hnone : (s.circuit c).stock.assembly = none := ha
  have hstock : (((s.setDescriptor d x).onRecv c fun y => { y with assembly := some d }).circuit c).stock =
      { (s.circuit c).stock with assembly := some d } := by
    rw [State.onRecv, circuit_onCircuit_self, circuit_setDescriptor]; rfl
  have hself : ((s.setDescriptor d x).onRecv c fun y => { y with assembly := some d }).descriptor d = x :=
    descriptor_setDescriptor_self ..
  have absent (hs : Collected s) (k : DescState) : d ∉ (s.circuit c).stock.collection k := by
    intro hm
    have hk := (hs.member c k d).1 hm
    rw [hd] at hk
    rw [← hk.2.1] at hk
    cases hk.1
  refine (Upholds.refl s).moved ((frame_setDescriptor s c d x).trans (frame_onRecv ..)).around d
    (fun e he => descriptor_setDescriptor_ne _ _ he) (by rw [hself, hh]; exact List.nil_sublist _) (fun hfit => ?_)
    (fun hs _ => ?_) (fun hs => ⟨openTo_of_uncollected (by rw [hd]; rfl) c, ?_, ?_⟩) (fun hs _ k => ?_)
    fun _ _ e he k => ?_
  · refine ⟨?_, ?_, ?_, fun h => ?_⟩
    · rw [hstock]; exact hfit.send
    · rw [hstock]
      have := (readyFlag_iff _).1 hr
      exact this
    · rw [hstock]; exact hfit.window
    · rw [hstock] at h
      exact absurd (show (s.circuit c).state = .offered from h) (by simp [ho])
  · have once := (hs.tidy c).once
    rw [hstock]
    refine ⟨fun k => ?_, fun k _ => ?_, (hs.tidy c).busy⟩
    · cases k with
      | assembling => exact List.nodup_singleton d
      | queued => exact once .queued
      | active => exact once .active
      | delivered => exact once .delivered
      | _ => exact List.nodup_nil
    · show (s.circuit c).state.mayCollect k = true
      rw [ho]; rfl
  · rw [hself]; exact fun _ => hc
  · rw [hself]
    exact pinOk_of_unpinned (hs.unpinned (by simp [hd]) (by simp [hd]) (by simp [hd])) (by simp [hx]) (by simp [hx])
  · rw [hself, hstock, hx]
    have hk := absent hs k
    cases k with
    | assembling => simp [Stock.collection, DescState.collected]
    | queued => exact iff_of_false hk (by simp)
    | active => exact iff_of_false hk (by simp)
    | delivered => exact iff_of_false hk (by simp)
    | _ => exact iff_of_false hk (by simp)
  · rw [hstock]
    cases k <;> simp [Stock.collection, hnone, he]

theorem upholds_storeSegment (ho : (s.circuit c).state = .opened) (ht : s.storeSegment c i payload = some t) :
    Upholds s t := by
  unfold State.storeSegment at ht
  split at ht
  · next d ha =>
    obtain ⟨page, hp, rfl⟩ := Option.map_eq_some_iff.1 ht
    refine upholds_fillSlot (lowestFreePage_free hp) (fun hs => ?_) ..
    exact ((hs.member c .assembling d).1 (by simp [CircuitRecord.stock, Stock.collection, ha])).2.1
  · next ha =>
    split at ht
    · next hr =>
      split at ht
      · next d page hd hp =>
        cases ht
        have hfree := lowestFreeDescriptor_state hd
        refine (upholds_newAssembly ho ha hr hfree rfl rfl rfl).trans
          (upholds_fillSlot (pageFree_of_sublist (fun e => ?_) (lowestFreePage_free hp)) (fun _ => ?_) ..)
        · show (State.descriptor (s.setDescriptor d _) e).held.Sublist _
          rw [descriptor_setDescriptor]
          split
          · exact List.nil_sublist _
          · exact .refl _
        · show (State.descriptor (s.setDescriptor d _) d).state = _
          rw [descriptor_setDescriptor_self]
      · cases ht
    · cases ht

/-! ### A block completed (R61, R87) -/

theorem upholds_complete (ho : (s.circuit c).state = .opened) : Upholds s (s.complete c) := by
  cases ha : (s.circuit c).recv.assembly with
  | none =>
    unfold State.complete
    rw [ha]
    exact Upholds.refl s
  | some d =>
    obtain ⟨hf, hc, hd, -, -⟩ := complete_spec ha
    have hsome : (s.circuit c).stock.assembly = some d := ha
    have hmem : d ∈ (s.circuit c).stock.collection .assembling := by simp [Stock.collection, hsome]
    have hstock : ((s.complete c).circuit c).stock = { (s.circuit c).stock with
        assembly := none, delivered := (s.circuit c).stock.delivered ++ [d] } := by rw [hc]; rfl
    have hdesc (e : DescNo) : (s.complete c).descriptor e = (s.setDescriptor d { s.descriptor d with
        state := .delivered, pages := (s.descriptor d).slots.map Slot.page, slots := []
        byteLength := some ((s.descriptor d).slots.map Slot.octets).sum }).descriptor e :=
      descriptor_of_descriptors hd e
    have alone (hs : Collected s) {k : DescState} (hk : .assembling ≠ k) : d ∉ (s.circuit c).stock.collection k :=
      hs.not_mem ((hs.member c .assembling d).1 hmem).2.1 hk
    refine (Upholds.refl s).moved hf.around d (fun e he => ?_) ?_ (fun hfit => ?_) (fun hs _ => ?_)
      (fun hs => ⟨hs.openTo hmem, ?_, ?_⟩) (fun hs _ k => ?_) fun _ _ e he k => ?_
    · rw [hdesc, descriptor_setDescriptor_ne _ _ he]
    · rw [hdesc, descriptor_setDescriptor_self]
      simp [Descriptor.held]
    · refine ⟨?_, ?_, ?_, fun h => ?_⟩
      · rw [hstock]; exact hfit.send
      · rw [hstock]
        have := hfit.received
        simp only [Stock.collection, hsome, Option.toList_some, Option.toList_none, List.length_append,
          List.length_cons, List.length_nil] at this ⊢
        omega
      · rw [hstock]; exact hfit.window
      · rw [hstock] at h
        exact absurd (show (s.circuit c).state = .offered from h) (by simp [ho])
    · have once := (hs.tidy c).once
      rw [hstock]
      refine ⟨fun k => ?_, fun k _ => ?_, (hs.tidy c).busy⟩
      · cases k with
        | assembling => exact List.nodup_nil
        | queued => exact once .queued
        | active => exact once .active
        | delivered => simpa [Stock.collection] using (once .delivered).concat (alone hs (k := .delivered) (by simp))
        | _ => exact List.nodup_nil
      · show (s.circuit c).state.mayCollect k = true
        rw [ho]; rfl
    · rw [hdesc, descriptor_setDescriptor_self]
      exact fun _ => ((hs.member c .assembling d).1 hmem).2.2
    · rw [hdesc, descriptor_setDescriptor_self]
      have hst := ((hs.member c .assembling d).1 hmem).2.1
      exact pinOk_of_unpinned (hs.unpinned (by simp [hst]) (by simp [hst]) (by simp [hst])) (by simp) (by simp)
    · rw [hdesc, descriptor_setDescriptor_self, hstock]
      cases k with
      | delivered => simp [Stock.collection, DescState.collected]
      | queued => exact iff_of_false (alone hs (k := .queued) (by simp)) (by simp)
      | active => exact iff_of_false (alone hs (k := .active) (by simp)) (by simp)
      | assembling => simp [Stock.collection]
      | _ => simp [Stock.collection]
    · rw [hstock]
      cases k <;> simp [Stock.collection, hsome, he]

/-! ### The receive arrivals (R56 to R64) -/

theorem storeSegment_state (ht : s.storeSegment c i payload = some t) : (t.circuit c).state = (s.circuit c).state := by
  unfold State.storeSegment at ht
  split at ht
  · obtain ⟨page, -, rfl⟩ := Option.map_eq_some_iff.1 ht
    rfl
  · split at ht
    · split at ht
      · cases ht
        rw [fillSlot_circuit, State.onRecv, circuit_onCircuit_self, circuit_setDescriptor]
      · cases ht
    · cases ht

theorem upholds_segCurrent (ho : (s.circuit c).state = .opened) (i : Nat) (payload : List Octet) :
    Upholds s (s.segCurrent c i payload) := by
  unfold State.segCurrent
  split
  · exact Upholds.refl s
  · split
    · exact Upholds.refl s
    · next t ht =>
      have h := upholds_storeSegment ho ht
      split
      · exact h
      · split
        · exact h.trans (upholds_complete ((storeSegment_state ht).trans ho))
        · exact h

theorem upholds_segAt (ho : (s.circuit c).state = .opened) (number : BlockNumber) (i : Nat) (payload : List Octet) :
    Upholds s (State.segAt number i payload c s) := by
  have herror := (Upholds.refl s).protocolError (c := c)
  unfold State.segAt
  split
  · exact herror
  · split
    · exact Upholds.refl s
    · exact herror
    · split
      · exact upholds_segCurrent ho ..
      · exact herror

theorem upholds_blockEndAt (ho : (s.circuit c).state = .opened) (number : BlockNumber) (n : Nat) :
    Upholds s (State.blockEndAt number n c s) := by
  have herror := (Upholds.refl s).protocolError (c := c)
  unfold State.blockEndAt
  split
  · exact herror
  · split
    · exact herror
    · exact (quiet_setAnswer ..).upholds
    · split
      · split
        · exact upholds_complete ho
        · exact (Quiet.trans (quiet_onCircuit rfl) (quiet_setAnswer ..)).upholds
      · exact herror

theorem upholds_blockAbandonAt (s : State) (c : CircuitNo) (number : BlockNumber) :
    Upholds s (State.blockAbandonAt number c s) := by
  unfold State.blockAbandonAt
  split
  · exact (Upholds.refl s).protocolError
  · exact (quiet_setAnswer ..).upholds
  · exact (Upholds.refl s).dropAssembly.quiet (Quiet.trans (quiet_onCircuit rfl) (quiet_setAnswer ..))

theorem upholds_probeAt (s : State) (c : CircuitNo) : Upholds s (State.probeAt c s) := (quiet_setAnswer ..).upholds

end

end Sys2Proof.Machine

/-! PROOFS. Records created and ended (R1, R12, R21), the moves with the link (R159 to R161), the expiries (R14, R97,
R158) and the passing of time uphold the laws of pages, holdings and collections. -/

namespace Sys2Proof.Machine

section
variable {s t u : State} {c : CircuitNo}

/-! ### Records created and ended (R1, R12, R21) -/

/-- A record that holds nothing is replaced by one that holds nothing. -/
theorem Upholds.replaced (h : Upholds s u) (hf : Around c u t) (hd : t.descriptors = u.descriptors)
    (hold : Collected s → (u.circuit c).stock.Empty) (hnew : (t.circuit c).stock.Empty)
    (hw : HoldingsLaw s → (t.circuit c).window ≤ 8) : Upholds s t where
  pages hs := pagesLaw_of_sublist (fun d => by rw [descriptor_of_descriptors hd]) (h.pages hs)
  holdings hs := hf.holdings (fun _ => hnew.fits (hw hs)) (h.holdings hs)
  collected hs := hf.collected (h.collected hs) hnew.tidy fun d =>
    .inl ⟨descriptor_of_descriptors hd d, fun k => by rw [hnew k, hold hs k]⟩

/-- A circuit in a state that allows no collection holds nothing. -/
theorem Collected.empty (h : Collected s) (hs : (s.circuit c).state = .free ∨ (s.circuit c).state = .offered) :
    (s.circuit c).stock.Empty := (h.tidy c).empty hs

theorem around_createDialled (s : State) (c : CircuitNo) (l : Label) (r : CircuitRecord) :
    Around c s (s.createDialled c l r) where
  others d hd := congrArg CircuitRecord.stock ((apart_createDialled s c l r).others d hd)
  listen := setLabel_listen ..
  txPin := congrArg (Option.map fun x : TxFrame => (x.owner, x.pin)) (setLabel_tx s l (.bound c false))

/-- The detached mark changes neither the owner nor the pin of the frame in transmission (R186). -/
theorem around_endRecord (s : State) (c : CircuitNo) : Around c s (s.endRecord c) where
  others d hd := congrArg CircuitRecord.stock ((apart_endRecord s c).others d hd)
  listen := setLabel_listen ..
  txPin := by
    have htx : (s.releaseLabel (s.circuit c).localLabel).tx = s.tx := setLabel_tx ..
    show ((s.releaseLabel (s.circuit c).localLabel).tx.map _).map _ = s.tx.map _
    rw [htx, Option.map_map]
    refine congrArg (Option.map · s.tx) (funext fun x => ?_)
    simp only [Function.comp_apply]
    split <;> rfl

/-- A record created in a FREE slot holds nothing (R1). -/
theorem upholds_createDialled (hc : s.lowestFreeCircuit = some c) (l : Label) {r : CircuitRecord}
    (hr : r.stock.Empty) (hw : HoldingsLaw s → r.window ≤ 8) : Upholds s (s.createDialled c l r) := by
  have hrec : (s.createDialled c l r).circuit c = { r with stale := (s.circuit c).stale, localLabel := l } :=
    circuit_setCircuit_self ..
  refine (Upholds.refl s).replaced (around_createDialled s c l r) (setLabel_descriptors ..)
    (fun hs => hs.empty (.inl (lowestFreeCircuit_state hc))) ?_ fun h => ?_
  · rw [hrec]; exact hr
  · rw [hrec]; exact hw h

theorem empty_free (stale : Bool) : (CircuitRecord.free stale).stock.Empty := (Stock.empty_iff _).2 ⟨rfl, rfl, rfl, rfl⟩

/-- A record that holds nothing becomes FREE (R12). -/
theorem Upholds.endRecord (h : Upholds s u) (hold : Collected s → (u.circuit c).stock.Empty) :
    Upholds s (u.endRecord c) := by
  have hrec : (u.endRecord c).circuit c = CircuitRecord.free (u.circuit c).stale := circuit_setCircuit_self ..
  refine h.replaced (around_endRecord u c) (setLabel_descriptors ..) hold ?_ fun _ => ?_
  · rw [hrec]; exact empty_free _
  · rw [hrec]; exact Nat.zero_le 8

/-- The delivery queue of a record plays no part in its end. -/
theorem endRecord_onRecv (s : State) (c : CircuitNo) (f : RecvContext → RecvContext) :
    (s.onRecv c f).endRecord c = s.endRecord c := by
  unfold State.endRecord State.releaseLabel State.setLabel State.onRecv
  rw [circuit_onCircuit_self]
  dsimp only
  split
  · simp [State.detach, State.onCircuit, State.setCircuit]
  · simp [State.detach, State.onCircuit, State.setCircuit]
    rfl

/-- The delivered blocks of a circuit are freed (R21). -/
theorem Upholds.deliveredFreed (h : Upholds s u) :
    Upholds s (((u.circuit c).recv.delivered.foldl State.freeDescriptor u).onRecv c fun x =>
      { x with delivered := [] }) := by
  have hstock : ((((u.circuit c).recv.delivered.foldl State.freeDescriptor u).onRecv c fun x =>
      { x with delivered := [] }).circuit c).stock = { (u.circuit c).stock with delivered := [] } := by
    rw [State.onRecv, circuit_onCircuit_self, circuit_foldl_free]; rfl
  refine h.emptied ((frame_foldl_free _ u c).trans (frame_onRecv ..)).around (fun k => decide (k = .delivered))
    (u.circuit c).recv.delivered (fun d => ?_) (fun d => ?_) (congrArg Stock.window hstock)
    (congrArg Stock.state hstock) (fun k => ?_) (.inr (by rw [hstock]))
  · simp [Stock.collection, CircuitRecord.stock]
  · exact foldl_freeDescriptor _ u d
  · rw [hstock]
    cases k <;> simp [Stock.collection]

theorem upholds_retireRecord (hs : (s.circuit c).state = .closed) : Upholds s (s.retireRecord c) := by
  unfold State.retireRecord
  rw [← endRecord_onRecv _ c fun x => { x with delivered := [] }]
  refine (Upholds.refl s).deliveredFreed.endRecord fun h => ?_
  have hstock : ((((s.circuit c).recv.delivered.foldl State.freeDescriptor s).onRecv c fun x =>
      { x with delivered := [] }).circuit c).stock = { (s.circuit c).stock with delivered := [] } := by
    rw [State.onRecv, circuit_onCircuit_self, circuit_foldl_free]; rfl
  have none_of (k : DescState) (hk : k ≠ .delivered) : (s.circuit c).stock.collection k = [] := by
    refine Classical.byContradiction fun hn => ?_
    have := (h.tidy c).held k hn
    rw [show (s.circuit c).stock.state = .closed from hs] at this
    exact hk (of_decide_eq_true this)
  rw [hstock]
  exact (Stock.empty_iff _).2 ⟨none_of .queued (by simp), Option.toList_eq_nil_iff.1 (none_of .active (by simp)),
    Option.toList_eq_nil_iff.1 (none_of .assembling (by simp)), rfl⟩

/-! ### Moves with the link (R159 to R161) -/

theorem upholds_leaveRecord (cause : Octet) (s : State) (c : CircuitNo) : Upholds s (s.leaveRecord cause c) := by
  have h := Upholds.refl s
  unfold State.leaveRecord
  split
  iterate 5 exact h.endCircuit ..
  iterate 2 exact h.enterDormant
  · exact h.quiet (quiet_setProtocol ..)
  · exact h

/-- The circuits that resume have no active block: a fixed circuit from DORMANT, or one rewound (R49, R159, R161). -/
theorem upholds_wakeRecord (agreed : Nat) (s : State) (c : CircuitNo) : Upholds s (s.wakeRecord agreed c) := by
  unfold State.wakeRecord
  split
  · next hk => exact (Upholds.refl s).resumed rfl fun hs => hs.no_active (by simp [hk.2])
  · exact Upholds.refl s

theorem upholds_restartRecord (s : State) (c : CircuitNo) : Upholds s (s.restartRecord c) := by
  unfold State.restartRecord
  split
  iterate 2 exact (Upholds.refl s).rewound (.inl rfl) fun _ => rfl
  exact upholds_leaveRecord ..

theorem upholds_forEachCircuit {f : State → CircuitNo → State} (hf : ∀ s c, Upholds s (f s c)) (s : State) :
    Upholds s (s.forEachCircuit f) := by
  have foldl (l : List CircuitNo) : ∀ s, Upholds s (l.foldl f s) := by
    induction l with
    | nil => exact Upholds.refl
    | cons d l ih => exact fun s => (hf s d).trans (ih _)
  exact foldl _ s

/-- A record whose resumption finds no active block, if it has one (R161). -/
def CircuitRecord.Resumable (r : CircuitRecord) : Prop :=
  r.kind = some .fixed ∧ r.state = .opened → r.send.active = none

theorem upholds_reagreeRecord (agreed : Nat) (h : (s.circuit c).Resumable) :
    Upholds s (s.reagreeRecord agreed c) := by
  unfold State.reagreeRecord
  split
  · next hk =>
    refine (Upholds.refl s).resumed (f := fun r => r.agree agreed) ?_ fun _ => h hk
    simp only [CircuitRecord.stock, CircuitRecord.agree, hk.2]
  · exact Upholds.refl s

theorem upholds_foldl_reagree (agreed : Nat) (l : List CircuitNo) (hl : l.Nodup) (s : State)
    (h : ∀ c ∈ l, (s.circuit c).Resumable) : Upholds s (l.foldl (State.reagreeRecord agreed) s) := by
  induction l generalizing s with
  | nil => exact Upholds.refl s
  | cons c l ih =>
    obtain ⟨hc, hl⟩ := List.nodup_cons.1 hl
    refine (upholds_reagreeRecord agreed (h c List.mem_cons_self)).trans (ih hl _ fun d hd => ?_)
    rw [(frame_reagreeRecord agreed s c).others d fun hdc => hc (hdc ▸ hd)]
    exact h d (List.mem_cons_of_mem _ hd)

/-- The first pass of a peer restart leaves the fixed circuits in OPEN without an active block (R161). -/
theorem restarted_resumable (r : CircuitRecord) : r.restarted.Resumable := by
  intro hk
  by_cases h : r.Runs
  · rw [restarted_of_runs h]; rfl
  · rw [restarted_of_other h] at hk
    exact absurd hk (leftUpRecord_not_opened h _)

theorem upholds_leaveUp (s : State) (cause : Octet) (follows : LinkState) : Upholds s (s.leaveUp cause follows) := by
  have hmoved := upholds_forEachCircuit (upholds_leaveRecord cause) s
  unfold State.leaveUp
  generalize s.forEachCircuit (State.leaveRecord cause) = u at hmoved
  have hloose : Quiet u { u with loose := [] } := quiet_of_eq rfl rfl rfl rfl
  exact hmoved.quiet (hloose.trans (quiet_raise ..))

theorem upholds_linkLost (s : State) : Upholds s s.linkLost := by
  have habort := upholds_abortTransmission s
  unfold State.linkLost
  split
  · exact Upholds.refl s
  · exact habort.quiet ((quiet_onLink ..).trans (quiet_raise ..))
  · exact (habort.trans (upholds_leaveUp ..)).quiet (quiet_onLink ..)
  · exact habort.quiet (quiet_onLink ..)

theorem upholds_reachUp (s : State) (offered : Nat) (identity start : Word) :
    Upholds s (s.reachUp offered identity start) :=
  ((quiet_onLink ..).upholds.trans (upholds_forEachCircuit (upholds_wakeRecord _) _)).quiet (quiet_raise ..)

theorem upholds_peerRestart (s : State) (offered : Nat) (identity start : Word) :
    Upholds s (s.peerRestart offered identity start) := by
  have hfirst := upholds_forEachCircuit upholds_restartRecord s
  have hmoved := forEachCircuit_moved restartRecord_moved s
  unfold State.peerRestart
  generalize s.forEachCircuit State.restartRecord = u at hfirst hmoved
  dsimp only
  generalize hv : State.onLink { u with loose := [] } _ = v
  have hlink : Quiet u v := hv ▸ quiet_of_eq rfl rfl rfl rfl
  have hrec (c : CircuitNo) : (v.circuit c).Resumable := by
    have hc : v.circuit c = u.circuit c := by rw [← hv]; rfl
    rw [hc, hmoved.moved c (List.mem_finRange c)]
    exact restarted_resumable (s.circuit c)
  have hsecond : Upholds v (v.forEachCircuit (State.reagreeRecord (s.agreedWith offered))) :=
    upholds_foldl_reagree _ _ (List.nodup_finRange 64) v fun c _ => hrec c
  refine ((hfirst.quiet hlink).trans hsecond).quiet ?_
  exact ((quiet_onLink ..).trans (quiet_raise ..)).trans (quiet_raise ..)

/-! ### Expiries (R14, R97, R158) -/

theorem upholds_expire (s : State) (c : CircuitNo) (purpose : TimerPurpose) {owner : State → State}
    (ho : ∀ u, Upholds u (owner u)) : Upholds s (s.expire c purpose owner) := by
  unfold State.expire
  split
  · exact (quiet_stopTimer s c).upholds.trans (ho _)
  · exact Upholds.refl s

theorem upholds_openExpired (c : CircuitNo) (s : State) : Upholds s (State.openExpired c s) := by
  unfold State.openExpired
  split
  · exact (Upholds.refl s).enterClosed ..
  · exact Upholds.refl s

/-- An OFFERED record holds nothing, and so it may end after changes behind its stock (R123, R124). -/
theorem Quiet.endOffered (h : Quiet s u) (hs : (s.circuit c).state = .offered) : Upholds s (u.endRecord c) :=
  h.upholds.endRecord fun hc => by rw [h.stock]; exact hc.empty (.inr hs)

theorem upholds_offerExpired (c : CircuitNo) (s : State) : Upholds s (State.offerExpired c s) := by
  unfold State.offerExpired
  split
  · next hs => exact Quiet.endOffered ((quiet_requestLoose ..).trans (quiet_raise ..)) hs
  · exact Upholds.refl s

theorem upholds_statusExpired (c : CircuitNo) (s : State) : Upholds s (State.statusExpired c s) := by
  unfold State.statusExpired
  split
  iterate 2 exact upholds_pollAgain ..
  exact Upholds.refl s

theorem upholds_probeExpired (c : CircuitNo) (s : State) : Upholds s (State.probeExpired c s) := by
  unfold State.probeExpired
  split
  · exact upholds_pollAgain ..
  · exact Upholds.refl s

theorem quiet_retry (s : State) (c : CircuitNo) (k : ProtocolKind) (purpose : TimerPurpose) (ms : Nat) :
    Quiet s (s.retry c k purpose ms) :=
  ((quiet_setProtocol s c (some k)).trans (quiet_onCircuit rfl)).trans (quiet_startTimer ..)

theorem upholds_closeExpired (c : CircuitNo) (s : State) : Upholds s (State.closeExpired c s) := by
  unfold State.closeExpired
  split
  · next hs =>
    split
    · exact (quiet_retry ..).upholds
    · exact (Upholds.refl s).finishClosing hs ..
  · exact Upholds.refl s

theorem upholds_rewindExpired (c : CircuitNo) (s : State) : Upholds s (State.rewindExpired c s) := by
  unfold State.rewindExpired
  split
  · split
    · exact (quiet_retry ..).upholds
    · exact (Upholds.refl s).enterClosing ..
  · exact Upholds.refl s

theorem quiet_expireLink (s : State) (purpose : LinkPurpose) {owner : State → State}
    (ho : ∀ u, Quiet u (owner u)) : Quiet s (s.expireLink purpose owner) := by
  unfold State.expireLink
  split
  · exact (quiet_onLink s _).trans (ho _)
  · exact Quiet.refl s

theorem quiet_startExpired (s : State) : Quiet s s.startExpired := by
  unfold State.startExpired
  split
  · exact quiet_of_eq rfl rfl rfl rfl
  · exact Quiet.refl s

theorem quiet_stopExpired (s : State) : Quiet s s.stopExpired := by
  unfold State.stopExpired
  split
  · exact quiet_onLink ..
  · exact Quiet.refl s

theorem quiet_setLabel (s : State) (l : Label) (e : LabelEntry) : Quiet s (s.setLabel l e) :=
  quiet_of_eq (setLabel_circuits ..) (setLabel_descriptors ..) (setLabel_listen ..) (setLabel_tx ..)

theorem quiet_restExpired (s : State) (l : Label) : Quiet s (s.restExpired l) := by
  unfold State.restExpired
  split
  · exact quiet_setLabel ..
  all_goals exact Quiet.refl s

/-! ### One millisecond (R14, R97) -/

theorem quiet_age (s : State) : Quiet s s.age := ⟨fun c => by rw [age_circuit]; rfl, rfl, rfl, rfl⟩

theorem upholds_expireDue (s : State) (c : CircuitNo) : Upholds s (s.expireDue c) := by
  unfold State.expireDue
  split
  · next purpose _ =>
    cases purpose with
    | openT => exact upholds_expire _ _ _ (upholds_openExpired c)
    | offer => exact upholds_expire _ _ _ (upholds_offerExpired c)
    | status => exact upholds_expire _ _ _ (upholds_statusExpired c)
    | probe => exact upholds_expire _ _ _ (upholds_probeExpired c)
    | close => exact upholds_expire _ _ _ (upholds_closeExpired c)
    | rewind => exact upholds_expire _ _ _ (upholds_rewindExpired c)
  · exact Upholds.refl s

theorem quiet_expireLinkDue (s : State) : Quiet s s.expireLinkDue := by
  unfold State.expireLinkDue
  split
  · exact quiet_expireLink _ _ quiet_startExpired
  · exact quiet_expireLink _ _ quiet_stopExpired
  · exact Quiet.refl s

theorem upholds_tick (s : State) : Upholds s s.tick := by
  unfold State.tick
  split
  · exact Upholds.refl s
  · exact ((quiet_age s).upholds.trans (upholds_forEachCircuit upholds_expireDue _)).quiet (quiet_expireLinkDue _)

end

end Sys2Proof.Machine

/-! PROOFS. The takings of the host commands uphold the laws of pages, holdings and collections. -/

namespace Sys2Proof.Machine

section
variable {s t u : State} {c : CircuitNo} {d : DescNo}

/-! ### Takings (R196, R198) -/

theorem Upholds.succeed (h : Upholds s t) (values : List Nat) : Upholds s (t.succeed values) :=
  h.quiet (quiet_finish ..)

theorem upholds_succeed (s : State) (values : List Nat) : Upholds s (s.succeed values) := (quiet_finish ..).upholds

theorem upholds_reject (s : State) (code : ResultCode) : Upholds s (s.reject code) := (quiet_finish ..).upholds

theorem Upholds.countFree (h : Upholds s t) (b : Bool) : Upholds s (t.countFree b) := h.quiet (quiet_countFree ..)

theorem upholds_taking (command : Instr) {body : State → State} (hb : Upholds s (body s)) :
    Upholds s (s.taking command body) := by
  unfold State.taking
  split
  · exact hb
  · exact Upholds.refl s

theorem upholds_withCircuit (n : Nat) {body : CircuitNo → State} (hb : ∀ c, Upholds s (body c)) :
    Upholds s (s.withCircuit n body) := by
  unfold State.withCircuit
  split
  · exact upholds_reject ..
  · exact hb _

/-- The limits of R6 keep the window to eight blocks. -/
theorem limitsOf_window {roundLimit policy window : Nat} {fixed : Bool} {limits : Limits}
    (h : limitsOf roundLimit policy window fixed = some limits) : limits.window ≤ 8 := by
  unfold limitsOf at h
  split at h
  · next w _ _ hw =>
    cases h
    unfold limitOf at hw
    split at hw
    · cases hw; exact Nat.le_of_ble_eq_true rfl
    · split at hw
      · next hle => cases hw; exact hle
      · cases hw
  · cases h

/-! ### The Link Supervisor's commands and LISTEN (R113, R114, R155, R162, R167, R174) -/

theorem upholds_takeSetLink (s : State) : Upholds s s.takeSetLink := by
  unfold State.takeSetLink
  split
  · exact upholds_reject ..
  · split
    · exact upholds_reject ..
    · split
      · exact upholds_reject ..
      · exact (quiet_onLink ..).upholds.succeed _

theorem upholds_takeReadLink (s : State) : Upholds s s.takeReadLink := by
  unfold State.takeReadLink
  split
  · exact (upholds_of_eq (s := s) (t := { s with linkStale := false }) rfl rfl rfl rfl).succeed _
  iterate 3 exact upholds_succeed ..
  exact upholds_reject ..

theorem upholds_takeStartLink (s : State) : Upholds s s.takeStartLink := by
  unfold State.takeStartLink
  split
  · exact upholds_reject ..
  · split
    · exact upholds_reject ..
    · exact (quiet_onLink ..).upholds.succeed _

theorem upholds_takeStopLink (s : State) : Upholds s s.takeStopLink := by
  unfold State.takeStopLink
  split
  · exact upholds_reject ..
  · exact (quiet_onLink ..).upholds.succeed _
  · refine Upholds.succeed ?_ _
    unfold State.stopFromUp State.enterStopping
    exact (upholds_leaveUp ..).quiet (quiet_onLink ..)
  · exact upholds_reject ..

/-- A slot of the listen table takes an entry with a lawful window, or none (R113, R114). -/
theorem upholds_setListen (s : State) (k : Fin 16) (e : Option ListenEntry) (he : ∀ x, e = some x → x.window ≤ 8) :
    Upholds s (s.setListen k e) where
  pages := pagesLaw_of_sublist fun _ => .refl _
  holdings h := by
    rw [holdingsLaw_iff] at h ⊢
    refine ⟨h.1, fun j x hx => ?_⟩
    rw [setListen_getElem] at hx
    split at hx
    · exact he x hx
    · exact h.2 j x hx
  collected h := h.redescribed (fun _ => rfl) (fun _ => .refl _) h.pin h.pinner

theorem upholds_takeListen (s : State) : Upholds s s.takeListen := by
  unfold State.takeListen
  split
  · split
    · exact upholds_reject ..
    · split
      · exact upholds_reject ..
      · next limits hl =>
        split
        · exact upholds_reject ..
        · refine (upholds_setListen s _ _ fun x hx => ?_).succeed _
          cases hx
          exact limitsOf_window hl
  · exact upholds_reject ..

theorem upholds_takeUnlisten (s : State) : Upholds s s.takeUnlisten := by
  unfold State.takeUnlisten
  split
  · exact upholds_reject ..
  · exact (upholds_setListen s _ none fun x hx => by cases hx).succeed _

/-! ### The Circuit Controller's commands (R18 to R21, R115 to R142, R172, R173) -/

/-- A fresh record of a window within its bound holds nothing (R3, R24, R52). -/
theorem empty_fresh {r : CircuitRecord} (hs : r.send.queue = [] ∧ r.send.active = none)
    (hr : r.recv.assembly = none ∧ r.recv.delivered = []) : r.stock.Empty :=
  (Stock.empty_iff _).2 ⟨hs.1, stock_of_no_active hs.2, hr.1, hr.2⟩

theorem upholds_takeOpen (s : State) : Upholds s s.takeOpen := by
  unfold State.takeOpen
  split
  · exact upholds_reject ..
  · split
    · exact upholds_reject ..
    · split
      · exact upholds_reject ..
      · next limits hl =>
        unfold State.openCircuit
        split
        · exact upholds_reject ..
        · split
          · exact upholds_reject ..
          · split
            · exact upholds_reject ..
            · exact upholds_reject ..
            · next hc _ =>
              exact (upholds_createDialled hc _ (empty_fresh ⟨rfl, rfl⟩ ⟨rfl, rfl⟩) fun _ =>
                limitsOf_window hl).succeed _

/-- An OFFERED record opens with a window of its own and resumes (R122). -/
theorem upholds_acceptOffer (hs : (s.circuit c).state = .offered) {limits : Limits} (hw : limits.window ≤ 8)
    (agreed : Nat) : Upholds s (s.acceptOffer c limits agreed) := by
  unfold State.acceptOffer
  generalize ht : s.onCircuit c _ = t
  have hrec : t.circuit c = { (s.circuit c).enter .opened with
      maxSegments := some agreed, window := limits.window, roundLimit := limits.roundLimit
      policy := some limits.policy, protocol := some .accept } := by rw [← ht, circuit_onCircuit_self]
  have hempty (h : Collected s) : (s.circuit c).stock.Empty := h.empty (.inr hs)
  have hnew (h : (s.circuit c).stock.Empty) : (t.circuit c).stock.Empty := by
    rw [hrec]
    exact (Stock.empty_iff _).2 ((Stock.empty_iff _).1 h)
  have hd : t.descriptors = s.descriptors := by rw [← ht]; rfl
  have hf : Around c s t := ht ▸ (frame_onCircuit ..).around
  have hopened : Upholds s t := by
    refine ⟨pagesLaw_of_sublist fun e => by rw [descriptor_of_descriptors hd], hf.holdings fun hfit => ?_,
      fun h => hf.collected h (hnew (hempty h)).tidy fun e =>
        .inl ⟨descriptor_of_descriptors hd e, fun k => by rw [hnew (hempty h) k, hempty h k]⟩⟩
    refine (hnew (hfit.offered hs)).fits ?_
    rw [hrec]
    exact hw
  refine hopened.startDecision (fun h => ?_) false
  rw [hrec]
  exact ⟨rfl, no_active_of_stock ((Stock.empty_iff _).1 (hempty h)).2.1⟩

theorem upholds_takeAnswerCommand (s : State) : Upholds s s.takeAnswerCommand := by
  refine upholds_withCircuit _ fun c => ?_
  split
  · exact upholds_reject ..
  · next hs =>
    have hs := Classical.byContradiction hs
    split
    · split
      · exact upholds_reject ..
      · split
        · exact upholds_reject ..
        · next hl => exact (upholds_acceptOffer hs (limitsOf_window hl) _).succeed _
    · exact ((Quiet.endOffered (quiet_requestLoose ..) hs).countFree _).succeed _
    · exact upholds_reject ..

theorem upholds_takeClose (s : State) : Upholds s s.takeClose := by
  refine upholds_withCircuit _ fun c => ?_
  unfold State.closeCircuit
  split
  · exact (((Upholds.refl s).enterClosed ..).countFree _).succeed _
  iterate 2 exact (((Upholds.refl s).enterClosing ..).countFree _).succeed _
  exact upholds_reject ..

theorem upholds_takeRewind (s : State) : Upholds s s.takeRewind := by
  refine upholds_withCircuit _ fun c => ?_
  split
  · exact ((Upholds.refl s).enterRewinding ..).succeed _
  · exact upholds_reject ..

theorem upholds_takeRetire (s : State) : Upholds s s.takeRetire := by
  refine upholds_withCircuit _ fun c => ?_
  split
  · next hs => exact (upholds_retireRecord hs).succeed _
  · exact upholds_reject ..

/-- A fixed record put in a FREE slot holds nothing (R172). -/
theorem upholds_fixCircuit (s : State) (peer : Label) (service : Word) (maximum : Nat) {limits : Limits}
    (hw : limits.window ≤ 8) : Upholds s (s.fixCircuit peer service maximum limits) := by
  unfold State.fixCircuit
  split
  · exact upholds_reject ..
  · split
    · exact upholds_reject ..
    · split
      · exact upholds_reject ..
      · split
        · exact upholds_reject ..
        · next l _ _ _ c hc =>
          have hlabel := quiet_setLabel s l (.bound c true)
          refine (hlabel.upholds.replaced (c := c) (frame_setCircuit ..).around rfl (fun h => ?_) ?_
            fun _ => ?_).succeed _
          · rw [hlabel.stock]; exact h.empty (.inl (lowestFreeCircuit_state hc))
          · rw [circuit_setCircuit_self]; exact empty_fresh ⟨rfl, rfl⟩ ⟨rfl, rfl⟩
          · rw [circuit_setCircuit_self]; exact hw

theorem upholds_takeFix (s : State) : Upholds s s.takeFix := by
  unfold State.takeFix
  split
  · split
    · exact upholds_reject ..
    · split
      · exact upholds_reject ..
      · next hl => exact upholds_fixCircuit _ _ _ _ (limitsOf_window hl)
  · exact upholds_reject ..

theorem upholds_takeUnfix (s : State) : Upholds s s.takeUnfix := by
  refine upholds_withCircuit _ fun c => ?_
  split
  · exact ((Upholds.refl s).toClosed ..).succeed _
  · exact upholds_reject ..

theorem upholds_takeReadCircuit (s : State) : Upholds s s.takeReadCircuit := by
  unfold State.takeReadCircuit
  split
  · split
    · exact upholds_reject ..
    · split
      · exact Upholds.succeed (quiet_onCircuit rfl).upholds _
      · exact upholds_succeed ..
  · exact upholds_reject ..

/-- A circuit's window changes to one that its received blocks fit (R20, R53). -/
theorem upholds_setLimits {limits : Limits} (hw : limits.window ≤ 8)
    (hr : (s.circuit c).receivedBlocks ≤ limits.window) : Upholds s (s.onCircuit c fun r => r.setLimits limits) := by
  have hstock : ((s.onCircuit c fun r => r.setLimits limits).circuit c).stock =
      { (s.circuit c).stock with window := limits.window } := by
    rw [circuit_onCircuit_self]
    exact offerReady_stock _
  have hk (k : DescState) : ((s.onCircuit c fun r => r.setLimits limits).circuit c).stock.collection k =
      (s.circuit c).stock.collection k := by rw [hstock]; cases k <;> rfl
  refine (Upholds.refl s).around (frame_onCircuit ..).around (fun _ => .refl _) (fun hfit => ?_) fun hs _ =>
    ⟨(hs.tidy c).of_eq hk ?_ ?_, fun d => .inl ⟨rfl, fun k => by rw [hk]⟩⟩
  · rw [receivedBlocks_eq] at hr
    refine ⟨?_, ?_, ?_, fun ho k => ?_⟩
    · rw [hk, hk]; exact hfit.send
    · rw [hk, hk, hstock]; exact hr
    · rw [hstock]; exact hw
    · rw [hk]
      rw [hstock] at ho
      exact hfit.offered ho k
  · rw [hstock]; exact (hs.tidy c).held
  · rw [hstock]; exact (hs.tidy c).busy

theorem upholds_takeSetCircuit (s : State) : Upholds s s.takeSetCircuit := by
  refine upholds_withCircuit _ fun c => ?_
  split
  · exact upholds_reject ..
  · next hl =>
    split
    · exact upholds_reject ..
    · next hr => exact (upholds_setLimits (limitsOf_window hl) (Nat.le_of_not_lt hr)).succeed _

/-! ### ALLOC, FREE, SUBMIT and TAKE (R26, R70, R82, R84) -/

/-- A FREE descriptor takes pages of the pool for the host to fill (R82). -/
theorem upholds_alloc (hd : (s.descriptor d).state = .free) {pages : List Nat} (hn : pages.Nodup)
    (hp : ∀ p ∈ pages, s.pageFree p = true) : Upholds s (s.setDescriptor d (fillingDescriptor pages)) := by
  have hself : (s.setDescriptor d (fillingDescriptor pages)).descriptor d = fillingDescriptor pages :=
    descriptor_setDescriptor_self ..
  have hheld : (fillingDescriptor pages).held = pages := by
    simp [fillingDescriptor, Descriptor.held, Descriptor.free]
  refine ⟨pagesLaw_of_free (d := d) (fun e he => descriptor_setDescriptor_ne _ _ he) (fun _ => ?_) fun p hm => ?_,
    holdingsLaw_of_stock (fun c => by rw [circuit_setDescriptor]) rfl, fun h => ?_⟩
  · rw [hself, hheld]; exact hn
  · rw [hself, hheld] at hm; exact .inr (hp p hm)
  · refine h.redescribed_one (d := d) (fun c => by rw [circuit_setDescriptor])
      (fun e he => descriptor_setDescriptor_ne _ _ he) ?_ ?_ rfl
    · rw [hself]; exact .inr ⟨rfl, by rw [hd]; rfl⟩
    · rw [hself]
      exact pinOk_of_unpinned (h.unpinned (by simp [hd]) (by simp [hd]) (by simp [hd]))
        (by simp [fillingDescriptor]) (by simp [fillingDescriptor])

theorem upholds_takeAlloc (s : State) : Upholds s s.takeAlloc := by
  unfold State.takeAlloc
  dsimp only
  split
  · exact upholds_reject ..
  · split
    · exact upholds_reject ..
    · next d hd =>
      split
      · exact upholds_reject ..
      · exact (upholds_alloc (lowestFreeDescriptor_state hd) (choosePages_nodup ..) (choosePages_free s _)).succeed _

theorem descriptorIn_state {n : Nat} {states : List DescState} (h : s.descriptorIn n states = some d) :
    (s.descriptor d).state ∈ states := by
  obtain ⟨-, hd⟩ := Option.filter_eq_some_iff.1 h
  simpa using hd

/-- A descriptor in no collection is freed (R81, R84). -/
theorem upholds_freeDescriptor (hd : (s.descriptor d).state.collected = false) : Upholds s (s.freeDescriptor d) := by
  rw [freeDescriptor_eq]
  have hself : (s.setDescriptor d (freed s d)).descriptor d = freed s d := descriptor_setDescriptor_self ..
  refine ⟨pagesLaw_of_sublist fun e => ?_, holdingsLaw_of_stock (fun c => by rw [circuit_setDescriptor]) rfl,
    fun h => h.redescribed_one (d := d) (fun c => by rw [circuit_setDescriptor])
      (fun e he => descriptor_setDescriptor_ne _ _ he) ?_ ?_ rfl⟩
  · by_cases he : e = d
    · rw [he, hself]; exact freed_held s d
    · rw [descriptor_setDescriptor_ne _ _ he]
  · rw [hself]; exact .inr ⟨freed_state s d, hd⟩
  · rw [hself]; exact pinOk_freed s d

theorem upholds_takeFree (s : State) : Upholds s s.takeFree := by
  unfold State.takeFree
  split
  · exact upholds_reject ..
  · next d hd =>
    refine (upholds_freeDescriptor ?_).succeed _
    have hm := descriptorIn_state hd
    simp only [List.mem_cons, List.not_mem_nil, or_false] at hm
    rcases hm with hm | hm <;> rw [hm] <;> rfl

/-- A FILLING descriptor joins the send queue of a circuit that takes it and has room (R26, R27). -/
theorem upholds_enqueue (hd : (s.descriptor d).state = .filling) (hc : (s.circuit c).state.takesSubmit = true)
    (hroom : (s.circuit c).send.blocks.length < Config.sendCapacity) (length : Nat) (tag : Word) :
    Upholds s (s.enqueue c d length tag) := by
  have hstock : ((s.enqueue c d length tag).circuit c).stock =
      { (s.circuit c).stock with queue := (s.circuit c).stock.queue ++ [d] } := by
    unfold State.enqueue State.onSend
    rw [circuit_onCircuit_self]; rfl
  have hself : (s.enqueue c d length tag).descriptor d = { s.descriptor d with
      state := .queued, circuit := some c, byteLength := some length, tag := some tag } :=
    descriptor_setDescriptor_self ..
  have absent (hs : Collected s) (k : DescState) : d ∉ (s.circuit c).stock.collection k := by
    intro hm
    have hk := (hs.member c k d).1 hm
    rw [hd] at hk
    rw [← hk.2.1] at hk
    cases hk.1
  refine (Upholds.refl s).moved ((frame_onDescriptor s c d _).trans (frame_onSend ..)).around d
    (fun e he => descriptor_setDescriptor_ne _ _ he) (by rw [hself]; exact .refl _) (fun hfit => ?_) (fun hs _ => ?_)
    (fun hs => ⟨openTo_of_uncollected (by rw [hd]; rfl) c, ?_, ?_⟩) (fun hs _ k => ?_) fun _ _ e he k => ?_
  · refine ⟨?_, ?_, ?_, fun h => ?_⟩
    · rw [blocks_eq, List.length_append] at hroom
      rw [hstock]
      simp only [Stock.collection, List.length_append, List.length_cons, List.length_nil] at hroom ⊢
      omega
    · rw [hstock]; exact hfit.received
    · rw [hstock]; exact hfit.window
    · rw [hstock] at h
      rw [show (s.circuit c).state = .offered from h] at hc
      cases hc
  · have once := (hs.tidy c).once
    rw [hstock]
    refine ⟨fun k => ?_, fun k hn => ?_, (hs.tidy c).busy⟩
    · cases k with
      | queued => simpa [Stock.collection] using (once .queued).concat (absent hs .queued)
      | active => exact once .active
      | assembling => exact once .assembling
      | delivered => exact once .delivered
      | _ => exact List.nodup_nil
    · have held := (hs.tidy c).held k
      revert held
      show ((s.circuit c).stock.collection k ≠ [] → (s.circuit c).state.mayCollect k = true) →
        (s.circuit c).state.mayCollect k = true
      cases k with
      | queued =>
        intro _
        cases hq : (s.circuit c).state <;> simp_all [CircuitState.takesSubmit, CircuitState.mayCollect]
      | _ => exact fun held => held hn
  · rw [hself]; exact fun _ => rfl
  · rw [hself]; exact pinOk_of_sending (.inl rfl)
  · have hk := absent hs k
    rw [hself, hstock]
    cases k with
    | queued => simp [Stock.collection, DescState.collected]
    | assembling => exact iff_of_false hk (by simp)
    | active => exact iff_of_false hk (by simp)
    | delivered => exact iff_of_false hk (by simp)
    | _ => exact iff_of_false hk (by simp)
  · rw [hstock]
    cases k <;> simp [Stock.collection, he]

theorem Upholds.startIfIdle (h : Upholds s u) : Upholds s (u.startIfIdle c) := by
  unfold State.startIfIdle
  split
  · next hs =>
    exact h.startDecision (fun hc => ⟨hs.1, (h.collected hc).no_active_of_sender (by rw [hs.2]; rfl)⟩) false
  · exact h

theorem upholds_takeSubmit (s : State) : Upholds s s.takeSubmit := by
  refine upholds_withCircuit _ fun c => ?_
  split
  · exact upholds_reject ..
  · next d hd =>
    have hfilling : (s.descriptor d).state = .filling := by simpa using descriptorIn_state hd
    unfold State.submitTo
    dsimp only
    split
    · exact upholds_reject ..
    · next hc =>
      iterate 2
        split
        · exact upholds_reject ..
      split
      · exact upholds_reject ..
      · next hroom =>
        exact (((upholds_enqueue hfilling (by simpa using hc) (Nat.lt_of_not_le hroom) ..).startIfIdle).countFree
          _).succeed _

/-- The head of the delivery queue passes to the host (R70). -/
theorem upholds_takeHead {rest : List DescNo} (hq : (s.circuit c).recv.delivered = d :: rest) :
    Upholds s (s.takeHead c d rest) := by
  have hqueue : (s.circuit c).stock.delivered = d :: rest := hq
  have hmem : d ∈ (s.circuit c).stock.collection .delivered := by
    show d ∈ (s.circuit c).stock.delivered
    rw [hqueue]; exact List.mem_cons_self
  have hstock : ((s.takeHead c d rest).circuit c).stock = { (s.circuit c).stock with delivered := rest } := by
    unfold State.takeHead State.onRecv
    rw [circuit_onCircuit_self, offerReady_stock, circuit_onCircuit_self]; rfl
  have hself : (s.takeHead c d rest).descriptor d = { s.descriptor d with state := .held } :=
    descriptor_setDescriptor_self ..
  have alone (hs : Collected s) {k : DescState} (hk : .delivered ≠ k) : d ∉ (s.circuit c).stock.collection k :=
    hs.not_mem ((hs.member c .delivered d).1 hmem).2.1 hk
  have once (hs : Collected s) : d ∉ rest ∧ rest.Nodup :=
    List.nodup_cons.1 (hqueue ▸ (hs.tidy c).once .delivered)
  have hsub (k : DescState) :
      (((s.takeHead c d rest).circuit c).stock.collection k).Sublist ((s.circuit c).stock.collection k) := by
    rw [hstock]
    cases k with
    | delivered =>
      show rest.Sublist (s.circuit c).stock.delivered
      rw [hqueue]; exact List.sublist_cons_self ..
    | _ => exact .refl _
  refine (Upholds.refl s).moved
    (((frame_onDescriptor s c d _).trans (frame_onRecv ..)).trans (frame_onCircuit ..)).around d
    (fun e he => descriptor_setDescriptor_ne _ _ he) (by rw [hself]; exact .refl _)
    (fun hfit => hfit.of_le (by rw [hstock]) (fun k => (hsub k).length_le)
      fun ho => by rw [hstock] at ho; exact ho) (fun hs _ => ⟨fun k => ?_, fun k hn => ?_, ?_⟩)
    (fun hs => ⟨hs.openTo hmem, ?_, ?_⟩) (fun hs _ k => ?_) fun _ _ e he k => ?_
  · exact ((hs.tidy c).once k).sublist (hsub k)
  · rw [hstock]
    exact (hs.tidy c).held k fun h => hn (List.sublist_nil.1 (h ▸ hsub k))
  · rw [hstock]; exact (hs.tidy c).busy
  · rw [hself]; exact fun hk => by cases hk
  · have hst := ((hs.member c .delivered d).1 hmem).2.1
    rw [hself]
    exact pinOk_of_unpinned (hs.unpinned (by simp [hst]) (by simp [hst]) (by simp [hst])) (by simp) (by simp)
  · refine iff_of_false (fun hm => ?_) ?_
    · by_cases hk : k = .delivered
      · subst hk
        rw [hstock] at hm
        exact (once hs).1 hm
      · exact alone hs (Ne.symm hk) ((hsub k).subset hm)
    · rw [hself]
      rintro ⟨hk, rfl⟩
      cases hk
  · rw [hstock]
    cases k <;> simp [Stock.collection, hqueue, he]

theorem upholds_takeTake (s : State) : Upholds s s.takeTake := by
  refine upholds_withCircuit _ fun c => ?_
  split
  · exact upholds_reject ..
  · split
    · exact upholds_reject ..
    · next hq => exact (upholds_takeHead hq).succeed _

/-! ### The commands that only read (R92, R93, R109, R114) -/

theorem upholds_takeReadDescriptor (s : State) : Upholds s s.takeReadDescriptor := by
  unfold State.takeReadDescriptor
  split
  · exact upholds_reject ..
  · split
    · exact upholds_reject ..
    · split
      iterate 2 exact upholds_succeed ..

theorem upholds_takeReadLabel (s : State) : Upholds s s.takeReadLabel := by
  unfold State.takeReadLabel
  split
  · exact upholds_reject ..
  · split
    iterate 2 exact upholds_succeed ..

theorem upholds_takeReadListen (s : State) : Upholds s s.takeReadListen := by
  unfold State.takeReadListen
  split
  · exact upholds_succeed ..
  · exact upholds_reject ..

/-! ### INITIALISE and the RESET input (R199, R201) -/

/-- With every record empty, every descriptor FREE and no frame in transmission, the laws of pages and collections
hold. -/
theorem upholds_cleared (he : ∀ c, (t.circuit c).stock.Empty) (hd : ∀ d, t.descriptor d = Descriptor.free)
    (hx : t.tx = none)
    (hw : HoldingsLaw s → (∀ c, (t.circuit c).window ≤ 8) ∧
      ∀ (k : Fin 16) (e : ListenEntry), t.listen[k.val] = some e → e.window ≤ 8) : Upholds s t where
  pages _ := (pagesLaw_iff t).2
    ⟨fun d => by rw [hd]; exact ⟨List.nodup_nil, fun p hp => by cases hp⟩, fun d e _ => by
      rw [hd]; exact List.disjoint_nil_left _⟩
  holdings hs := (holdingsLaw_iff t).2 ⟨fun c => (he c).fits ((hw hs).1 c), (hw hs).2⟩
  collected _ :=
    { member := fun c k d => by
        rw [he c k, hd]
        refine iff_of_false (by simp) ?_
        rintro ⟨hk, rfl, -⟩
        cases hk
      owned := fun d hk => by rw [hd] at hk; cases hk
      tidy := fun c => (he c).tidy
      pin := fun d => by
        rw [hd]
        refine ⟨fun hn => ?_, fun hr => (by cases hr), fun _ => rfl⟩
        simp [State.pinnedDescriptor, hx] at hn
      pinner := fun x h => by rw [hx] at h; cases h }

theorem initialised_stock (r : CircuitRecord) : r.initialised.stock.Empty := by
  unfold CircuitRecord.initialised
  split
  · exact empty_fresh ⟨rfl, rfl⟩ ⟨rfl, rfl⟩
  · exact empty_free _

theorem initialised_window (r : CircuitRecord) (h : r.window ≤ 8) : r.initialised.window ≤ 8 := by
  unfold CircuitRecord.initialised
  split
  · exact h
  · exact Nat.zero_le 8

theorem upholds_takeInitialise (s : State) : Upholds s s.takeInitialise := by
  refine upholds_cleared (fun c => ?_) (takeInitialise_descriptor s) ?_ fun h => ⟨fun c => ?_, fun k e he => ?_⟩
  · rw [takeInitialise_circuit]; exact initialised_stock _
  · rw [takeInitialise_eq]
  · rw [takeInitialise_circuit]; exact initialised_window _ (h.window c)
  · rw [takeInitialise_eq] at he; exact h.listen k e he

end

end Sys2Proof.Machine

/-! PROOFS. The arrivals, and so every row and every step, under the laws of pages, holdings and collections: the
settling of PagesAreKept, HoldingsAreKept and CollectionsAreKept. -/

namespace Sys2Proof.Machine

section
variable {s t : State} {c : CircuitNo}

/-! ### Arrivals (R102 to R104, R180) -/

theorem upholds_arrive (s : State) (f : Frame) {owner : State → State} (ho : ∀ u, Upholds u (owner u)) :
    Upholds s (s.arrive f owner) := by
  have hheard : Upholds s { s with receiver := Receiver.opened } := upholds_of_eq rfl rfl rfl rfl
  unfold State.arrive
  split
  · split
    · exact hheard.trans (ho _)
    · exact hheard
  · exact Upholds.refl s

theorem upholds_dispatch (s : State) (dst : Label) {bound : CircuitNo → State → State} {unbound : State → State}
    (hb : ∀ c, Upholds s (bound c s)) (hu : Upholds s (unbound s)) : Upholds s (s.dispatch dst bound unbound) := by
  unfold State.dispatch
  split
  · split
    · exact hb _
    · exact hu
    · exact hu
  · exact Upholds.refl s

theorem upholds_dispatchOpen (s : State) (dst : Label) {taken : CircuitNo → State → State}
    (ht : ∀ c, (s.circuit c).state = .opened → Upholds s (taken c s)) : Upholds s (s.dispatchOpen dst taken) := by
  refine upholds_dispatch s dst (fun c => ?_) (Upholds.refl s)
  split
  · next hs => exact ht c hs
  · exact Upholds.refl s

/-! ### OPEN (R117) -/

/-- The listen entry of a service is in the table. -/
theorem listenEntry_window (h : HoldingsLaw s) {service : Word} {e : ListenEntry}
    (he : s.listenEntry service = some e) : e.window ≤ 8 := by
  obtain ⟨k, -, hk⟩ := Option.bind_eq_some_iff.1 he
  exact h.listen k e hk

theorem upholds_openListed (s : State) (x : OpenFields) : Upholds s (s.openListed x) := by
  have refused (cause : Octet) : Upholds s (s.refuseOpen x.src cause) := (quiet_requestLoose ..).upholds
  unfold State.openListed
  split
  · exact refused _
  · split
    · exact refused _
    · next e he =>
      split
      · next hc _ =>
        have created {l : Label} {r : CircuitRecord} (hr : r.stock.Empty) (hw : r.window = e.window) :=
          upholds_createDialled hc l hr fun h => hw ▸ listenEntry_window h he
        split
        · exact (created (r := autoRecord x e _) (empty_fresh ⟨rfl, rfl⟩ ⟨rfl, rfl⟩) rfl).quiet (quiet_raise ..)
        · exact (created (r := offeredRecord x e _) (empty_fresh ⟨rfl, rfl⟩ ⟨rfl, rfl⟩) rfl).quiet (quiet_raise ..)
      · exact refused _

theorem upholds_openFrameAt (s : State) (dst : Label) (x : OpenFields) : Upholds s (s.openFrameAt dst x) := by
  unfold State.openFrameAt
  split
  · unfold State.openAt
    split
    · exact upholds_openListed ..
    · split
      · exact (quiet_requestLoose ..).upholds
      · exact ((Upholds.refl s).endCircuit ..).trans (upholds_openListed ..)
  · exact Upholds.refl s

/-! ### ACCEPT (R127, R128) -/

/-- An OPENING record opens, and its queue may start (R128). -/
theorem upholds_openByAccept (hs : (s.circuit c).state = .opening) (src : Label) (agreed : Nat) :
    Upholds s (s.openByAccept c src agreed) := by
  unfold State.openByAccept
  dsimp only
  generalize ht : s.onCircuit c _ = t
  have hrec : t.circuit c = { (s.circuit c).enter .opened with
      peerLabel := some src, maxSegments := some agreed, openRequest := none
      protocol := (s.circuit c).withoutPending .openK, send := { (s.circuit c).send with peerReady := true } } := by
    rw [← ht, circuit_onCircuit_self]
  have hopened : Upholds s t := ht ▸ (Upholds.refl s).moves (x := .opened) (.inl rfl) rfl fun _ h => absurd rfl h
  obtain ⟨b, hb⟩ := raise_circuit t ((t.circuit c).openedEvent c) c
  refine (hopened.quiet (quiet_raise t _)).startDecision (fun h => ?_) false
  rw [hb, hrec]
  exact ⟨rfl, h.no_active (by simp [hs])⟩

theorem upholds_refuseAccept (s : State) (c : CircuitNo) (src : Label) : Upholds s (s.refuseAccept c src) :=
  (quiet_requestLoose ..).upholds.enterClosed ..

theorem upholds_acceptOpening (hs : (s.circuit c).state = .opening) (src : Label) (agreed : Nat) :
    Upholds s (s.acceptOpening c src agreed) := by
  unfold State.acceptOpening
  split
  · split
    · exact upholds_openByAccept hs ..
    · next d hd =>
      split
      · exact upholds_refuseAccept ..
      · have hm := peerHolder_holds hd
        have hne : c ≠ d := by
          rintro rfl
          rw [hs] at hm
          cases hm
        have hs' : ((s.endCircuit d Cause.stale).circuit c).state = .opening := by
          rw [(frame_endCircuit ..).others c hne, hs]
        exact ((Upholds.refl s).endCircuit ..).trans (upholds_openByAccept hs' ..)
  · exact upholds_refuseAccept ..

theorem upholds_acceptAt (s : State) (dst src : Label) (agreed : Octet) :
    Upholds s (s.acceptAt dst src agreed) := by
  have stale : Upholds s (s.requestLoose (staleClose dst src)) := (quiet_requestLoose ..).upholds
  unfold State.acceptAt
  split
  · exact Upholds.refl s
  · refine upholds_dispatch s dst (fun c => ?_) stale
    split
    · next hs => exact upholds_acceptOpening hs ..
    · exact stale

/-! ### REFUSE, CLOSE, CLOSE-DONE, REWIND and REWIND-DONE (R130, R138, R139, R146 to R148) -/

theorem upholds_refuseAt (s : State) (dst : Label) (cause diagnostic : Octet) :
    Upholds s (s.refuseAt dst cause diagnostic) := by
  refine upholds_dispatch s dst (fun c => ?_) (Upholds.refl s)
  split
  · exact (Upholds.refl s).enterClosed ..
  · exact Upholds.refl s

theorem upholds_closeDialled (s : State) (c : CircuitNo) (dst src : Label) (cause diagnostic : Octet) :
    Upholds s (s.closeDialled c dst src cause diagnostic) := by
  unfold State.closeDialled
  split
  iterate 2 exact (Upholds.refl s).enterClosed ..
  · next hs => exact (Upholds.refl s).finishClosing hs ..
  · unfold State.closeRepeated
    split
    · exact (quiet_setProtocol ..).upholds
    · exact (quiet_requestLoose ..).upholds
  all_goals exact Upholds.refl s

theorem upholds_closeAt (s : State) (dst src : Label) (cause diagnostic : Octet) :
    Upholds s (s.closeAt dst src cause diagnostic) := by
  unfold State.closeAt
  split
  · exact Upholds.refl s
  · refine upholds_dispatch s dst (fun c => ?_) (quiet_requestLoose ..).upholds
    split
    · exact Upholds.refl s
    · exact upholds_closeDialled ..

theorem upholds_closeDoneAt (s : State) (dst : Label) : Upholds s (s.closeDoneAt dst) := by
  refine upholds_dispatch s dst (fun c => ?_) (Upholds.refl s)
  split
  · next hs => exact (Upholds.refl s).finishClosing hs ..
  · exact Upholds.refl s

theorem upholds_rewindTaken (s : State) (c : CircuitNo) (cause : Octet) : Upholds s (s.rewindTaken c cause) := by
  unfold State.rewindTaken
  split
  · next hs => exact upholds_rewindInOpen hs _
  · next hs => exact (Upholds.refl s).finishRewinding hs _
  all_goals exact Upholds.refl s

theorem upholds_rewindDoneTaken (s : State) (c : CircuitNo) : Upholds s (s.rewindDoneTaken c) := by
  unfold State.rewindDoneTaken
  split
  · next hs => exact (Upholds.refl s).finishRewinding hs _
  · exact Upholds.refl s

/-! ### Link frames (R163 to R168) -/

theorem upholds_setPendingLink (s : State) (p : Option PendingLink) : Upholds s (s.setPendingLink p) :=
  (quiet_onLink ..).upholds

theorem upholds_startTaken (s : State) (maxSegments : Octet) (identity startNumber : Word) :
    Upholds s (s.startTaken maxSegments identity startNumber) := by
  unfold State.startTaken
  split
  · exact (upholds_setPendingLink ..).trans (upholds_reachUp ..)
  · split
    · exact upholds_setPendingLink ..
    · exact upholds_peerRestart ..
  all_goals exact Upholds.refl s

theorem upholds_linkStartAt (s : State) (version maxSegments : Octet) (identity startNumber : Word) :
    Upholds s (s.linkStartAt version maxSegments identity startNumber) := by
  unfold State.linkStartAt
  split
  · exact Upholds.refl s
  · split
    · unfold State.loopSeen
      split
      · exact ((quiet_onLink ..).trans (quiet_raise ..)).upholds
      · exact Upholds.refl s
    · split
      · exact upholds_setPendingLink ..
      · split
        · exact upholds_startTaken ..
        · exact Upholds.refl s

theorem upholds_linkAgreeAt (s : State) (maxSegments : Octet) (identity startNumber : Word) :
    Upholds s (s.linkAgreeAt maxSegments identity startNumber) := by
  unfold State.linkAgreeAt
  split
  · exact (upholds_setPendingLink ..).trans (upholds_reachUp ..)
  · exact Upholds.refl s

theorem upholds_linkStopAt (s : State) (cause : Octet) : Upholds s (s.linkStopAt cause) := by
  have hnote : Quiet s (s.noteStop cause) := quiet_onLink ..
  unfold State.linkStopAt
  split
  · exact Upholds.refl s
  · exact hnote.upholds
  · unfold State.enterStopping
    exact (hnote.upholds.trans (upholds_leaveUp ..)).quiet (quiet_onLink ..)
  · exact hnote.upholds.quiet (quiet_onLink ..)

/-! ### The Command Port and the packet memory (R90, R194) -/

theorem quiet_writeRegister (s : State) (address : WordAddress) (value : Word) :
    Quiet s (s.writeRegister address value) := by
  unfold State.writeRegister State.writeCommand State.writeParam
  dsimp only
  repeat' split
  all_goals exact quiet_of_eq rfl rfl rfl rfl

theorem quiet_reportRefusal (s : State) (p : Nat) : Quiet s (s.reportRefusal p) := by
  unfold State.reportRefusal
  split
  · exact Quiet.refl s
  · exact (quiet_of_eq (s := s) (t := { s with latch := some p }) rfl rfl rfl rfl).trans (quiet_raise ..)

theorem quiet_readPacket (s : State) (address : WordAddress) : Quiet s (s.readPacket address) := by
  unfold State.readPacket
  split
  · exact quiet_of_eq rfl rfl rfl rfl
  · split
    · exact quiet_of_eq rfl rfl rfl rfl
    · exact (quiet_of_eq (s := s) (t := { s with dataBus := 0 }) rfl rfl rfl rfl).trans (quiet_reportRefusal ..)

theorem quiet_writePacket (s : State) (address : WordAddress) (value : Word) :
    Quiet s (s.writePacket address value) := by
  unfold State.writePacket
  split
  · exact Quiet.refl s
  · split
    · exact quiet_of_eq rfl rfl rfl rfl
    · exact quiet_reportRefusal ..

/-! ### Every row and every step -/

/-- The laws kept, where an outcome is a state. -/
def UpholdsOutcome (s : State) : Host.Outcome State Fault Refusal → Prop
  | .next t => Upholds s t
  | .fault _ => True
  | .refused _ => True

/-- The RESET input leaves the records, descriptors and listen table of the state after reset (R201). -/
theorem upholds_hardwareReset (hc : t.circuits = State.reset.circuits) (hd : t.descriptors = State.reset.descriptors)
    (hl : t.listen = State.reset.listen) (hx : t.tx = none) : Upholds s t := by
  have hrec (c : CircuitNo) : t.circuit c = CircuitRecord.free false :=
    (circuit_of_circuits hc c).trans (reset_circuit c)
  refine upholds_cleared (fun c => ?_) (fun d => ?_) hx fun _ => ⟨fun c => ?_, fun k e he => ?_⟩
  · rw [hrec]; exact empty_free false
  · rw [descriptor_of_descriptors hd, reset_descriptor]
  · rw [hrec]; exact Nat.zero_le 8
  · rw [hl, reset_listen] at he; cases he

/-- Every row of the table keeps the laws of pages, holdings and collections. -/
theorem exec_upholds (s : State) (i : Instr) : UpholdsOutcome s (exec i s) := by
  cases i with
  | setLink => exact upholds_taking _ (upholds_takeSetLink s)
  | readLink => exact upholds_taking _ (upholds_takeReadLink s)
  | startLink => exact upholds_taking _ (upholds_takeStartLink s)
  | stopLink => exact upholds_taking _ (upholds_takeStopLink s)
  | listen => exact upholds_taking _ (upholds_takeListen s)
  | unlisten => exact upholds_taking _ (upholds_takeUnlisten s)
  | readListen => exact upholds_taking _ (upholds_takeReadListen s)
  | openCommand => exact upholds_taking _ (upholds_takeOpen s)
  | answer => exact upholds_taking _ (upholds_takeAnswerCommand s)
  | closeCommand => exact upholds_taking _ (upholds_takeClose s)
  | rewindCommand => exact upholds_taking _ (upholds_takeRewind s)
  | retire => exact upholds_taking _ (upholds_takeRetire s)
  | fix => exact upholds_taking _ (upholds_takeFix s)
  | unfix => exact upholds_taking _ (upholds_takeUnfix s)
  | readCircuit => exact upholds_taking _ (upholds_takeReadCircuit s)
  | setCircuit => exact upholds_taking _ (upholds_takeSetCircuit s)
  | alloc => exact upholds_taking _ (upholds_takeAlloc s)
  | freeCommand => exact upholds_taking _ (upholds_takeFree s)
  | submit => exact upholds_taking _ (upholds_takeSubmit s)
  | take => exact upholds_taking _ (upholds_takeTake s)
  | readDescriptor => exact upholds_taking _ (upholds_takeReadDescriptor s)
  | readPool =>
    have hlatch : Upholds s { s with latch := none } := upholds_of_eq rfl rfl rfl rfl
    exact upholds_taking _ (hlatch.succeed _)
  | initialise => exact upholds_taking _ (upholds_takeInitialise s)
  | readLabel => exact upholds_taking _ (upholds_takeReadLabel s)
  | unknownCommand =>
    show Upholds s (if _ then _ else _)
    split
    · exact upholds_reject ..
    · exact Upholds.refl s
  | registerWrite address value => exact (quiet_writeRegister ..).upholds
  | portControlWrite value => exact upholds_of_eq rfl rfl rfl rfl
  | eventPop => exact upholds_of_eq rfl rfl rfl rfl
  | packetMemoryRead address => exact (quiet_readPacket ..).upholds
  | packetMemoryWrite address value => exact (quiet_writePacket ..).upholds
  | hardwareReset => exact upholds_hardwareReset rfl rfl rfl rfl
  | startUpEnd =>
    show Upholds s (if _ then _ else _)
    split
    · exact upholds_of_eq rfl rfl rfl rfl
    · exact Upholds.refl s
  | lineReadyFall =>
    show Upholds s (if _ then _ else _)
    split
    · have hfall : Upholds s { s with lineReady := false, receiver := Receiver.hunting } :=
        upholds_of_eq rfl rfl rfl rfl
      exact hfall.trans (upholds_linkLost _)
    · exact Upholds.refl s
  | lineReadyRise => exact upholds_of_eq rfl rfl rfl rfl
  | candidateDiscard octets =>
    show Upholds s (if _ then _ else _)
    split
    · exact upholds_of_eq rfl rfl rfl rfl
    · exact Upholds.refl s
  | linkStartArrival version maxSegments identity startNumber =>
    exact upholds_arrive _ _ fun _ => upholds_linkStartAt ..
  | linkAgreeArrival maxSegments identity startNumber => exact upholds_arrive _ _ fun _ => upholds_linkAgreeAt ..
  | linkStopArrival cause => exact upholds_arrive _ _ fun _ => upholds_linkStopAt ..
  | openFrameArrival dst src requested service data => exact upholds_arrive _ _ fun _ => upholds_openFrameAt ..
  | acceptArrival dst src agreed => exact upholds_arrive _ _ fun _ => upholds_acceptAt ..
  | refuseArrival dst src cause diagnostic => exact upholds_arrive _ _ fun _ => upholds_refuseAt ..
  | closeFrameArrival dst src cause diagnostic => exact upholds_arrive _ _ fun _ => upholds_closeAt ..
  | closeDoneArrival dst src => exact upholds_arrive _ _ fun _ => upholds_closeDoneAt ..
  | rewindFrameArrival dst cause =>
    exact upholds_arrive _ _ fun u => upholds_dispatch u dst (fun _ => upholds_rewindTaken ..) (Upholds.refl u)
  | rewindDoneArrival dst =>
    exact upholds_arrive _ _ fun u => upholds_dispatch u dst (fun _ => upholds_rewindDoneTaken ..) (Upholds.refl u)
  | segArrival dst number index payload =>
    exact upholds_arrive _ _ fun u => upholds_dispatchOpen u dst fun _ hs => upholds_segAt hs ..
  | blockEndArrival dst number count =>
    exact upholds_arrive _ _ fun u => upholds_dispatchOpen u dst fun _ hs => upholds_blockEndAt hs ..
  | blockAbandonArrival dst number =>
    exact upholds_arrive _ _ fun u => upholds_dispatchOpen u dst fun _ _ => upholds_blockAbandonAt ..
  | blockStatusArrival dst number outcome ready =>
    exact upholds_arrive _ _ fun u => upholds_dispatchOpen u dst fun _ hs => upholds_statusAt hs ..
  | probeArrival dst => exact upholds_arrive _ _ fun u => upholds_dispatchOpen u dst fun _ _ => upholds_probeAt ..
  | readyArrival dst ready =>
    exact upholds_arrive _ _ fun u => upholds_dispatchOpen u dst fun _ hs => upholds_readyAt hs ..
  | openTimerExpiry circuit => exact upholds_expire _ _ _ (upholds_openExpired circuit)
  | offerTimerExpiry circuit => exact upholds_expire _ _ _ (upholds_offerExpired circuit)
  | statusTimerExpiry circuit => exact upholds_expire _ _ _ (upholds_statusExpired circuit)
  | probeTimerExpiry circuit => exact upholds_expire _ _ _ (upholds_probeExpired circuit)
  | closeTimerExpiry circuit => exact upholds_expire _ _ _ (upholds_closeExpired circuit)
  | rewindTimerExpiry circuit => exact upholds_expire _ _ _ (upholds_rewindExpired circuit)
  | startTimerExpiry => exact (quiet_expireLink _ _ quiet_startExpired).upholds
  | stopTimerExpiry => exact (quiet_expireLink _ _ quiet_stopExpired).upholds
  | restTimeExpiry label => exact (quiet_restExpired ..).upholds
  | transmissionStart => exact upholds_startTransmission s
  | transmissionEnd => exact upholds_endTransmission s
  | huntDelimiterReceived =>
    show Upholds s (if _ then _ else _)
    split
    · exact upholds_of_eq rfl rfl rfl rfl
    · exact Upholds.refl s

/-- Every step keeps the laws of pages, holdings and collections. -/
theorem step_upholds (h : step s = .next t) : Upholds s t := by
  unfold step at h
  split at h
  · cases h
    exact upholds_tick s
  · next i rest _ =>
    have hqueue : Upholds s { s with pending := rest } := upholds_of_eq rfl rfl rfl rfl
    have hexec := exec_upholds { s with pending := rest } i
    rw [h] at hexec
    exact hqueue.trans hexec

end

/-- Settles O56: descriptors take pages of the free pool alone, and otherwise hold no page they did not hold. -/
theorem pagesAreKept : Obligations.PagesAreKept := fun _ _ hp ht => (step_upholds ht).pages hp

/-- Settles O58: what each move does to the collections and the window of one record. -/
theorem holdingsAreKept : Obligations.HoldingsAreKept := fun _ _ hh ht => (step_upholds ht).holdings hh

/-- Settles O59: the law put in terms of stocks and of the pin, and kept so row by row. -/
theorem collectionsAreKept : Obligations.CollectionsAreKept := fun _ _ hr hc ht =>
  ((step_upholds ht).collected (hc.collected hr)).collectionsLaw

end Sys2Proof.Machine

/-! PROOFS. The descriptor and label commands: ALLOC and its choice of pages (R82, R83), FREE (R84), READ-DESCRIPTOR
(R92), READ-POOL (R93) and READ-LABEL (R109). -/

namespace Sys2Proof.Machine

section
variable {s : State} {d : DescNo}

/-! ### The pages ALLOC chooses (R83) -/

/-- A page that some descriptor holds. -/
def State.Held (s : State) (p : Nat) : Prop := ∃ d, p ∈ (s.descriptor d).held

theorem pageFree_iff_unheld (s : State) (p : Nat) : s.pageFree p = true ↔ p < 1024 ∧ ¬ s.Held p := by
  rw [pageFree_iff, heldPages_eq, List.mem_flatMap]
  simp [State.Held, Config.pageCount]

/-- n consecutive free pages from page p. -/
def State.FreeRun (s : State) (n p : Nat) : Prop := ∀ k, k < n → p + k < 1024 ∧ ¬ s.Held (p + k)

theorem freeRun_iff (s : State) (n p : Nat) :
    (List.range n).all (fun k => s.pageFree (p + k)) = true ↔ s.FreeRun n p := by
  simp only [List.all_eq_true, List.mem_range, pageFree_iff_unheld]
  rfl

theorem choosePages_of_run {n p : Nat} (hn : 1 ≤ n) (hp : s.FreeRun n p) (low : ∀ q, q < p → ¬ s.FreeRun n q) :
    s.choosePages n = (List.range n).map (p + ·) := by
  have hlast := (hp (n - 1) (by omega)).1
  have hrun : s.lowestRun n = some p := by
    refine List.find?_range_eq_some.2 ⟨(freeRun_iff s n p).2 hp, ?_, fun q hq => ?_⟩
    · rw [List.mem_range]
      show p < 1024 + 1 - n
      omega
    · rw [Bool.not_eq_true', Bool.eq_false_iff]
      exact fun h => low q hq ((freeRun_iff s n q).1 h)
  unfold State.choosePages
  rw [hrun]

theorem freePages_eq {free : List Nat} (hs : free.Pairwise (· < ·)) (hm : ∀ p, p ∈ free ↔ p < 1024 ∧ ¬ s.Held p) :
    s.freePages = free :=
  (freePages_pairwise s).eq_of_mem_iff hs fun p => by rw [mem_freePages, pageFree_iff_unheld, hm]

theorem choosePages_of_no_run {n : Nat} (hn : ∀ p, ¬ s.FreeRun n p) : s.choosePages n = s.freePages.take n := by
  have hrun : s.lowestRun n = none := List.find?_eq_none.2 fun p _ h => hn p ((freeRun_iff s n p).1 h)
  unfold State.choosePages
  rw [hrun]

/-! ### ALLOC and FREE (R82, R84) -/

theorem exec_alloc (hs : Started .alloc s) : exec .alloc s = .next s.takeAlloc :=
  congrArg Host.Outcome.next (taking_of_started hs _)

theorem takeAlloc_of_bad (h : s.param 0 = 0 ∨ 64 < s.param 0) : s.takeAlloc = s.reject .badParam := if_pos h

section
variable (hn : ¬ (s.param 0 = 0 ∨ 64 < s.param 0))
include hn

theorem takeAlloc_of_no_descriptor (hd : s.lowestFreeDescriptor = none) : s.takeAlloc = s.reject .noDescriptor := by
  unfold State.takeAlloc
  dsimp only
  rw [if_neg hn, hd]

theorem takeAlloc_of_no_pages (hd : s.lowestFreeDescriptor = some d)
    (hp : s.freePages.length < s.link.config.reserve + s.param 0) : s.takeAlloc = s.reject .noPages := by
  unfold State.takeAlloc
  dsimp only
  rw [if_neg hn, hd]
  exact if_pos hp

theorem takeAlloc_of_room (hd : s.lowestFreeDescriptor = some d)
    (hp : s.link.config.reserve + s.param 0 ≤ s.freePages.length) :
    s.takeAlloc = (s.setDescriptor d (fillingDescriptor (s.choosePages (s.param 0)))).succeed
      [d.val, s.param 0, (s.choosePages (s.param 0)).headD 0, flagCode (contiguous (s.choosePages (s.param 0)))] := by
  unfold State.takeAlloc
  dsimp only
  rw [if_neg hn, hd]
  exact if_neg (Nat.not_lt.2 hp)

end

/-- The contiguous flag of n pages (R82). -/
theorem flagCode_contiguous {pages : List Nat} {n : Nat} (hl : pages.length = n) :
    flagCode (contiguous pages) = if pages = (List.range n).map (pages.headD 0 + ·) then 1 else 0 := by
  unfold flagCode contiguous
  rw [hl]
  simp only [decide_eq_true_eq]

theorem exec_freeCommand (hs : Started .freeCommand s) : exec .freeCommand s = .next s.takeFree :=
  congrArg Host.Outcome.next (taking_of_started hs _)

theorem namedDescriptor_of_val {n : Nat} (h : n = d.val) : namedDescriptor n = some d := by
  unfold namedDescriptor
  rw [dif_pos (h ▸ d.isLt)]
  exact congrArg some (Fin.ext h)

theorem namedDescriptor_of_outside {n : Nat} (h : 255 < n) : namedDescriptor n = none := dif_neg (by omega)

/-- The descriptor a command names, in one of the states it takes (R26, R84). -/
theorem descriptorIn_of_val {n : Nat} (h : n = d.val) (states : List DescState) :
    s.descriptorIn n states = if states.contains (s.descriptor d).state = true then some d else none := by
  unfold State.descriptorIn
  rw [namedDescriptor_of_val h, Option.filter_some]

theorem descriptorIn_of_outside {n : Nat} (h : 255 < n) (states : List DescState) :
    s.descriptorIn n states = none := by
  unfold State.descriptorIn
  rw [namedDescriptor_of_outside h]
  rfl

theorem exec_free_of_none (hs : Started .freeCommand s) (h : s.descriptorIn (s.param 0) [.filling, .held] = none) :
    exec .freeCommand s = refusedWith s .badDescriptor := by
  rw [exec_freeCommand hs, State.takeFree, h]
  exact next_reject s .badDescriptor

theorem exec_free_of_some (hs : Started .freeCommand s) (h : s.descriptorIn (s.param 0) [.filling, .held] = some d) :
    exec .freeCommand s = answers { s with descriptors := s.descriptors.set d.val (freed s d) } [] := by
  rw [exec_freeCommand hs, State.takeFree, h]
  exact congrArg (fun t : State => Host.Outcome.next (t.succeed [])) (freeDescriptor_eq s d)

end

/-- Settles O21: the choice of pages, then ALLOC's and FREE's checks in their order. -/
theorem allocAndFreeMoveDescriptors : Obligations.AllocAndFreeMoveDescriptors := by
  refine ⟨fun s => ⟨fun n hn => ⟨fun p hp low => choosePages_of_run hn hp low, fun hno free hsort hmem => ?_⟩,
    fun hs => ⟨fun hbad => ?_, fun h1 h64 => ?_⟩⟩,
    fun s hs => ⟨fun hout => ?_, fun d hd => ⟨fun hf hh => ?_, fun hst => ?_⟩⟩⟩
  · rw [choosePages_of_no_run hno, freePages_eq hsort hmem]
  · rw [exec_alloc hs, takeAlloc_of_bad hbad, next_reject]
  · have hgood : ¬ (s.param 0 = 0 ∨ 64 < s.param 0) := by omega
    refine ⟨fun hd => ?_, fun d hd => ⟨fun hp => ?_, fun hp => ?_⟩⟩
    · rw [exec_alloc hs, takeAlloc_of_no_descriptor hgood hd, next_reject]
    · rw [exec_alloc hs, takeAlloc_of_no_pages hgood hd hp, next_reject]
    · rw [exec_alloc hs, takeAlloc_of_room hgood hd hp, next_succeed,
        flagCode_contiguous (choosePages_length s _ (by omega))]
      rfl
  · exact exec_free_of_none hs (descriptorIn_of_outside hout _)
  · exact exec_free_of_none hs ((descriptorIn_of_val hd _).trans (if_neg (by simp [hf, hh])))
  · exact exec_free_of_some hs ((descriptorIn_of_val hd _).trans (if_pos (by simpa using hst)))

section
variable {s : State} {d : DescNo}

/-! ### READ-DESCRIPTOR (R92) -/

theorem exec_readDescriptor (hs : Started .readDescriptor s) : exec .readDescriptor s = .next s.takeReadDescriptor :=
  congrArg Host.Outcome.next (taking_of_started hs _)

theorem exec_readDescriptor_of_outside (hs : Started .readDescriptor s) (h : 255 < s.param 0) :
    exec .readDescriptor s = refusedWith s .badDescriptor := by
  rw [exec_readDescriptor hs, State.takeReadDescriptor, namedDescriptor_of_outside h]
  exact next_reject s .badDescriptor

section
variable (hs : Started .readDescriptor s) (hd : s.param 0 = d.val)
include hs hd

theorem exec_readDescriptor_of_part (h : 8 < s.param 1) : exec .readDescriptor s = refusedWith s .badParam := by
  rw [exec_readDescriptor hs, State.takeReadDescriptor, namedDescriptor_of_val hd]
  dsimp only
  rw [if_pos h, next_reject]

theorem exec_readDescriptor_of_summary (h : s.param 1 = 0) :
    exec .readDescriptor s = answers s (s.descriptor d).summary := by
  rw [exec_readDescriptor hs, State.takeReadDescriptor, namedDescriptor_of_val hd]
  dsimp only
  rw [if_neg (by omega), if_pos h, next_succeed]

theorem exec_readDescriptor_of_slots (h1 : 1 ≤ s.param 1) (h8 : s.param 1 ≤ 8) :
    exec .readDescriptor s = answers s ((s.descriptor d).slotPart (s.param 1)) := by
  rw [exec_readDescriptor hs, State.takeReadDescriptor, namedDescriptor_of_val hd]
  dsimp only
  rw [if_neg (by omega), if_neg (by omega), next_succeed]

end

/-- Part 0 in the values of R92. -/
theorem summary_eq (x : Descriptor) : x.summary =
    [x.state.code, flagCode x.circuit.isSome, codeOf (fun c => c.val) x.circuit, x.pages.length + x.slots.length,
     codeOf id x.byteLength, codeOf BitVec.toNat x.tag, flagCode x.blockNumber.isSome,
     codeOf BitVec.toNat x.blockNumber] := by
  unfold Descriptor.summary Descriptor.held
  rw [List.length_append, List.length_map]

/-- The slots of a descriptor with a page list and no filled slot (R92). -/
theorem slotPart_of_pages {x : Descriptor} (h : x.slots = []) (k : Nat) :
    x.slotPart k = (List.range 8).map (fun j => x.pages.getD (8 * (k - 1) + j) 0xFFFF) := by
  refine List.map_congr_left fun j _ => ?_
  unfold Descriptor.slotPage
  rw [h, List.getD_eq_getElem?_getD]
  rfl

/-- The slots of an assembly (R92). -/
theorem slotPart_of_slots {x : Descriptor} (h : x.pages = []) (k : Nat) :
    x.slotPart k = (List.range 8).map (fun j =>
      match x.slots.find? (fun y => y.index == 8 * (k - 1) + j) with
      | some y => y.page
      | none => 0xFFFF) := by
  refine List.map_congr_left fun j _ => ?_
  unfold Descriptor.slotPage
  rw [h]
  cases x.slots.find? (fun y => y.index == 8 * (k - 1) + j) <;> rfl

/-! ### READ-POOL and READ-LABEL (R93, R109) -/

theorem exec_readPool (hs : Started .readPool s) : exec .readPool s = answers { s with latch := none } s.poolView :=
  congrArg Host.Outcome.next (taking_of_started hs _)

theorem poolView_eq (s : State) : s.poolView =
    [s.freePages.length, (s.descriptors.toList.filter (fun x => decide (x.state = .free))).length,
     s.link.config.reserve, s.freePages.length - s.link.config.reserve, flagCode s.returningDescriptor.isSome,
     codeOf (fun d => d.val) s.returningDescriptor, flagCode s.latch.isSome, codeOf id s.latch] := by
  unfold State.poolView State.freeDescriptorCount
  rw [List.countP_eq_length_filter]

theorem exec_readLabel (hs : Started .readLabel s) : exec .readLabel s = .next s.takeReadLabel :=
  congrArg Host.Outcome.next (taking_of_started hs _)

theorem exec_readLabel_of_outside (hs : Started .readLabel s) (h : 255 < s.param 0) :
    exec .readLabel s = refusedWith s .badParam := by
  rw [exec_readLabel hs, State.takeReadLabel, if_pos h, next_reject]

theorem exec_readLabel_of_entry (hs : Started .readLabel s) (h1 : 1 ≤ s.param 0) (h255 : s.param 0 ≤ 255) :
    exec .readLabel s = answers s (s.label (BitVec.ofNat 8 (s.param 0))).view := by
  rw [exec_readLabel hs, State.takeReadLabel, if_neg (by omega), if_neg (by omega), next_succeed]

theorem exec_readLabel_of_summary (hs : Started .readLabel s) (h : s.param 0 = 0) :
    exec .readLabel s = answers s s.mapSummary := by
  rw [exec_readLabel hs, State.takeReadLabel, if_neg (by omega), if_pos h, next_succeed]

theorem countLabels_eq (s : State) (k : Nat) :
    s.countLabels k = (s.labels.toList.filter (fun e => e.code == k)).length := List.countP_eq_length_filter

end

/-- Settles O24: each read part by part, and the summary of label 0 by the head of the loose-reply queue. -/
theorem poolAndLabelReadsReportTheTables : Obligations.PoolAndLabelReadsReportTheTables := by
  refine ⟨fun s => ⟨fun hs => ⟨exec_readDescriptor_of_outside hs, fun d hd => ⟨exec_readDescriptor_of_part hs hd,
    fun h => ?_, fun h1 h8 h => ?_, fun h1 h8 h => ?_⟩⟩, fun hs => ?_⟩, fun s hs =>
    ⟨exec_readLabel_of_outside hs, fun h1 h255 => ⟨fun h => ?_, fun c fixed h => ?_, fun n h => ?_⟩,
      fun h0 => ⟨fun h => ?_, fun x rest h => ?_⟩⟩⟩
  · rw [exec_readDescriptor_of_summary hs hd h, summary_eq]
  · rw [exec_readDescriptor_of_slots hs hd h1 h8, slotPart_of_pages h]
  · exact (exec_readDescriptor_of_slots hs hd h1 h8).trans (congrArg (answers s) (slotPart_of_slots h _))
  · exact (exec_readPool hs).trans (by rw [poolView_eq])
  · exact (exec_readLabel_of_entry hs h1 h255).trans (by rw [h]; rfl)
  · exact (exec_readLabel_of_entry hs h1 h255).trans (by rw [h]; rfl)
  · exact (exec_readLabel_of_entry hs h1 h255).trans (by rw [h]; rfl)
  · refine (exec_readLabel_of_summary hs h0).trans ?_
    simp only [State.mapSummary, countLabels_eq, h]
    rfl
  · refine (exec_readLabel_of_summary hs h0).trans ?_
    simp only [State.mapSummary, countLabels_eq, h]
    rfl

end Sys2Proof.Machine

/-! PROOFS. The host's accesses to page memory (R90, R91): the owner of a page, the word stored, and the refusals. -/

namespace Sys2Proof.Machine

section
variable {s : State} {p : Nat}

/-! ### The owner of a page (R90) -/

/-- A page of a FILLING or HELD descriptor, held by no other, is the host's. -/
theorem hostOwns_of_holder {d : DescNo} (hd : p ∈ (s.descriptor d).held)
    (unique : ∀ e, p ∈ (s.descriptor e).held → e = d)
    (hs : (s.descriptor d).state = .filling ∨ (s.descriptor d).state = .held) : s.hostOwns p = true := by
  have hfind : (List.finRange 256).find? (fun e => (s.descriptor e).held.contains p) = some d :=
    find?_finRange_of_unique (by simpa using hd) fun e he => unique e (by simpa using he)
  have hstate : s.pageState p = (s.descriptor d).state := by
    unfold State.pageState
    rw [descriptors_toList, List.find?_map, Function.comp_def, hfind]
    rfl
  unfold State.hostOwns
  rw [hstate]
  rcases hs with hs | hs <;> rw [hs]

/-- A page that no FILLING or HELD descriptor holds is not the host's. -/
theorem not_hostOwns (h : ∀ d, p ∈ (s.descriptor d).held →
    (s.descriptor d).state ≠ .filling ∧ (s.descriptor d).state ≠ .held) : s.hostOwns p = false := by
  have hstate : s.pageState p ≠ .filling ∧ s.pageState p ≠ .held := by
    unfold State.pageState
    split
    · simp
    · next x hx =>
      rw [descriptors_toList] at hx
      obtain ⟨d, -, rfl⟩ := List.mem_map.1 (List.mem_of_find?_eq_some hx)
      exact h d (by simpa using List.find?_some hx)
  unfold State.hostOwns
  cases hq : s.pageState p <;> simp_all

/-! ### Reads and writes (R90, R91) -/

theorem memoryWord_eq (s : State) (a : WordAddress) :
    s.memoryWord a = s.memory.read (2 * a.toNat + 1) ++ s.memory.read (2 * a.toNat) := rfl

/-- A word stored is its two octets, low octet first (12.1). -/
theorem storeWord_read (hm : s.memory.wf = true) (a : WordAddress) (value : Word) :
    (s.storeWord a value).memory.wf = true ∧ ∀ b, (s.storeWord a value).memory.read b =
      if b = 2 * a.toNat then value.extractLsb' 0 8
      else if b = 2 * a.toNat + 1 then value.extractLsb' 8 8 else s.memory.read b := by
  have hbound : offsetOf a + [value.extractLsb' 0 8, value.extractLsb' 8 8].length ≤ Memory.size := by
    have hlt : a.toNat < 131072 := a.isLt
    show 2 * a.toNat + 2 ≤ 262144
    omega
  refine ⟨Memory.wf_writeAll hm _ _ hbound, fun b => ?_⟩
  refine (Memory.read_writeAll hm _ _ hbound b).trans ?_
  show (if 2 * a.toNat ≤ b ∧ b < 2 * a.toNat + 2 then _ else _) = _
  by_cases h0 : b = 2 * a.toNat
  · subst h0
    rw [if_pos (by omega), if_pos rfl]
    simp [offsetOf]
  · by_cases h1 : b = 2 * a.toNat + 1
    · subst h1
      rw [if_pos (by omega), if_neg h0, if_pos rfl]
      simp [offsetOf]
    · rw [if_neg (by omega), if_neg h0, if_neg h1]

theorem reportRefusal_of_latched (h : s.latch ≠ none) : s.reportRefusal p = s := by
  obtain ⟨q, hq⟩ := Option.ne_none_iff_exists'.1 h
  unfold State.reportRefusal
  rw [hq]

/-- The first refusal sets the latch and raises ACCESS-FAULT (R91). -/
theorem reportRefusal_of_clear (h : s.latch = none) (hr : s.events.length ≤ 126) : s.reportRefusal p =
    { s with latch := some p, events := s.events ++ [{ kind := .accessFault, page := some p }] } := by
  unfold State.reportRefusal
  rw [h]
  exact raise_of_room { s with latch := some p } _ (Nat.lt_succ_of_le hr)

variable {a : WordAddress} {value : Word}

theorem readPacket_of_startUp (h : s.startUp = true) : s.readPacket a = { s with dataBus := 0 } := if_pos h

theorem writePacket_of_startUp (h : s.startUp = true) : s.writePacket a value = s := if_pos h

section
variable (h : s.startUp = false)
include h

theorem readPacket_of_owner (ho : s.hostOwns (pageOf a) = true) :
    s.readPacket a = { s with dataBus := s.memoryWord a } := by
  unfold State.readPacket
  rw [if_neg (by simp [h]), if_pos ho]

theorem writePacket_of_owner (ho : s.hostOwns (pageOf a) = true) : s.writePacket a value = s.storeWord a value := by
  unfold State.writePacket
  rw [if_neg (by simp [h]), if_pos ho]

theorem readPacket_of_other (ho : s.hostOwns (pageOf a) = false) :
    s.readPacket a = { s with dataBus := 0 }.reportRefusal (pageOf a) := by
  unfold State.readPacket
  rw [if_neg (by simp [h]), if_neg (by simp [ho])]

theorem writePacket_of_other (ho : s.hostOwns (pageOf a) = false) :
    s.writePacket a value = s.reportRefusal (pageOf a) := by
  unfold State.writePacket
  rw [if_neg (by simp [h]), if_neg (by simp [ho])]

end

end

/-- Settles O26: the start-up period, the page the host owns, and the page it does not, reported once. -/
theorem hostAccessesAreCheckedByOwner : Obligations.HostAccessesAreCheckedByOwner := by
  intro s a p mine other reported
  have reads {t : State} (h : s.readPacket a = t) : exec (.packetMemoryRead a) s = .next t := congrArg _ h
  have writes {value : Word} {t : State} (h : s.writePacket a value = t) : exec (.packetMemoryWrite a value) s = .next t :=
    congrArg _ h
  refine ⟨fun h => ⟨reads (readPacket_of_startUp h), fun value => writes (writePacket_of_startUp h)⟩,
    fun h hmine => ?_, fun h hother hl => ?_, fun h hother hl hr => ?_⟩
  · obtain ⟨d, hd, unique, hs⟩ := hmine
    have ho : s.hostOwns (pageOf a) = true := hostOwns_of_holder hd unique hs
    refine ⟨reads (readPacket_of_owner h ho), fun value hm => ⟨_, writes (writePacket_of_owner h ho), ?_⟩⟩
    exact storeWord_read hm a value
  · have ho : s.hostOwns (pageOf a) = false := not_hostOwns hother
    exact ⟨reads ((readPacket_of_other h ho).trans (reportRefusal_of_latched hl)),
      fun value => writes ((writePacket_of_other h ho).trans (reportRefusal_of_latched hl))⟩
  · have ho : s.hostOwns (pageOf a) = false := not_hostOwns hother
    exact ⟨reads ((readPacket_of_other h ho).trans (reportRefusal_of_clear hl hr)),
      fun value => writes ((writePacket_of_other h ho).trans (reportRefusal_of_clear hl hr))⟩

end Sys2Proof.Machine

/-! PROOFS. SUBMIT (R26, R27): its checks in their order, and the block queued, started or held. -/

namespace Sys2Proof.Machine

section
variable {s : State} {c : CircuitNo} {d : DescNo}

/-! ### The checks of SUBMIT (R26) -/

theorem takesSubmit_iff (x : CircuitState) :
    x.takesSubmit = true ↔ x = .opening ∨ x = .opened ∨ x = .rewinding ∨ x = .dormant := by
  cases x <;> decide

theorem lengthFits_iff (n L : Nat) : lengthFits n L = true ↔ (n - 1) * 256 < L ∧ L ≤ n * 256 := by
  unfold lengthFits
  rw [Bool.and_eq_true, decide_eq_true_eq, decide_eq_true_eq]

/-- The segment limit of a SUBMIT in the values of R26 check 5. -/
theorem submitLimit_eq (r : CircuitRecord) : r.submitLimit =
    if r.state = .opening then codeOf (fun x => x.requested) r.openRequest else codeOf id r.maxSegments := by
  unfold CircuitRecord.submitLimit
  refine ite_congr rfl (fun _ => ?_) fun _ => ?_
  · cases r.openRequest <;> rfl
  · cases r.maxSegments <;> rfl

section
variable (hs : Started .submit s) (hn : NamesCircuit s 1 c)
include hs hn

theorem exec_submit_of_none (hd : s.descriptorIn (s.param 0) [.filling] = none) :
    exec .submit s = refusedWith s .badDescriptor := by
  show Host.Outcome.next (s.taking .submit State.takeSubmit) = _
  rw [taking_of_started hs, State.takeSubmit, withCircuit_of_named hn, hd]
  exact next_reject s .badDescriptor

theorem exec_submit_of_some (hd : s.descriptorIn (s.param 0) [.filling] = some d) :
    exec .submit s = .next (s.submitTo c d) := by
  show Host.Outcome.next (s.taking .submit State.takeSubmit) = _
  rw [taking_of_started hs, State.takeSubmit, withCircuit_of_named hn, hd]

end

/-- SUBMIT past the check of its descriptor, in the words of R26. -/
theorem submitTo_eq (s : State) (c : CircuitNo) (d : DescNo) : s.submitTo c d =
    if ¬ (s.circuit c).state.takesSubmit = true then s.reject .badState
    else if ¬ (((s.descriptor d).pages.length - 1) * 256 < s.param 2 ∧
        s.param 2 ≤ (s.descriptor d).pages.length * 256 ∧
        (s.descriptor d).pages.length ≤ (s.circuit c).submitLimit) then s.reject .badParam
    else if 8 ≤ (s.circuit c).send.blocks.length then s.reject .queueFull
    else
      (((s.enqueue c d (s.param 2) (s.tagOf (s.param 3))).startIfIdle c).countFree
        (decide (65536 ≤ s.param 3))).succeed [(s.circuit c).send.blocks.length + 1] := by
  unfold State.submitTo
  dsimp only
  refine ite_congr (by simp) (fun _ => rfl) fun _ => ?_
  by_cases hfit : lengthFits (s.descriptor d).pages.length (s.param 2) = true
  · rw [if_neg (by simp [hfit])]
    obtain ⟨h1, h2⟩ := (lengthFits_iff ..).1 hfit
    refine ite_congr (by simp [h1, h2]) (fun _ => rfl) fun _ => rfl
  · rw [if_pos (by simp [hfit]), if_pos]
    exact fun h => hfit ((lengthFits_iff ..).2 ⟨h.1, h.2.1⟩)

/-- A tag that fits 16 bits is stored as it is (R26). -/
theorem tagOf_toNat {value : Nat} (h : value < 65536) : (s.tagOf value).toNat = value := by
  unfold State.tagOf
  rw [if_pos h, BitVec.toNat_ofNat, Nat.mod_eq_of_lt h]

/-! ### The block queued (R27) -/

/-- The descriptor of a block that SUBMIT has queued (R27). -/
def Descriptor.submitted (x : Descriptor) (c : CircuitNo) (length : Nat) (tag : Word) : Descriptor :=
  { x with state := .queued, circuit := some c, byteLength := some length, tag := some tag }

variable {length : Nat} {tag : Word}

theorem enqueue_eq (s : State) (c : CircuitNo) (d : DescNo) (length : Nat) (tag : Word) :
    s.enqueue c d length tag = { s with
      circuits := s.circuits.set c.val { s.circuit c with
        send := { (s.circuit c).send with queue := (s.circuit c).send.queue ++ [d] } }
      descriptors := s.descriptors.set d.val ((s.descriptor d).submitted c length tag) } := rfl

theorem enqueue_circuit (s : State) (c : CircuitNo) (d : DescNo) (length : Nat) (tag : Word) :
    (s.enqueue c d length tag).circuit c = { s.circuit c with
      send := { (s.circuit c).send with queue := (s.circuit c).send.queue ++ [d] } } :=
  (circuit_onCircuit_self ..).trans (by rw [State.onDescriptor, circuit_setDescriptor])

theorem enqueue_descriptor (s : State) (c : CircuitNo) (d : DescNo) (length : Nat) (tag : Word) :
    (s.enqueue c d length tag).descriptor d = (s.descriptor d).submitted c length tag :=
  descriptor_setDescriptor_self ..

theorem startIfIdle_of_busy (h : ¬ ((s.circuit c).state = .opened ∧ (s.circuit c).send.sender = .idle)) :
    (s.enqueue c d length tag).startIfIdle c = s.enqueue c d length tag := by
  unfold State.startIfIdle
  rw [enqueue_circuit]
  exact if_neg h

section
variable (h : (s.circuit c).state = .opened ∧ (s.circuit c).send.sender = .idle)
  (hq : (s.circuit c).send.queue = [])
include h hq

theorem startIfIdle_of_idle : (s.enqueue c d length tag).startIfIdle c =
    (s.enqueue c d length tag).startDecision c false ∧
    ((s.enqueue c d length tag).circuit c).send.queue = [d] := by
  refine ⟨?_, by rw [enqueue_circuit, hq]; rfl⟩
  unfold State.startIfIdle
  rw [enqueue_circuit]
  exact if_pos h

/-- With the peer ready the block starts at once (R29, R30). -/
theorem startIfIdle_of_ready (hr : (s.circuit c).send.peerReady = true)
    (hm : (s.descriptor d).pages.length ≤ (s.circuit c).maxSegments.getD 0) :
    (s.enqueue c d length tag).startIfIdle c = { s with
      circuits := s.circuits.set c.val { s.circuit c with
        send := (s.circuit c).send.started d [] (s.descriptor d).pages.length }
      descriptors := s.descriptors.set d.val { (s.descriptor d).submitted c length tag with
        state := .active, blockNumber := some (s.circuit c).send.nextNumber } } := by
  obtain ⟨hstart, hqueue⟩ := startIfIdle_of_idle (length := length) (tag := tag) (d := d) h hq
  rw [hstart, startDecision_ready (d := d) (rest := []) hqueue (by rw [enqueue_circuit]; exact hr)
    (by rw [enqueue_descriptor, enqueue_circuit]; exact hm), startBlock_eq, enqueue_circuit, enqueue_descriptor]
  simp [enqueue_eq, SendContext.started, Descriptor.submitted]

/-- With the peer not ready the sender is HELD with PROBE pending (R29). -/
theorem startIfIdle_of_unready (hr : (s.circuit c).send.peerReady = false) :
    (s.enqueue c d length tag).startIfIdle c = { s with
      circuits := s.circuits.set c.val { s.circuit c with
        transfer := some .probe
        send := { (s.circuit c).send with sender := .held, queue := [d], pollCount := 1 } }
      descriptors := s.descriptors.set d.val ((s.descriptor d).submitted c length tag) } := by
  obtain ⟨hstart, hqueue⟩ := startIfIdle_of_idle (length := length) (tag := tag) (d := d) h hq
  rw [hstart, startDecision_held (by rw [hqueue]; simp) (by rw [enqueue_circuit]; exact hr), State.setTransfer,
    State.onSend, onCircuit_onCircuit, State.onCircuit, enqueue_circuit, hq]
  simp [enqueue_eq, State.setCircuit]

end

end

/-- Settles O22: the checks of SUBMIT in their order, and what the start decision makes of the block queued. -/
theorem submitQueuesOrStartsTheBlock : Obligations.SubmitQueuesOrStartsTheBlock := by
  intro s c hs hn r
  refine ⟨fun hout => exec_submit_of_none hs hn (descriptorIn_of_outside hout _), fun d hd => ?_⟩
  intro n L takes limit fits idle held
  refine ⟨fun hf => ?_, fun hf => ?_⟩
  · exact exec_submit_of_none hs hn ((descriptorIn_of_val hd _).trans (if_neg (by simp [hf])))
  have hexec : exec .submit s = .next (s.submitTo c d) :=
    exec_submit_of_some hs hn ((descriptorIn_of_val hd _).trans (if_pos (by simp [hf])))
  have hlimit : r.submitLimit = limit := submitLimit_eq r
  rw [submitTo_eq, hlimit] at hexec
  refine ⟨fun ht => ?_, fun ht hbad => ?_, fun ht hfit hfull => ?_, fun ht hfit hroom => ?_⟩
  · rw [hexec, if_pos (mt (takesSubmit_iff _).1 ht), next_reject]
  all_goals rw [if_neg (not_not.2 ((takesSubmit_iff _).2 ht))] at hexec
  · rw [hexec, if_pos hbad, next_reject]
  · rw [hexec, if_neg (not_not.2 hfit), if_pos hfull, next_reject]
  · rw [if_neg (not_not.2 hfit), if_neg (Nat.not_le.2 hroom)] at hexec
    refine ⟨s.tagOf (s.param 3), if decide (65536 ≤ s.param 3) = true then s.freeCount + 1 else s.freeCount,
      fun h3 => ⟨tagOf_toNat h3, if_neg (by simpa using h3)⟩, ?_⟩
    intro queued submitted
    refine ⟨fun hidle => ?_, fun hidle hq hr => ?_, fun hidle hq hr => ?_⟩
    · rw [hexec, startIfIdle_of_busy hidle, countFree_eq]
      rfl
    · have hmax : n ≤ r.maxSegments.getD 0 := by
        have hcode : limit = codeOf id r.maxSegments := if_neg (by simp [hidle.1])
        have hle := hfit.2.2
        rw [hcode] at hle
        refine hle.trans_eq ?_
        cases r.maxSegments <;> rfl
      rw [hexec, startIfIdle_of_ready hidle hq hr hmax, countFree_eq]
      rfl
    · rw [hexec, startIfIdle_of_unready hidle hq hr, countFree_eq]
      rfl

end Sys2Proof.Machine

/-! PROOFS. The expiries of the STATUS and PROBE timers (R34, R35, R45): the poll frame sent again, and poll
exhaustion. -/

namespace Sys2Proof.Machine

section
variable {s : State} {c : CircuitNo} {k : TransferKind}

/-- Below the poll limit the poll frame is pending again (R34, R45). -/
theorem pollAgain_resends (k : TransferKind) (h : (s.circuit c).send.pollCount < s.link.config.pollLimit) :
    (s.stopTimer c).pollAgain c k = s.setCircuit c { s.circuit c with
      timer := none, transfer := some k
      send := { (s.circuit c).send with pollCount := (s.circuit c).send.pollCount + 1 } } := by
  unfold State.pollAgain
  rw [stopTimer_circuit, if_pos (by exact h)]
  simp only [State.onSend, State.setTransfer, State.stopTimer, onCircuit_onCircuit]
  rfl

section
variable (k : TransferKind) (h : s.link.config.pollLimit ≤ (s.circuit c).send.pollCount)
include h

/-- At the poll limit the polls are exhausted (R35). -/
theorem pollAgain_exhausts : (s.stopTimer c).pollAgain c k = (s.stopTimer c).pollExhausted c := by
  unfold State.pollAgain
  rw [stopTimer_circuit]
  exact if_neg (Nat.not_lt.2 h)

/-- A dialled circuit with its polls exhausted is closed (R35). -/
theorem pollAgain_closes (hk : (s.circuit c).kind = some .dialled) :
    let t := (s.stopTimer c).pollAgain c k
    EngineFrame c s t ∧ Dropped (s.circuit c) s t ∧ t.events = s.events ∧ t.loose = s.loose ∧
      t.circuit c = closingRecord (s.circuit c) 0x07 0 .part s.link.config.closeTimer := by
  have ht : (s.stopTimer c).pollAgain c k = (s.stopTimer c).enterClosing c Cause.noResponse 0 .part := by
    rw [pollAgain_exhausts k h, State.pollExhausted, stopTimer_circuit]
    exact if_neg (by simp [hk])
  obtain ⟨hframe, hdrop, hevents, hloose, hrec⟩ := enterClosing_spec (s.stopTimer c) c Cause.noResponse 0 .part
  rw [stopTimer_circuit] at hdrop hrec
  rw [ht]
  exact ⟨(frame_stopTimer s c).trans hframe, hdrop, hevents, hloose, hrec⟩

/-- A fixed circuit with its polls exhausted is rewound (R35). -/
theorem pollAgain_rewinds (hk : (s.circuit c).kind = some .fixed) :
    let t := (s.stopTimer c).pollAgain c k
    EngineFrame c s t ∧ Requeued (s.circuit c) s t ∧ t.events = s.events ∧ t.loose = s.loose ∧
      t.circuit c = rewindingRecord (s.circuit c) 0x07 .part s.link.config.rewindTimer := by
  have ht : (s.stopTimer c).pollAgain c k = (s.stopTimer c).enterRewinding c Cause.noResponse .part := by
    rw [pollAgain_exhausts k h, State.pollExhausted, stopTimer_circuit]
    exact if_pos hk
  obtain ⟨hframe, hrec, hqueued, hevents, hloose⟩ := enterRewinding_spec (s.stopTimer c) c Cause.noResponse .part
  rw [stopTimer_circuit] at hqueued hrec
  rw [ht]
  exact ⟨(frame_stopTimer s c).trans hframe, hqueued, hevents, hloose, hrec⟩

end

/-! ### The expiry by the sender's state -/

section
variable (ho : (s.circuit c).state = .opened)
include ho

theorem statusExpired_of_polling (hs : (s.circuit c).send.sender = .polling) :
    State.statusExpired c s = s.pollAgain c .blockEnd := by
  unfold State.statusExpired
  rw [ho, hs]

theorem statusExpired_of_abandoning (hs : (s.circuit c).send.sender = .abandoning) :
    State.statusExpired c s = s.pollAgain c .blockAbandon := by
  unfold State.statusExpired
  rw [ho, hs]

theorem probeExpired_of_held (hs : (s.circuit c).send.sender = .held) :
    State.probeExpired c s = s.pollAgain c .probe := by
  unfold State.probeExpired
  rw [ho, hs]

end

end

/-- Settles O48: each expiry is a poll sent again by a circuit whose timer has become empty. -/
theorem pollTimersResendOrGiveUp : Obligations.PollTimersResendOrGiveUp := by
  intro s c ms ho r polled
  have ho' : ((s.stopTimer c).circuit c).state = .opened := by rw [stopTimer_circuit]; exact ho
  have hsender : ((s.stopTimer c).circuit c).send.sender = r.send.sender := by rw [stopTimer_circuit]
  have polls {row : Instr} {k : TransferKind} (hrow : exec row s = .next ((s.stopTimer c).pollAgain c k)) :
      polled row k :=
    ⟨fun h => hrow.trans (congrArg _ (pollAgain_resends k h)), fun h =>
      ⟨fun hk => ⟨_, hrow, pollAgain_closes k h hk⟩, fun hk => ⟨_, hrow, pollAgain_rewinds k h hk⟩⟩⟩
  refine ⟨fun ht => ⟨fun hs => polls ?_, fun hs => polls ?_⟩, fun ht hs => polls ?_⟩
  · exact congrArg _ ((expire_of_runs ht _).trans (statusExpired_of_polling ho' (hsender.trans hs)))
  · exact congrArg _ ((expire_of_runs ht _).trans (statusExpired_of_abandoning ho' (hsender.trans hs)))
  · exact congrArg _ ((expire_of_runs ht _).trans (probeExpired_of_held ho' (hsender.trans hs)))

end Sys2Proof.Machine

/-! PROOFS. READY frames and readiness reports (R46): what the sender makes of them, state by state. -/

namespace Sys2Proof.Machine

section
variable {s t : State} {c : CircuitNo} {dst : Label}

/-! ### The frames the Send Engine takes (R36, R46) -/

theorem Reaches.exec_ready (h : Reaches s dst c) (ho : (s.circuit c).state = .opened) {ready : Bool}
    (ht : State.readyAt ready c s.heard = t) : exec (.readyArrival dst ready) s = .next t :=
  congrArg Host.Outcome.next ((h.arrive ho rfl _).trans ht)

theorem Reaches.exec_blockStatus (h : Reaches s dst c) (ho : (s.circuit c).state = .opened) {number : BlockNumber}
    {outcome : StatusOutcome} {ready : Bool} (ht : State.statusAt number outcome ready c s.heard = t) :
    exec (.blockStatusArrival dst number outcome ready) s = .next t :=
  congrArg Host.Outcome.next ((h.arrive ho rfl _).trans ht)

/-! ### READY by the sender's state (R46) -/

theorem readyAt_of_busy {ready : Bool} (h : (s.circuit c).send.sender = .sending ∨
    (s.circuit c).send.sender = .polling ∨ (s.circuit c).send.sender = .abandoning) :
    State.readyAt ready c s = s := by
  unfold State.readyAt
  rcases h with h | h | h <;> rw [h]

theorem readyAt_of_idle {ready : Bool} (h : (s.circuit c).send.sender = .idle) :
    State.readyAt ready c s =
      s.setCircuit c { s.circuit c with send := { (s.circuit c).send with peerReady := ready } } := by
  unfold State.readyAt
  rw [h]
  rfl

theorem readyAt_of_held {ready : Bool} (h : (s.circuit c).send.sender = .held) :
    State.readyAt ready c s = s.readyInHeld c ready := by
  unfold State.readyAt
  rw [h]

/-! ### A report in HELD (R46) -/

/-- A PROBE is pending or in transmission, not detached (R46, log 29). -/
theorem probeOut_iff (s : State) (c : CircuitNo) : s.probeOut c = true ↔ (s.circuit c).transfer = some .probe ∨
    ∃ t label, s.tx = some t ∧ t.owner = .circuit c ∧ t.detached = false ∧ t.frame = .probe label := by
  unfold State.probeOut
  rw [Bool.or_eq_true, decide_eq_true_eq, Option.any_eq_true]
  refine or_congr Iff.rfl (exists_congr fun t => ?_)
  simp only [Bool.and_eq_true, decide_eq_true_eq, Bool.not_eq_true']
  constructor
  · rintro ⟨hx, ⟨ho, hd⟩, hf⟩
    cases hframe : t.frame with
    | probe label => exact ⟨label, hx, ho, hd, rfl⟩
    | _ => rw [hframe] at hf; cases hf
  · rintro ⟨label, hx, ho, hd, hf⟩
    exact ⟨hx, ⟨ho, hd⟩, by rw [hf]⟩

theorem readyInHeld_of_probing (h : s.probeOut c = true) : s.readyInHeld c false = s.setCircuit c { s.circuit c with
    timer := none, send := { (s.circuit c).send with pollCount := 0, peerReady := false } } := by
  unfold State.readyInHeld
  dsimp only
  rw [if_neg (by simp), if_pos h]
  simp only [State.onSend, State.stopTimer, onCircuit_onCircuit]
  rfl

theorem readyInHeld_of_quiet (h : ¬ s.probeOut c = true) : s.readyInHeld c false = s.setCircuit c { s.circuit c with
    timer := some { purpose := .probe, remaining := s.link.config.probeInterval }
    send := { (s.circuit c).send with pollCount := 0, peerReady := false } } := by
  unfold State.readyInHeld
  dsimp only
  rw [if_neg (by simp), if_neg h]
  simp only [State.onSend, State.startTimer, onCircuit_onCircuit]
  rfl

/-- The record of a HELD sender told that its peer is ready (R46). -/
def CircuitRecord.toldReady (r : CircuitRecord) : CircuitRecord :=
  { r with timer := none, transfer := none, send := { r.send with pollCount := 0, peerReady := true } }

theorem readyInHeld_of_ready (s : State) (c : CircuitNo) :
    s.readyInHeld c true = (s.setCircuit c (s.circuit c).toldReady).startDecision c false := by
  unfold State.readyInHeld
  dsimp only
  rw [if_pos rfl]
  simp only [State.onSend, State.stopTimer, State.setTransfer, onCircuit_onCircuit]
  rfl

/-- The head block starts where it fits (R29, R30, R46). -/
theorem readyInHeld_of_fitting {d : DescNo} {rest : List DescNo} (hq : (s.circuit c).send.queue = d :: rest)
    (hm : (s.descriptor d).pages.length ≤ codeOf id (s.circuit c).maxSegments) : s.readyInHeld c true = { s with
      circuits := s.circuits.set c.val { s.circuit c with
        timer := none, transfer := none
        send := { (s.circuit c).send with peerReady := true }.started d rest (s.descriptor d).pages.length }
      descriptors := s.descriptors.set d.val
        { s.descriptor d with state := .active, blockNumber := some (s.circuit c).send.nextNumber } } := by
  have hc : (s.setCircuit c (s.circuit c).toldReady).circuit c = (s.circuit c).toldReady := circuit_setCircuit_self ..
  rw [← getD_zero_eq_codeOf] at hm
  rw [readyInHeld_of_ready, startDecision_ready (d := d) (rest := rest) (by rw [hc]; exact hq) (by rw [hc]; rfl)
    (by rw [hc, descriptor_setCircuit]; exact hm), startBlock_eq, hc, descriptor_setCircuit]
  simp [State.setCircuit, CircuitRecord.toldReady, SendContext.started]

/-- The head of the queue starts, every block too large before it failing (R29, R30, R46). -/
theorem readyInHeld_headStarted (hn : (s.circuit c).send.queue.Nodup) :
    EngineFrame c s (s.readyInHeld c true) ∧
      HeadStarted c (codeOf id (s.circuit c).maxSegments) (s.circuit c).toldReady [] s (s.readyInHeld c true) := by
  rw [readyInHeld_of_ready]
  refine ⟨(frame_setCircuit ..).trans (frame_startDecision ..), headStarted false
    ⟨(s.circuit c).stale, (circuit_setCircuit_self ..).trans rfl⟩ rfl rfl rfl (fun _ => ⟨?_, rfl, fun d => ?_⟩)
    (getD_zero_eq_codeOf _) rfl hn⟩
  · exact (List.append_nil _).symm
  · exact stale_setCircuit s c (s.circuit c).toldReady rfl d

/-! ### A BLOCK-STATUS in HELD (R36, R46) -/

section
variable {number : BlockNumber} {outcome : StatusOutcome} {ready : Bool} (hs : (s.circuit c).send.sender = .held)
include hs

/-- A BLOCK-STATUS for the last block sent is a readiness report (R36). -/
theorem statusAt_of_lastSent {count : Nat} (hl : (s.circuit c).send.lastSent = some (number, count))
    (ho : outcome = .complete ∨ outcome = .abandoned) :
    State.statusAt number outcome ready c s = s.readyInHeld c ready := by
  unfold State.statusAt
  rw [hs]
  rcases ho with rfl | rfl
  all_goals exact if_pos (by rw [hl]; rfl)

theorem statusAt_of_stranger (h : (∀ count, (s.circuit c).send.lastSent ≠ some (number, count)) ∨
    ∃ map, outcome = .missing map) : State.statusAt number outcome ready c s = s := by
  have unmatched (h : ∀ count, (s.circuit c).send.lastSent ≠ some (number, count)) :
      ¬ (s.circuit c).send.lastSent.map Prod.fst = some number := by
    intro hm
    obtain ⟨⟨b, count⟩, hl, rfl⟩ := Option.map_eq_some_iff.1 hm
    exact h count hl
  unfold State.statusAt
  rw [hs]
  cases outcome with
  | missing map => rfl
  | complete => exact if_neg (unmatched (h.resolve_right (by simp)))
  | abandoned => exact if_neg (unmatched (h.resolve_right (by simp)))

end

end

/-- Settles O46: READY by the sender's state, and a BLOCK-STATUS in HELD as such a report or none. -/
theorem readyArrivalStartsTheHeadBlock : Obligations.ReadyArrivalStartsTheHeadBlock := by
  intro s dst ready c hr ho r replaced probing
  refine ⟨fun hs => hr.exec_ready ho (readyAt_of_busy hs), fun hs => hr.exec_ready ho (readyAt_of_idle hs),
    fun hs => ?_⟩
  have reports (ready : Bool) : State.readyAt ready c s.heard = s.heard.readyInHeld c ready := readyAt_of_held hs
  have hprobing : s.heard.probeOut c = true ↔ probing := probeOut_iff s.heard c
  refine ⟨fun hp => ?_, fun hp => ?_, fun d rest hq hm => ?_, fun hn => ?_, fun number count outcome hl h => ?_,
    fun number outcome h => ?_⟩
  · exact hr.exec_ready ho ((reports false).trans (readyInHeld_of_quiet (mt hprobing.1 hp)))
  · exact hr.exec_ready ho ((reports false).trans (readyInHeld_of_probing (hprobing.2 hp)))
  · exact hr.exec_ready ho ((reports true).trans (readyInHeld_of_fitting (s := s.heard) hq hm))
  · exact ⟨_, hr.exec_ready ho (reports true), readyInHeld_headStarted (s := s.heard) hn⟩
  · exact (hr.exec_blockStatus ho (statusAt_of_lastSent (s := s.heard) hs hl h)).trans
      (hr.exec_ready ho (reports ready)).symm
  · exact hr.exec_blockStatus ho (statusAt_of_stranger (s := s.heard) hs h)

end Sys2Proof.Machine

/-! PROOFS. BLOCK-STATUS frames in POLLING and ABANDONING (R36 to R43): the round that begins, the advance, the rewind
and the give-up. -/

namespace Sys2Proof.Machine

section
variable {s : State} {c : CircuitNo} {a : ActiveBlock}

/-! ### A status for no block of the sender's (R36) -/

theorem statusAt_of_unmatched {number : BlockNumber} {outcome : StatusOutcome} {ready : Bool}
    (h : (s.circuit c).send.sender = .idle ∨ (s.circuit c).send.sender = .sending ∨
      (((s.circuit c).send.sender = .polling ∨ (s.circuit c).send.sender = .abandoning) ∧
        ∀ a, (s.circuit c).send.active = some a → a.number ≠ number)) :
    State.statusAt number outcome ready c s = s := by
  unfold State.statusAt
  rcases h with h | h | ⟨h | h, hn⟩
  · rw [h]
  · rw [h]
  all_goals
    rw [h]
    cases ha : (s.circuit c).send.active with
    | none => rfl
    | some a => exact if_neg (hn a ha)

section
variable (ha : (s.circuit c).send.active = some a)
include ha

theorem statusAt_of_polling (hs : (s.circuit c).send.sender = .polling) (outcome : StatusOutcome) (ready : Bool) :
    State.statusAt a.number outcome ready c s = s.pollAnswer c a outcome ready := by
  unfold State.statusAt
  rw [hs, ha]
  exact if_pos rfl

theorem statusAt_of_abandoning (hs : (s.circuit c).send.sender = .abandoning) (outcome : StatusOutcome)
    (ready : Bool) : State.statusAt a.number outcome ready c s = s.abandonAnswer c a outcome ready := by
  unfold State.statusAt
  rw [hs, ha]
  exact if_pos rfl

end

/-! ### The answers that begin a round or a rewind (R38, R40) -/

@[simp] theorem takeAnswer_circuit (s : State) (c : CircuitNo) :
    (s.takeAnswer c).circuit c = { s.circuit c with timer := none, transfer := none } := by
  rw [takeAnswer_eq, circuit_setCircuit_self]

theorem frame_takeAnswer (s : State) (c : CircuitNo) : EngineFrame c s (s.takeAnswer c) := by
  rw [takeAnswer_eq]
  exact frame_setCircuit ..

/-- A good map below the round limit begins a new round (R38). -/
theorem pollAnswer_of_round {map : SegSet} {ready : Bool} (hm : a.mapGood map = true)
    (hr : a.round < (s.circuit c).roundLimit) : s.pollAnswer c a (.missing map) ready =
      s.setCircuit c { s.circuit c with
        timer := none, transfer := none
        send := { (s.circuit c).send with
          sender := .sending, pollCount := 0
          active := some { a with
            acked := BitVec.ofNat 64 (2 ^ a.count - 1) &&& ~~~map, toSend := map, round := a.round + 1 } } } := by
  show (s.takeAnswer c).missingAnswer c a map = _
  unfold State.missingAnswer
  rw [if_pos hm, takeAnswer_circuit, if_pos hr, State.newRound, State.onSend, State.onCircuit, takeAnswer_circuit,
    takeAnswer_eq, setCircuit_setCircuit]
  rfl

theorem pollAnswer_of_bad {map : SegSet} {ready : Bool} (hm : ¬ a.mapGood map = true) :
    s.pollAnswer c a (.missing map) ready = (s.takeAnswer c).protocolError c := if_neg hm

/-- A protocol error after an answer has been taken (R36, R38, R40). -/
theorem takeAnswer_protocolError (s : State) (c : CircuitNo) :
    let t := (s.takeAnswer c).protocolError c
    EngineFrame c s t ∧ t.circuit c = rewindingRecord (s.circuit c) 0x09 .part s.link.config.rewindTimer ∧
      Requeued (s.circuit c) s t ∧ t.events = s.events ∧ t.loose = s.loose := by
  obtain ⟨hframe, hrec, hqueued, hevents, hloose⟩ := protocolError_spec (s.takeAnswer c) c
  rw [takeAnswer_circuit] at hrec hqueued
  rw [takeAnswer_eq] at *
  exact ⟨(frame_setCircuit ..).trans hframe, hrec, hqueued, hevents, hloose⟩

/-! ### The advance (R37) -/

/-- The state after the answer e has decided the active block a (R37). -/
def State.decided (s : State) (c : CircuitNo) (a : ActiveBlock) (ready : Bool) (e : Event) : State :=
  ((s.takeAnswer c).raise e).advance c a ready

theorem pollAnswer_complete (s : State) (c : CircuitNo) (a : ActiveBlock) (ready : Bool) :
    s.pollAnswer c a .complete ready = s.decided c a ready (sentOf c a (s.descriptor a.desc).tag) := rfl

theorem abandonAnswer_complete (s : State) (c : CircuitNo) (a : ActiveBlock) (ready : Bool) :
    s.abandonAnswer c a .complete ready = s.decided c a ready (sentOf c a (s.descriptor a.desc).tag) := rfl

theorem abandonAnswer_abandoned (s : State) (c : CircuitNo) (a : ActiveBlock) (ready : Bool) :
    s.abandonAnswer c a .abandoned ready = s.decided c a ready (failedOf c a (s.descriptor a.desc).tag) := rfl

section
variable {e : Event} (he : e.circuit = some c) (ready : Bool)
include he

/-- With nothing queued behind the block the sender is IDLE (R29, R37). -/
theorem decided_of_empty (hq : (s.circuit c).send.queue = []) :
    let t := s.decided c a ready e
    EngineFrame c s t ∧
      t.circuit c = { s.circuit c with
        stale := (t.circuit c).stale, timer := none, transfer := none, send := (s.circuit c).send.advanced a ready } ∧
      t.descriptors = s.descriptors.set a.desc.val (freed s a.desc) ∧ t.loose = s.loose ∧ Raised s t e := by
  obtain ⟨v, hv, hframe, hrec, hdesc, hloose, hraised⟩ := advance_spec s c a ready e he
  have hqueue : (v.circuit c).send.queue = [] := by rw [hrec]; exact hq
  rw [State.decided, hv, startDecision_empty hqueue]
  refine ⟨hframe.trans (frame_onSend ..), ?_, hdesc, hloose, hraised.onSend c _⟩
  rw [State.onSend, circuit_onCircuit_self]
  generalize (v.circuit c).stale = b at hrec
  rw [hrec]
  rfl

/-- With blocks queued and the peer not ready the sender is HELD, and its first PROBE waits (R29, R37). -/
theorem decided_of_unready (hq : (s.circuit c).send.queue ≠ []) :
    let t := s.decided c a false e
    EngineFrame c s t ∧
      t.circuit c = { s.circuit c with
        stale := (t.circuit c).stale, transfer := none
        timer := some { purpose := .probe, remaining := s.link.config.probeInterval }
        send := { (s.circuit c).send.advanced a false with sender := .held } } ∧
      t.descriptors = s.descriptors.set a.desc.val (freed s a.desc) ∧ t.loose = s.loose ∧ Raised s t e := by
  obtain ⟨v, hv, hframe, hrec, hdesc, hloose, hraised⟩ := advance_spec s c a false e he
  have hqueue : (v.circuit c).send.queue ≠ [] := by rw [hrec]; exact hq
  rw [State.decided, hv, startDecision_waiting hqueue (by rw [hrec]; rfl), hframe.link]
  refine ⟨hframe.trans ((frame_onSend ..).trans (frame_startTimer ..)), ?_, hdesc, hloose,
    (hraised.onSend c _).startTimer c _ _⟩
  rw [State.startTimer, State.onSend, circuit_onCircuit_self, circuit_onCircuit_self]
  generalize (v.circuit c).stale = b at hrec
  rw [hrec]
  rfl

/-- With the peer ready the head of the queue starts (R29, R30, R37). -/
theorem decided_of_ready (hq : (s.circuit c).send.queue.Nodup) :
    EngineFrame c s (s.decided c a true e) ∧
      HeadStarted c (codeOf id (s.circuit c).maxSegments)
        { s.circuit c with timer := none, transfer := none, send := (s.circuit c).send.advanced a true } [e]
        { s with descriptors := s.descriptors.set a.desc.val (freed s a.desc) } (s.decided c a true e) := by
  obtain ⟨v, hv, hframe, hrec, hdesc, hloose, hraised⟩ := advance_spec s c a true e he
  rw [State.decided, hv]
  exact ⟨hframe.trans (frame_startDecision ..), headStarted true ⟨_, hrec⟩ hdesc hframe.tx hloose
    (fun hroom => hraised (Nat.le_of_succ_le_succ hroom)) (getD_zero_eq_codeOf _) rfl hq⟩

end

/-! ### The give-up (R41) -/

/-- The state after the answer that ends its rounds has failed the block a (R36, R41). -/
def State.failed (s : State) (c : CircuitNo) (a : ActiveBlock) : State := (s.takeAnswer c).failActive c a

/-- A block failed without an advance: its event is raised and its descriptor freed (R41). -/
theorem failed_eq (s : State) (c : CircuitNo) (a : ActiveBlock) :
    s.failed c a =
      (((s.takeAnswer c).raise (failedOf c a (s.descriptor a.desc).tag)).setDescriptor a.desc (freed s a.desc)).onSend c
        fun x => { x with active := none } := by
  unfold State.failed State.failActive
  rw [freeDescriptor_eq]
  have hfreed : freed ((s.takeAnswer c).raiseFailed c a) a.desc = freed s a.desc := by
    unfold freed State.pinnedDescriptor State.descriptor State.raiseFailed
    rw [raise_tx, raise_descriptors]
    rfl
  rw [hfreed]
  rfl

/-- What the failure of the active block changes (R36, R41). -/
theorem failed_spec (s : State) (c : CircuitNo) (a : ActiveBlock) :
    let t := s.failed c a
    EngineFrame c s t ∧
      (∃ stale, t.circuit c = { s.circuit c with
        stale, timer := none, transfer := none, send := { (s.circuit c).send with active := none } }) ∧
      (∀ d, t.descriptor d = if d = a.desc then freed s d else s.descriptor d) ∧ t.loose = s.loose ∧
      Raised s t (failedOf c a (s.descriptor a.desc).tag) := by
  obtain ⟨stale, hrec⟩ := failActive_circuit (s.takeAnswer c) c a
  rw [takeAnswer_circuit] at hrec
  refine ⟨(frame_takeAnswer s c).trans (frame_failActive ..), ⟨stale, hrec⟩, fun d => ?_, ?_, ?_⟩
  · rw [failed_eq]
    refine (descriptor_setDescriptor ..).trans (ite_congr rfl (fun hd => by rw [hd]) fun _ => ?_)
    exact congrArg (fun v : Vector Descriptor 256 => v[d.val]) (raise_descriptors ..)
  · rw [failed_eq]
    exact raise_loose ..
  · rw [failed_eq]
    have hraise : Raised s ((s.takeAnswer c).raise (failedOf c a (s.descriptor a.desc).tag))
        (failedOf c a (s.descriptor a.desc).tag) := by
      rw [takeAnswer_eq]
      exact raised_of_raise rfl rfl (stale_setCircuit s c _ rfl)
    exact (hraise.then (u := State.setDescriptor _ a.desc (freed s a.desc)) rfl rfl fun _ => rfl).onSend c _

end

end Sys2Proof.Machine

/-! PROOFS. The give-up policy of a block whose rounds are used up (R41, R42), and the BLOCK-STATUS frames that answer
a block (R36 to R43). -/

namespace Sys2Proof.Machine

/-! ### A block failed without an advance, and the move that follows (R41) -/

/-- What a give-up that fails the block a leaves: circuit c's record is q, the descriptors of `freeing` are freed, and
BLOCK-FAILED with cause ROUNDS is raised (R41). -/
structure GivenUp (c : CircuitNo) (a : ActiveBlock) (q : CircuitRecord) (freeing : DescNo → Prop) (s t : State) :
    Prop where
  frame       : EngineFrame c s t
  record      : t.circuit c = { q with stale := (t.circuit c).stale }
  loose       : t.loose = s.loose
  descriptors : ∀ d, (freeing d → t.descriptor d = freed s d) ∧ (¬ freeing d → t.descriptor d = s.descriptor d)
  raised      : Raised s t (failedOf c a (s.descriptor a.desc).tag)

/-- The record without its active block (R41). -/
def CircuitRecord.withoutActive (r : CircuitRecord) : CircuitRecord := { r with send := { r.send with active := none } }

section
variable {s u : State} {c : CircuitNo} {a : ActiveBlock}

/-- Freeing after the block has failed is freeing before it (R81). -/
theorem freed_failed (s : State) (c : CircuitNo) (a : ActiveBlock) (d : DescNo) :
    freed (s.failed c a) d = freed s d := by
  obtain ⟨hframe, -, hdesc, -⟩ := failed_spec s c a
  have hpin : (s.failed c a).pinnedDescriptor = s.pinnedDescriptor := by
    unfold State.pinnedDescriptor
    rw [hframe.tx]
  by_cases hd : d = a.desc
  · exact freed_freed hpin ((hdesc d).trans (if_pos hd))
  · unfold freed
    rw [hpin, hdesc, if_neg hd]

/-- A move that frees the blocks of `dropped` after the block has failed (R41). -/
theorem givenUp_of_move {q : CircuitRecord} {dropped : DescNo → Prop}
    (hframe : EngineFrame c (s.failed c a) u) (hevents : u.events = (s.failed c a).events)
    (hloose : u.loose = (s.failed c a).loose)
    (hrec : u.circuit c = { q with stale := ((s.failed c a).circuit c).stale })
    (hdropped : ∀ d, (dropped d → u.descriptor d = freed (s.failed c a) d) ∧
      (¬ dropped d → u.descriptor d = (s.failed c a).descriptor d)) :
    GivenUp c a q (fun d => d = a.desc ∨ dropped d) s u := by
  obtain ⟨hfailed, -, hdesc, hloose', hraised⟩ := failed_spec s c a
  have hstale : (u.circuit c).stale = ((s.failed c a).circuit c).stale := by rw [hrec]
  refine ⟨hfailed.trans hframe, by rw [hstale]; exact hrec, hloose.trans hloose', fun d => ?_,
    hraised.then hevents hframe.linkStale fun k => ?_⟩
  · by_cases hd : dropped d
    · have hfreed := ((hdropped d).1 hd).trans (freed_failed s c a d)
      exact ⟨fun _ => hfreed, fun h => absurd (.inr hd) h⟩
    · have hkept := ((hdropped d).2 hd).trans (hdesc d)
      exact ⟨fun h => hkept.trans (if_pos (h.resolve_right hd)), fun h => hkept.trans (if_neg fun hd => h (.inl hd))⟩
  · by_cases hk : k = c
    · rw [hk, hstale]
    · rw [hframe.others k hk]

/-- Under give-up REWIND the block fails and the circuit is rewound with cause ROUNDS (R41). -/
theorem giveUp_rewinds (s : State) (c : CircuitNo) (a : ActiveBlock) :
    GivenUp c a (rewindingRecord (s.circuit c).withoutActive 0x0A .part s.link.config.rewindTimer)
      (fun d => d = a.desc ∨ (s.circuit c).recv.assembly = some d) s
      ((s.failed c a).enterRewinding c Cause.rounds .part) := by
  obtain ⟨hfailed, ⟨stale, hw⟩, -⟩ := failed_spec s c a
  obtain ⟨hframe, hrec, hqueued, hevents, hloose⟩ :=
    enterRewinding_spec (s.failed c a) c Cause.rounds .part
  have hidle : ∀ d b, ((s.failed c a).circuit c).send.active = some b → b.desc ≠ d := by
    rw [hw]
    exact fun _ _ hb => nomatch hb
  have hasm : ((s.failed c a).circuit c).recv.assembly = (s.circuit c).recv.assembly := by rw [hw]
  refine givenUp_of_move hframe hevents hloose ?_ fun d => ?_
  · rw [hrec, hw, hfailed.link]
    rfl
  · obtain ⟨hkept, -, hfreed⟩ := hqueued d
    rw [hasm] at hkept hfreed
    exact ⟨hfreed (hidle d), hkept (hidle d)⟩

/-- Under give-up CLOSE the block fails and the circuit is closed with cause ROUNDS (R41). -/
theorem giveUp_closes (s : State) (c : CircuitNo) (a : ActiveBlock) :
    GivenUp c a (closingRecord (s.circuit c).withoutActive 0x0A 0 .part s.link.config.closeTimer)
      (fun d => d = a.desc ∨ d ∈ (s.circuit c).send.queue ∨ (s.circuit c).recv.assembly = some d) s
      ((s.failed c a).enterClosing c Cause.rounds 0 .part) := by
  obtain ⟨hfailed, ⟨stale, hw⟩, -⟩ := failed_spec s c a
  obtain ⟨hframe, hdrop, hevents, hloose, hrec⟩ :=
    enterClosing_spec (s.failed c a) c Cause.rounds 0 .part
  refine givenUp_of_move hframe hevents hloose ?_ fun d => ?_
  · rw [hrec, hw, hfailed.link]
    rfl
  · have hholds : ((s.failed c a).circuit c).holds d ↔
        d ∈ (s.circuit c).send.queue ∨ (s.circuit c).recv.assembly = some d := by
      rw [hw]
      rfl
    rw [← hholds]
    exact hdrop d

/-! ### A MISSING with the rounds used up (R38, R41) -/

section
variable {map : SegSet} {ready : Bool} (hm : a.mapGood map = true) (hr : (s.circuit c).roundLimit ≤ a.round)
include hm hr

theorem pollAnswer_of_rounds : s.pollAnswer c a (.missing map) ready = (s.takeAnswer c).giveUp c a := by
  show (s.takeAnswer c).missingAnswer c a map = _
  unfold State.missingAnswer
  rw [if_pos hm, takeAnswer_circuit, if_neg (Nat.not_lt.2 hr)]

/-- Under give-up ABANDON the abandon exchange begins (R42). -/
theorem pollAnswer_of_abandon (hp : (s.circuit c).policy = some .abandon) :
    s.pollAnswer c a (.missing map) ready = s.setCircuit c { s.circuit c with
      timer := none, transfer := some .blockAbandon
      send := { (s.circuit c).send with sender := .abandoning, pollCount := 1 } } := by
  rw [pollAnswer_of_rounds hm hr, State.giveUp, takeAnswer_circuit, hp]
  show (s.takeAnswer c).beginAbandon c = _
  rw [State.beginAbandon, State.onSend, State.setTransfer, onCircuit_onCircuit, State.onCircuit, takeAnswer_circuit,
    takeAnswer_eq, setCircuit_setCircuit]

theorem pollAnswer_of_rewind (hp : (s.circuit c).policy = some .rewind) :
    s.pollAnswer c a (.missing map) ready = (s.failed c a).enterRewinding c Cause.rounds .part := by
  rw [pollAnswer_of_rounds hm hr, State.giveUp, takeAnswer_circuit, hp]
  rfl

theorem pollAnswer_of_close (hp : (s.circuit c).policy = some .close) :
    s.pollAnswer c a (.missing map) ready = (s.failed c a).enterClosing c Cause.rounds 0 .part := by
  rw [pollAnswer_of_rounds hm hr, State.giveUp, takeAnswer_circuit, hp]
  rfl

end

end

/-- Settles O45: with its rounds used up, a good map in POLLING comes to the policy of the record. -/
theorem giveUpAppliesThePolicy : Obligations.GiveUpAppliesThePolicy := by
  intro s dst ready map c a hr ho hs ha hmap hsegs hcount hround r row without fails
  have hm : a.mapGood map = true := (mapGood_iff a map hcount).2 ⟨hmap, hsegs⟩
  have answered {t : State} (ht : s.heard.pollAnswer c a (.missing map) ready = t) : exec row s = .next t :=
    hr.exec_blockStatus ho ((statusAt_of_polling (s := s.heard) ha hs ..).trans ht)
  have fails_of {q : CircuitRecord} {freeing : DescNo → Prop} {t : State} (hrow : exec row s = .next t)
      (h : GivenUp c a q freeing s.heard t) : fails q freeing :=
    ⟨t, hrow, h.frame, h.record, h.loose, h.descriptors, h.raised⟩
  exact ⟨fun hp => answered (pollAnswer_of_abandon (s := s.heard) hm hround hp),
    fun hp => fails_of (answered (pollAnswer_of_rewind (s := s.heard) hm hround hp)) (giveUp_rewinds s.heard c a),
    fun hp => fails_of (answered (pollAnswer_of_close (s := s.heard) hm hround hp)) (giveUp_closes s.heard c a)⟩

/-- Settles O44: a BLOCK-STATUS by the sender's state, and the answer to the active block by its outcome. -/
theorem blockStatusArrivalDecidesTheBlock : Obligations.BlockStatusArrivalDecidesTheBlock := by
  constructor
  · intro s dst number outcome ready c hr ho x h
    exact hr.exec_blockStatus ho (statusAt_of_unmatched (s := s.heard) h)
  · intro s dst ready c a hr ho ha hcount r row goodMap rewinds advances
    have rewinds_of {outcome : StatusOutcome} (hrow : exec (row outcome) s =
        .next ((s.heard.takeAnswer c).protocolError c)) : rewinds outcome :=
      ⟨_, hrow, takeAnswer_protocolError s.heard c⟩
    have advances_of {outcome : StatusOutcome} {e : Event} (he : e.circuit = some c)
        (hrow : exec (row outcome) s = .next (s.heard.decided c a ready e)) : advances outcome e := by
      refine ⟨fun hq => ⟨_, hrow, decided_of_empty (s := s.heard) he ready hq⟩, fun hq hready => ?_,
        fun hready hq _ => ?_⟩
      · subst hready
        exact ⟨_, hrow, decided_of_unready (s := s.heard) he hq⟩
      · subst hready
        exact ⟨_, hrow, decided_of_ready (s := s.heard) he hq⟩
    refine ⟨fun hs => ?_, fun hs => ?_⟩
    · have answered {outcome : StatusOutcome} {t : State} (ht : s.heard.pollAnswer c a outcome ready = t) :
          exec (row outcome) s = .next t :=
        hr.exec_blockStatus ho ((statusAt_of_polling (s := s.heard) ha hs ..).trans ht)
      have good (map : SegSet) : a.mapGood map = true ↔ goodMap map := mapGood_iff a map hcount
      exact ⟨fun map hm hround => answered (pollAnswer_of_round (s := s.heard) ((good map).2 hm) hround),
        fun map hm => rewinds_of (answered (pollAnswer_of_bad (mt (good map).1 hm))),
        advances_of rfl (answered (pollAnswer_complete s.heard c a ready)),
        rewinds_of (answered rfl)⟩
    · have answered {outcome : StatusOutcome} {t : State} (ht : s.heard.abandonAnswer c a outcome ready = t) :
          exec (row outcome) s = .next t :=
        hr.exec_blockStatus ho ((statusAt_of_abandoning (s := s.heard) ha hs ..).trans ht)
      exact ⟨fun map => answered rfl,
        advances_of rfl (answered (abandonAnswer_complete s.heard c a ready)),
        advances_of rfl (answered (abandonAnswer_abandoned s.heard c a ready))⟩

end Sys2Proof.Machine
